-- ==== Sys2Proof/Word.lean ====
section
/-! DEFINITION. The words of the port bus (chapter 11), line numbers and port names. -/

namespace Sys2Proof

/-- A word at one of the four word addresses of a port (chapter 11: 16 bits, bit 15 most significant). -/
abbrev Word := BitVec 16

/-- A character of 8 bits (chapter 0, Characters). -/
abbrev Byte := BitVec 8

/-- A value that spans two words, sent high word first (chapter 11). -/
abbrev DWord := BitVec 32

/-- A line number, 0 to 31. -/
abbrev LineId := Fin 32

/-- The two processor ports: T of the time-sharing processor, A of the accounting processor. -/
inductive PortId
  | t
  | a
  deriving DecidableEq, Repr

/-- The other of the two ports (R194). -/
def PortId.other : PortId → PortId
  | .t => .a
  | .a => .t

/-- A bank of `n` like things (32 lines, 4 groups, 16 slots): a list that carries its length. -/
structure Bank (α : Type) (n : Nat) where
  cells : List α
  size : cells.length = n
  deriving DecidableEq, Repr

/-- The thing at place `i`. -/
def Bank.get {α : Type} {n : Nat} (b : Bank α n) (i : Fin n) : α :=
  b.cells[i.val]'(by rw [b.size]; exact i.isLt)

/-- The bank with place `i` replaced. -/
def Bank.set {α : Type} {n : Nat} (b : Bank α n) (i : Fin n) (x : α) : Bank α n :=
  ⟨b.cells.set i.val x, by rw [List.length_set, b.size]⟩

/-- The bank whose place `i` holds `f i`. -/
def Bank.ofFn {α : Type} {n : Nat} (f : Fin n → α) : Bank α n := ⟨List.ofFn f, List.length_ofFn⟩

/-- The bank with every place alike. -/
def Bank.replicate {α : Type} (n : Nat) (x : α) : Bank α n := ⟨List.replicate n x, List.length_replicate⟩

end Sys2Proof
end

