-- ==== Sys2Proof/Syntax.lean ====
section
/-! DEFINITION. The commands: one constructor for each row of spec/opcode_table.json. -/

namespace Sys2Proof

/-- The steps of the part, in the order of the table. A row that a processor gives as a command record
carries the port that gives it and the argument words of Table 11-4 as they stand in the record (a value
outside its range included: the owning block refuses it). A row that is an event carries the line it
happens on and what the event brings. -/
inductive Instr
  -- bus accesses at a port (chapter 10)
  | dataWrite (p : PortId) (w : Word)
  | dataRead (p : PortId)
  | go (p : PortId)
  | abortBuild (p : PortId)
  | reread (p : PortId)
  | controlWriteNoRequest (p : PortId) (w : Word)
  | attentionWrite (p : PortId) (w : Word)
  | maskWrite (p : PortId) (w : Word)
  -- line and group commands (chapter 1)
  | groupSet (p : PortId) (group ringCount carrierWait signOnLimit lossCount speedSet rateFactor idleSelect : Word)
  | lineEnable (p : PortId) (line on : Word)
  | groupEnable (p : PortId) (group on : Word)
  | clearFault (p : PortId) (line : Word)
  | lineTest (p : PortId) (line speed : Word)
  | readLine (p : PortId) (line : Word)
  -- transport commands (chapter 2)
  | takeInput (p : PortId) (maximum : Word)
  | send (p : PortId) (line serial count : Word) (chars : List Byte)
  | readSpace (p : PortId)
  | writeMessage (p : PortId) (slot : Byte) (final : Bool) (offset count : Word) (chars : List Byte)
  -- account commands (chapter 4)
  | accountAdd (p : PortId) (user : DWord) (cls : Word) (check : DWord) (limit : Word) (balance : DWord)
  | accountSet (p : PortId) (user : DWord) (cls : Word) (check : DWord) (limit : Word)
  | accountDelete (p : PortId) (user : DWord)
  | credit (p : PortId) (user amount : DWord)
  | debit (p : PortId) (user amount : DWord)
  | suspend (p : PortId) (user : DWord) (logout : Word)
  | resume (p : PortId) (user : DWord)
  | unlock (p : PortId) (user : DWord)
  | readAccount (p : PortId) (user : DWord)
  | sweep (p : PortId) (after : DWord)
  | closePeriod (p : PortId)
  -- hold commands (chapter 5)
  | holdRequest (p : PortId) (limit : Word)
  | holdRelease (p : PortId)
  | holdStatus (p : PortId)
  -- clock, tariff and class commands (chapter 6)
  | setClock (p : PortId) (year month day hour minute second : Byte) (weekday : Word)
  | readClock (p : PortId)
  | tariffWrite (p : PortId) (schedule first final count : Word) (bands : List Word)
  | dayMapWrite (p : PortId) (d1 d2 d3 d4 d5 d6 d7 : Word)
  | classWrite (p : PortId) (cls setup floor warn grace idleWarn idleLimit rounding failLimit lockout : Word)
  -- session commands (chapters 7 and 8)
  | readSession (p : PortId) (line : Word)
  | logoff (p : PortId) (line serial : Word)
  | shutdownSessions (p : PortId)
  | postCharge (p : PortId) (user : DWord) (units serial : Word)
  | setWatch (p : PortId) (window limit : Word)
  | watchStatus (p : PortId)
  | admission (p : PortId) (vote : Word)
  | restart (p : PortId)
  -- billing commands (chapter 9)
  | peekBilling (p : PortId)
  | releaseBilling (p : PortId) (sequence : Word)
  -- the arbiter (chapter 5)
  | commandTableAccess
  -- line events (chapters 1, 2 and 3)
  | qualifiedRing (i : LineId)
  | ringGapExpiry (i : LineId)
  | carrierPresent (i : LineId)
  | carrierWaitExpiry (i : LineId)
  | carrierLoss (i : LineId)
  | speedMeasurement (i : LineId) (ticks : Nat)
  | speedMarkWaitEnd (i : LineId)
  | speedWaitExpiry (i : LineId)
  | hangupGuardExpiry (i : LineId)
  | stuckCarrier (i : LineId)
  | ringStuck (i : LineId)
  | lineTestEnd (i : LineId)
  /-- A frame of 8 sampled data bits, the first sampled in bit 0, and its stop-bit sample (true is mark; R32). -/
  | characterReceived (i : LineId) (data : Byte) (stopMark : Bool)
  | breakReceived (i : LineId)
  | characterSent (i : LineId)
  | signOnTimerExpiry (i : LineId)
  | verdict
  -- clock and metering events (chapters 6 and 7)
  | clockAdvance
  | rememberedTickPass
  | meteringPassAccess
  | graceTimerExpiry (i : LineId)
  | idleLimit (i : LineId)
  | idleWarnThreshold (i : LineId)
  | closeAccountWork
  -- hold events (chapter 5)
  | holdGrant
  | holdLimitExpiry
  | releasePosting
  | secondsDueAccess
  -- watch events (chapter 8)
  | watchTimerExpiry
  | holdDownExpiry
  -- power events (chapters 6 and 8)
  | mainPowerFailure
  | mainPowerUp
  | reset
  | retainedPowerUp
  /-- One scan of all lines: bit i of each operand is the sample of line i (1 is active, present; R9). -/
  | scan (ring carrier : BitVec 32)
  deriving DecidableEq, Repr

end Sys2Proof
end

