-- ==== Sys2Proof/Decode.lean ====
section
/-! DEFINITION. The words of the command path: the requests of CONTROL (section 11.1), and command records (section
11.2), from the words of a record to the row it spells (`decodeRecord`) and back (`encodeRecord`). The opcode table gives its rows no bits, so `decodeTableWord` answers none. -/

namespace Sys2Proof

/-- The requests of a write at CONTROL (Table 11-3). -/
inductive ControlRequest
  | go
  | abortBuild
  | reread
  deriving DecidableEq, Repr

/-- The request that a word written at CONTROL holds (Table 11-3); any other value is no request (R198). -/
def controlRequest (w : Word) : Option ControlRequest :=
  if w = 0x5A01 then some .go
  else if w = 0x5A02 then some .abortBuild
  else if w = 0x5A03 then some .reread
  else none

/-- The high byte of a word. -/
def hiByte (w : Word) : Byte := w.extractLsb' 8 8

/-- The low byte of a word. -/
def loByte (w : Word) : Byte := w.extractLsb' 0 8

/-- The high word of a two-word value (R199). -/
def hiWord (d : DWord) : Word := d.extractLsb' 16 16

/-- The low word of a two-word value (R199). -/
def loWord (d : DWord) : Word := d.extractLsb' 0 16

/-- Characters packed two to a word, the first in bits 15 to 8 (R199). -/
def packChars : List Byte → List Word
  | [] => []
  | [a] => [a ++ (0 : Byte)]
  | a :: b :: rest => (a ++ b) :: packChars rest

/-- The characters of packed words, first in bits 15 to 8 (R199). -/
def unpackChars : List Word → List Byte
  | [] => []
  | w :: rest => hiByte w :: loByte w :: unpackChars rest

/-- The characters of SEND and WRITE MESSAGE (R199): `half the count, rounded up` words are called for when the
count is inside its range; a count outside its range is not length-checked. None is a wrong length. -/
def charArgs (lowest : Nat) (count : Word) (ws : List Word) : Option (List Byte) :=
  if lowest ≤ count.toNat ∧ count.toNat ≤ 32 then
    if ws.length = (count.toNat + 1) / 2 then some ((unpackChars ws).take count.toNat) else none
  else some (unpackChars ws)

/-- The band words of TARIFF WRITE (R199): 5 words a band when the count is inside its range 0 to 3. -/
def bandArgs (count : Word) (ws : List Word) : Option (List Word) :=
  if count.toNat ≤ 3 then
    if ws.length = 5 * count.toNat then some ws else none
  else some ws

/-- The row that a record with command code `code` and argument words `args` spells at port `p` (Table 11-4,
Table 11-7). None: no code of the table, or a wrong length (R185, step 1). -/
def decodeCommand (p : PortId) (code : Nat) (args : List Word) : Option Instr :=
  match code with
  | 0x10 => match args with
    | [g, rc, cw, sl, lc, ss, rf, ie] => some (.groupSet p g rc cw sl lc ss rf ie)
    | _ => none
  | 0x11 => match args with
    | [l, e] => some (.lineEnable p l e)
    | _ => none
  | 0x12 => match args with
    | [g, e] => some (.groupEnable p g e)
    | _ => none
  | 0x13 => match args with
    | [l] => some (.clearFault p l)
    | _ => none
  | 0x14 => match args with
    | [l, sp] => some (.lineTest p l sp)
    | _ => none
  | 0x15 => match args with
    | [l] => some (.readLine p l)
    | _ => none
  | 0x20 => match args with
    | [m] => some (.takeInput p m)
    | _ => none
  | 0x21 => match args with
    | l :: sr :: c :: ws => (charArgs 1 c ws).map (.send p l sr c)
    | _ => none
  | 0x22 => match args with
    | [] => some (.readSpace p)
    | _ => none
  | 0x23 => match args with
    | sf :: o :: c :: ws => (charArgs 0 c ws).map (.writeMessage p (hiByte sf) (sf.getLsbD 0) o c)
    | _ => none
  | 0x30 => match args with
    | [uh, ul, k, ch, cl, sl, bh, bl] => some (.accountAdd p (uh ++ ul) k (ch ++ cl) sl (bh ++ bl))
    | _ => none
  | 0x31 => match args with
    | [uh, ul, k, ch, cl, sl] => some (.accountSet p (uh ++ ul) k (ch ++ cl) sl)
    | _ => none
  | 0x32 => match args with
    | [uh, ul] => some (.accountDelete p (uh ++ ul))
    | _ => none
  | 0x33 => match args with
    | [uh, ul, ah, al] => some (.credit p (uh ++ ul) (ah ++ al))
    | _ => none
  | 0x34 => match args with
    | [uh, ul, ah, al] => some (.debit p (uh ++ ul) (ah ++ al))
    | _ => none
  | 0x35 => match args with
    | [uh, ul, lo] => some (.suspend p (uh ++ ul) lo)
    | _ => none
  | 0x36 => match args with
    | [uh, ul] => some (.resume p (uh ++ ul))
    | _ => none
  | 0x37 => match args with
    | [uh, ul] => some (.unlock p (uh ++ ul))
    | _ => none
  | 0x38 => match args with
    | [uh, ul] => some (.readAccount p (uh ++ ul))
    | _ => none
  | 0x39 => match args with
    | [uh, ul] => some (.sweep p (uh ++ ul))
    | _ => none
  | 0x3A => match args with
    | [] => some (.closePeriod p)
    | _ => none
  | 0x40 => match args with
    | [n] => some (.holdRequest p n)
    | _ => none
  | 0x41 => match args with
    | [] => some (.holdRelease p)
    | _ => none
  | 0x42 => match args with
    | [] => some (.holdStatus p)
    | _ => none
  | 0x50 => match args with
    | [w1, w2, w3, wd] =>
      some (.setClock p (hiByte w1) (loByte w1) (hiByte w2) (loByte w2) (hiByte w3) (loByte w3) wd)
    | _ => none
  | 0x51 => match args with
    | [] => some (.readClock p)
    | _ => none
  | 0x52 => match args with
    | sc :: fb :: fi :: c :: ws => (bandArgs c ws).map (.tariffWrite p sc fb fi c)
    | _ => none
  | 0x53 => match args with
    | [d1, d2, d3, d4, d5, d6, d7] => some (.dayMapWrite p d1 d2 d3 d4 d5 d6 d7)
    | _ => none
  | 0x54 => match args with
    | [k, su, fl, wa, gr, iw, il, ro, fa, lo] => some (.classWrite p k su fl wa gr iw il ro fa lo)
    | _ => none
  | 0x60 => match args with
    | [l] => some (.readSession p l)
    | _ => none
  | 0x61 => match args with
    | [l, sr] => some (.logoff p l sr)
    | _ => none
  | 0x62 => match args with
    | [] => some (.shutdownSessions p)
    | _ => none
  | 0x63 => match args with
    | [uh, ul, n, sr] => some (.postCharge p (uh ++ ul) n sr)
    | _ => none
  | 0x64 => match args with
    | [w, l] => some (.setWatch p w l)
    | _ => none
  | 0x65 => match args with
    | [] => some (.watchStatus p)
    | _ => none
  | 0x66 => match args with
    | [v] => some (.admission p v)
    | _ => none
  | 0x67 => match args with
    | [] => some (.restart p)
    | _ => none
  | 0x70 => match args with
    | [] => some (.peekBilling p)
    | _ => none
  | 0x71 => match args with
    | [n] => some (.releaseBilling p n)
    | _ => none
  | _ => none

/-- R185 step 1 and R199: the row that a command record spells at port `p`; none is BAD_COMMAND. A command word
whose high byte is not 0 is no code of the table. -/
def decodeRecord (p : PortId) : List Word → Option Instr
  | [] => none
  | w :: args => decodeCommand p w.toNat args

/-- The port of a row that is given as a command record. -/
def Instr.commandPort : Instr → Option PortId
  | .groupSet p .. | .lineEnable p .. | .groupEnable p .. | .clearFault p .. | .lineTest p .. | .readLine p ..
  | .takeInput p .. | .send p .. | .readSpace p | .writeMessage p .. | .accountAdd p .. | .accountSet p ..
  | .accountDelete p .. | .credit p .. | .debit p .. | .suspend p .. | .resume p .. | .unlock p ..
  | .readAccount p .. | .sweep p .. | .closePeriod p | .holdRequest p .. | .holdRelease p | .holdStatus p
  | .setClock p .. | .readClock p | .tariffWrite p .. | .dayMapWrite p .. | .classWrite p .. | .readSession p ..
  | .logoff p .. | .shutdownSessions p | .postCharge p .. | .setWatch p .. | .watchStatus p | .admission p ..
  | .restart p | .peekBilling p | .releaseBilling p .. => some p
  | _ => none

/-- The words of the record that spells a command row (Table 11-4, Table 11-7); no words for another row. -/
def encodeRecord : Instr → List Word
  | .groupSet _ g rc cw sl lc ss rf ie => [0x10, g, rc, cw, sl, lc, ss, rf, ie]
  | .lineEnable _ l e => [0x11, l, e]
  | .groupEnable _ g e => [0x12, g, e]
  | .clearFault _ l => [0x13, l]
  | .lineTest _ l sp => [0x14, l, sp]
  | .readLine _ l => [0x15, l]
  | .takeInput _ m => [0x20, m]
  | .send _ l sr c cs => [0x21, l, sr, c] ++ packChars cs
  | .readSpace _ => [0x22]
  | .writeMessage _ sl f o c cs => [0x23, sl ++ (if f then 1 else 0 : Byte), o, c] ++ packChars cs
  | .accountAdd _ u k h sl b => [0x30, hiWord u, loWord u, k, hiWord h, loWord h, sl, hiWord b, loWord b]
  | .accountSet _ u k h sl => [0x31, hiWord u, loWord u, k, hiWord h, loWord h, sl]
  | .accountDelete _ u => [0x32, hiWord u, loWord u]
  | .credit _ u n => [0x33, hiWord u, loWord u, hiWord n, loWord n]
  | .debit _ u n => [0x34, hiWord u, loWord u, hiWord n, loWord n]
  | .suspend _ u lo => [0x35, hiWord u, loWord u, lo]
  | .resume _ u => [0x36, hiWord u, loWord u]
  | .unlock _ u => [0x37, hiWord u, loWord u]
  | .readAccount _ u => [0x38, hiWord u, loWord u]
  | .sweep _ u => [0x39, hiWord u, loWord u]
  | .closePeriod _ => [0x3A]
  | .holdRequest _ n => [0x40, n]
  | .holdRelease _ => [0x41]
  | .holdStatus _ => [0x42]
  | .setClock _ y mo d h mi se wd => [0x50, y ++ mo, d ++ h, mi ++ se, wd]
  | .readClock _ => [0x51]
  | .tariffWrite _ sc fb fi c ws => [0x52, sc, fb, fi, c] ++ ws
  | .dayMapWrite _ d1 d2 d3 d4 d5 d6 d7 => [0x53, d1, d2, d3, d4, d5, d6, d7]
  | .classWrite _ k su fl wa gr iw il ro fa lo => [0x54, k, su, fl, wa, gr, iw, il, ro, fa, lo]
  | .readSession _ l => [0x60, l]
  | .logoff _ l sr => [0x61, l, sr]
  | .shutdownSessions _ => [0x62]
  | .postCharge _ u n sr => [0x63, hiWord u, loWord u, n, sr]
  | .setWatch _ w l => [0x64, w, l]
  | .watchStatus _ => [0x65]
  | .admission _ v => [0x66, v]
  | .restart _ => [0x67]
  | .peekBilling _ => [0x70]
  | .releaseBilling _ n => [0x71, n]
  | _ => []

/-- The row an opcode-table word spells. spec/opcode_table.json gives no row any bits (every row's "fields" is
empty and none has "fixed"), so no word spells a row (log entry 29). -/
def decodeTableWord (_nbits _w : Nat) : Option Instr := none

end Sys2Proof
end

