-- ==== Sys2Proof/Config.lean ====
section
/-! DEFINITION. What the spec fixes for every part (capacities) and what it leaves open (free values). -/

namespace Sys2Proof.Config

/-- The fields of a session whose range the spec gives as 0 to 4,294,967,295 (Table 7-1) without saying
what an addition that passes it leaves. -/
inductive Unstated
  | connectSeconds
  | heldSeconds
  | connectUnits
  deriving DecidableEq, Repr

/-- FREE VALUE, DESIGN CHOICE (log entry 11): what the field holds after the n-th addition that passes
4,294,967,295. It has no body: nothing can be proved of it but that it is a 32-bit value. -/
opaque unstated : Unstated → Nat → BitVec 32

/-- The largest value of a 32-bit field (Tables 4-1, 7-1, 9-2). -/
def max32 : Nat := 4294967295

/-- Places in the billing store (R167, R168). -/
def billingCapacity : Nat := 96

/-- Entries of the input queue (R28). -/
def inputCapacity : Nat := 256

/-- Characters of an output buffer (R36). -/
def bufferCapacity : Nat := 128

/-- Records of the account table (R70, R75). -/
def accountCapacity : Nat := 1024

/-- Records at which BILLING_HIGH holds (R180). -/
def billingHigh : Nat := 80

end Sys2Proof.Config
end

