-- ==== Sys2Proof/Machine/State.lean ====
section
/-! DEFINITION. Every piece of state the spec gives the part, as plain data, and the state after reset. -/

namespace Sys2Proof.Machine

/-! ### Calendar (chapter 6) -/

/-- A time stamp: a calendar value without its weekday (R114). -/
structure Stamp where
  year : Nat
  month : Nat
  day : Nat
  hour : Nat
  minute : Nat
  second : Nat
  deriving DecidableEq, Repr

/-- The calendar clock's value (Table 6-1). -/
structure Calendar where
  year : Nat
  month : Nat
  day : Nat
  hour : Nat
  minute : Nat
  second : Nat
  weekday : Nat
  deriving DecidableEq, Repr

/-- A timer: none when stopped, else the time left in tenths of a second, one scan each (log entry 5). -/
abbrev Timer := Option Nat

/-! ### Ports (chapter 10) -/

/-- Port states (Table 10-2). -/
inductive PortState
  | idle
  | building
  | busy
  | done
  deriving DecidableEq, Repr

/-- Status codes (Table 10-3, Table 11-6). -/
inductive Status
  | ok
  | badCommand
  | wrongPort
  | badArgument
  | notFound
  | exists_
  | inUse
  | tableFull
  | stale
  | noHold
  | holdBusy
  | retry
  | sequence
  | empty
  | lineState
  | restarted
  deriving DecidableEq, Repr

/-- Admission votes (R161). -/
inductive Vote
  | opened
  | closed
  deriving DecidableEq, Repr

/-- What a BUSY port's command is waiting for (R186): its owning block's work, an access to the account table,
or the end of its line test. -/
inductive JobKind
  | started
  | waiting
  | testing
  deriving DecidableEq, Repr

/-- The command a BUSY port is carrying. -/
structure Job where
  kind : JobKind
  command : Instr
  deriving DecidableEq, Repr

/-- Port unit state (Table 10-2, R182), with the word last driven on the data pins by a read at DATA. -/
structure PortUnit where
  state : PortState
  record : List Word
  overflow : Bool
  response : List Word
  readPos : Nat
  status : Status
  clamped : Bool
  starting : Bool
  latches : Word
  mask : Word
  vote : Vote
  job : Option Job
  bus : Word
  deriving DecidableEq, Repr

/-! ### Lines (chapters 1, 2, 3) -/

/-- Line states (Table 1-2). -/
inductive LineState
  | disabled
  | idle
  | busied
  | ringing
  | answering
  | speed
  | signOn
  | session
  | closing
  | hangup
  | test
  | faulted
  deriving DecidableEq, Repr

/-- Fault kinds (Table 1-1). -/
inductive FaultKind
  | none
  | stuckCarrier
  | ringStuck
  deriving DecidableEq, Repr

/-- What a transmitter may send as one item (R50): a message slot, one echoed digit, or the erase echo. -/
inductive OutItem
  | slot (k : Nat)
  | echo (c : Byte)
  | erase
  deriving DecidableEq, Repr

/-- Dialog phases (Table 3-2). -/
inductive Phase
  | idEntry
  | passEntry
  | checkWait
  | refusing
  deriving DecidableEq, Repr

/-- The sign-on part (Table 3-1). `outPos` is the next position in the first item of the output list. -/
structure SignOnPart where
  phase : Phase
  entry : List Byte
  user : Option Nat
  check : Option Nat
  attempts : Nat
  timer : Nat
  output : List OutItem
  outPos : Nat
  deriving DecidableEq, Repr

/-- The test part (Table 1-1, R24). `awaiting` holds the characters sent whose looped copy is not yet judged. -/
structure TestPart where
  earlier : LineState
  speed : Fin 8
  sent : Nat
  mismatches : Nat
  awaiting : List Byte
  deriving DecidableEq, Repr

/-- Session states (Table 8-2). -/
inductive SessionState
  | metered
  | grace
  | held
  | closing
  deriving DecidableEq, Repr

/-- Close reasons (Table 8-3). -/
inductive CloseReason
  | logoff
  | carrier
  | funds
  | idle
  | suspended
  | shutdown
  | systemDown
  | restart
  | power
  | lineDisabled
  deriving DecidableEq, Repr

/-- The account work of a close decision (Table 8-1). -/
inductive Work
  | pending
  | done
  deriving DecidableEq, Repr

/-- The session part (Table 8-1 and Table 7-1). `bornTick` counts the ticks taken before its admission (R130,
log entry 10). -/
structure Session where
  serial : Nat
  user : Nat
  cls : Fin 4
  state : SessionState
  heldFrom : Option SessionState
  openStamp : Stamp
  closeReason : Option CloseReason
  closeStamp : Option Stamp
  work : Option Work
  rate : Nat
  residue : Nat
  connectSeconds : Nat
  heldSeconds : Nat
  lastMetered : Stamp
  connectUnits : Nat
  setupUnits : Nat
  resourceUnits : Nat
  unpostedUnits : Nat
  unpostedSeconds : Nat
  grace : Option Nat
  idleSeconds : Nat
  activity : Bool
  fundsWarned : Bool
  idleWarned : Bool
  clockSet : Bool
  late : Bool
  saturated : Bool
  bornTick : Nat
  deriving DecidableEq, Repr

/-- What the last scan reported on a line and no row has acted on yet (log entry 6). -/
structure Reports where
  ring : Bool
  present : Bool
  loss : Bool
  stuckCarrier : Bool
  stuckRing : Bool
  deriving DecidableEq, Repr

/-- The line record (Table 1-1) with the line's output buffer, notices, message list and transmitter (chapter 2). -/
structure LineRec where
  state : LineState
  enable : Bool
  speed : Option (Fin 8)
  ringCount : Nat
  ringGap : Timer
  inactiveRun : Nat
  activeRun : Nat
  armed : Bool
  carrierRun : Nat
  lossCounter : Nat
  speedAttempts : Nat
  phaseTimer : Timer
  reserved : Bool
  overrun : Bool
  fault : FaultKind
  test : Option TestPart
  signOn : Option SignOnPart
  session : Option Session
  markWait : Bool
  reports : Reports
  buffer : List Byte
  notice : Bool
  inSpaceSet : Bool
  messages : List Nat
  txChar : Option Byte
  txItem : Option (OutItem × Nat)
  closingSlot : Option Nat
  deriving DecidableEq, Repr

/-- The group setting record (Table 1-3). -/
structure GroupRec where
  ringCount : Nat
  carrierWait : Nat
  signOnLimit : Nat
  lossCount : Nat
  speedSet : BitVec 8
  rateFactor : Nat
  idleTx : Bool
  enable : Bool
  deriving DecidableEq, Repr

/-- Input queue entries (Table 2-1). -/
inductive InputEntry
  | char (line : LineId) (c : Byte) (overrun framing : Bool)
  | brk (line : LineId)
  | openMark (line : LineId) (serial user : Nat)
  | closeMark (line : LineId) (serial : Nat) (reason : CloseReason)
  deriving DecidableEq, Repr

/-- An entry of the check request queue: a line and its waiting-for-room mark (R56). -/
structure CheckEntry where
  line : LineId
  waiting : Bool
  deriving DecidableEq, Repr

/-! ### Accounts and classes (chapter 4) -/

/-- Account states (Table 4-2). -/
inductive AccountState
  | active
  | suspended
  | lockedOut
  deriving DecidableEq, Repr

/-- The account record (Table 4-1). -/
structure Account where
  user : Nat
  cls : Fin 4
  check : Nat
  balance : Int
  state : AccountState
  failCount : Nat
  lockedUntil : Option Stamp
  limit : Nat
  openCount : Nat
  periodSeconds : Nat
  periodUnits : Nat
  lastSignOn : Option Stamp
  deriving DecidableEq, Repr

/-- Close rounding (Table 7-3). -/
inductive Rounding
  | truncate
  | halfUp
  | ceiling
  deriving DecidableEq, Repr

/-- The class record (Table 4-3). -/
structure ClassRec where
  setup : Nat
  floor : Nat
  warn : Nat
  grace : Nat
  idleWarn : Nat
  idleLimit : Nat
  rounding : Rounding
  failLimit : Nat
  lockout : Nat
  deriving DecidableEq, Repr

/-! ### Arbiter and hold (chapter 5) -/

/-- The clients of the account arbiter (Table 5-1). -/
inductive Client
  | engine
  | checker
  | unit (p : PortId)
  deriving DecidableEq, Repr

/-- The account arbiter's own state (R92). A client of the rotation holds `grant` from the row that grants it until the row
of its access (log entry 2). `checkerAsked` is the checker's request once lines that it was made for have
left the check request queue (R57, log entry 41). -/
structure Arbiter where
  grant : Option Client
  rotation : List Client
  passAsked : Bool
  checkerAsked : Bool
  deriving DecidableEq, Repr

/-- Table hold states (Table 5-2). -/
inductive HoldState
  | none
  | requested
  | granted
  | releasing
  deriving DecidableEq, Repr

/-- The table hold (R97). -/
structure Hold where
  state : HoldState
  limit : Option Nat
  timer : Timer
  passInGranted : Bool
  deriving DecidableEq, Repr

/-- The origin of a deferred entry (R101). -/
inductive Origin
  | close
  | tCharge
  deriving DecidableEq, Repr

/-- An entry of the deferred posting queue (R101). -/
structure Deferred where
  user : Nat
  units : Nat
  origin : Origin
  deriving DecidableEq, Repr

/-! ### Tariffs (chapter 6) -/

/-- One tariff band (Table 6-3). -/
structure Band where
  start : Nat
  rate0 : Nat
  rate1 : Nat
  rate2 : Nat
  rate3 : Nat
  deriving DecidableEq, Repr

/-- The two schedules. -/
inductive Schedule
  | a
  | b
  deriving DecidableEq, Repr

/-- Tariff unit state (Table 6-3). -/
structure Tariff where
  schedA : List Band
  schedB : List Band
  dayMap : Bank Schedule 7
  stagingSchedule : Option Schedule
  stagedBands : List Band
  deriving DecidableEq, Repr

/-- An install, as TARIFF WRITE (R122), DAY MAP WRITE (R123) or CLASS WRITE (R124) takes it. -/
inductive Install
  | schedule (which : Schedule) (bands : List Band)
  | dayMap (map : Bank Schedule 7)
  | classRecord (cls : Fin 4) (record : ClassRec)
  deriving DecidableEq, Repr

/-! ### Metering engine, billing store, watch (chapters 7, 8, 9) -/

/-- A tick: the clock value the advance produced (R113), its number among the ticks taken (log entry 10), and the
schedules and day map installed when it was taken, which its pass recomputes from (R125, log entry 36). -/
structure Tick where
  value : Calendar
  number : Nat
  tariff : Tariff
  deriving DecidableEq, Repr

/-- The pass in progress (section 7.3): its tick and the next line it is to visit. -/
structure Pass where
  tick : Tick
  next : Nat
  deriving DecidableEq, Repr

/-- An entry of the seconds-due list (R134). -/
structure DueEntry where
  user : Nat
  seconds : Nat
  deriving DecidableEq, Repr

/-- The metering engine's state (section 7.3, R95, R134). -/
structure Engine where
  pass : Option Pass
  remembered : Option Tick
  secondsDue : List DueEntry
  dueAsked : Bool
  closeWork : List LineId
  ticks : Nat
  deriving DecidableEq, Repr

/-- A billing record (Table 9-2). -/
structure BillingRecord where
  sequence : Nat
  serial : Nat
  line : LineId
  user : Nat
  cls : Fin 4
  openStamp : Stamp
  closeStamp : Stamp
  connectSeconds : Nat
  heldSeconds : Nat
  connectUnits : Nat
  setupUnits : Nat
  resourceUnits : Nat
  reason : CloseReason
  clockSet : Bool
  late : Bool
  saturated : Bool
  roundedUp : Bool
  deriving DecidableEq, Repr

/-- The billing store (Table 9-1). -/
structure Billing where
  records : List BillingRecord
  sequence : Nat
  reservations : Nat
  deriving DecidableEq, Repr

/-- The T-port watch (Table 8-4). -/
structure Watch where
  window : Nat
  holdDownLimit : Nat
  down : Bool
  timer : Timer
  holdDownTimer : Timer
  deriving DecidableEq, Repr

/-! ### The whole part -/

/-- The state of the part. `installs` holds, oldest first, the installs taken during the access in progress, which are
made at its end (R125). `pending` is the queue of commands that wait, first in, first out; `freeIndex` numbers the free
values used so far (log entry 11). -/
structure State where
  mainPower : Bool
  tPort : PortUnit
  aPort : PortUnit
  lines : Bank LineRec 32
  groups : Bank GroupRec 4
  slots : Bank (List Byte) 16
  stagingSlot : Option Nat
  staged : List Byte
  input : List InputEntry
  checkQueue : List CheckEntry
  accounts : List Account
  classes : Bank ClassRec 4
  arbiter : Arbiter
  hold : Hold
  deferred : List Deferred
  clock : Calendar
  clockInvalid : Bool
  tariff : Tariff
  installs : List Install
  engine : Engine
  serialCounter : Nat
  billing : Billing
  watch : Watch
  freeIndex : Nat
  pending : List Instr
  deriving DecidableEq, Repr

/-- The reasons a step can stop with a fault. There is none: the spec names no event that stops the part. A refused
command completes with a status code (Table 10-3) and a faulted line is in a line state (R23). Safe: nothing is
left out by it. -/
inductive Fault
  deriving DecidableEq, Repr

/-- The reasons a step can refuse a command. -/
inductive Refusal
  /-- Raised by an arm of `exec` whose row has no meaning yet; no arm of this model raises it. Safe: it stops
  where the part goes on. -/
  | notModelled (mnemonic : String)
  deriving DecidableEq, Repr

/-! ### Values after reset -/

/-- Nothing reported. -/
def Reports.clear : Reports :=
  { ring := false, present := false, loss := false, stuckCarrier := false, stuckRing := false }

/-- R1, R36, R43: a line record after main power-up, RESET and retained power-up. -/
def LineRec.initial : LineRec :=
  { state := .disabled, enable := false, speed := none, ringCount := 0, ringGap := none, inactiveRun := 0
    activeRun := 0, armed := false, carrierRun := 0, lossCounter := 0, speedAttempts := 0, phaseTimer := none
    reserved := false, overrun := false, fault := .none, test := none, signOn := none, session := none
    markWait := false, reports := .clear, buffer := [], notice := false, inSpaceSet := false, messages := []
    txChar := none, txItem := none, closingSlot := none }

/-- R3, Table 1-3: the defaults of a group setting record. -/
def GroupRec.initial : GroupRec :=
  { ringCount := 2, carrierWait := 30, signOnLimit := 90, lossCount := 5, speedSet := 0xFF, rateFactor := 8
    idleTx := false, enable := false }

/-- R182: a port unit after main power-up, RESET and retained power-up, its starting mark set. -/
def PortUnit.initial : PortUnit :=
  { state := .idle, record := [], overflow := false, response := [], readPos := 0, status := .ok, clamped := false
    starting := true, latches := 0, mask := 0xFFFF, vote := .opened, job := none, bus := 0 }

/-- Table 4-3: the defaults of a class record. -/
def ClassRec.initial : ClassRec :=
  { setup := 0, floor := 0, warn := 0, grace := 60, idleWarn := 0, idleLimit := 0, rounding := .truncate
    failLimit := 5, lockout := 15 }

/-- R92: the arbiter after main power-up, RESET and retained power-up. -/
def Arbiter.initial : Arbiter :=
  { grant := none, rotation := [.checker, .unit .t, .unit .a], passAsked := false, checkerAsked := false }

/-- R97: the hold after retained power-up. -/
def Hold.initial : Hold := { state := .none, limit := none, timer := none, passInGranted := false }

/-- R111: the clock at retained power-up. -/
def Calendar.initial : Calendar :=
  { year := 0, month := 1, day := 1, hour := 0, minute := 0, second := 0, weekday := 1 }

/-- R119: one band from minute 0 with all rates 0, every day on A, nothing staged. -/
def Tariff.initial : Tariff :=
  { schedA := [⟨0, 0, 0, 0, 0⟩], schedB := [⟨0, 0, 0, 0, 0⟩], dayMap := Bank.replicate 7 .a
    stagingSchedule := none, stagedBands := [] }

/-- R129, R134: no pass, no remembered tick, nothing due. -/
def Engine.initial : Engine :=
  { pass := none, remembered := none, secondsDue := [], dueAsked := false, closeWork := [], ticks := 0 }

/-- Table 9-1: the billing store after retained power-up. -/
def Billing.initial : Billing := { records := [], sequence := 1, reservations := 0 }

/-- Table 8-4: the watch after each reset. -/
def Watch.initial : Watch :=
  { window := 0, holdDownLimit := 10, down := false, timer := none, holdDownTimer := none }

/-- Retained power-up (R111, R97, R119, R70, R73, R149, R167 and the operating defaults of each chapter), before
the recovery sweep has ended: both starting marks are set (R182). -/
def State.powerOn : State :=
  { mainPower := true, tPort := .initial, aPort := .initial, lines := Bank.replicate 32 .initial
    groups := Bank.replicate 4 .initial, slots := Bank.replicate 16 [], stagingSlot := none
    staged := [], input := [], checkQueue := [], accounts := [], classes := Bank.replicate 4 .initial
    arbiter := .initial, hold := .initial, deferred := [], clock := .initial, clockInvalid := true
    tariff := .initial, installs := [], engine := .initial, serialCounter := 1, billing := .initial, watch := .initial
    freeIndex := 0, pending := [] }

/-- The part right after reset: retained power-up, its recovery sweep ended with nothing to settle (R189), so the
starting marks are clear and the one level cause whose condition holds, CLOCK_INVALID of the A port (bit 2), is
latched (log entry 12). -/
def State.reset : State :=
  { State.powerOn with
    tPort := { PortUnit.initial with starting := false }
    aPort := { PortUnit.initial with starting := false, latches := 0x0004 } }

end Sys2Proof.Machine
end

