-- ==== Sys2Proof/Machine/Ops.lean ====
section
/-! DEFINITION. The named operations on the state that every block uses: reading and changing one line, port or
account, the readiness of lines (R6, R7, R11), and the entry to HANGUP (R20). -/

namespace Sys2Proof.Machine

/-! ### Lines and groups -/

/-- The 32 lines in line order. -/
def allLines : List LineId :=
  [0, 1, 2, 3, 4, 5, 6, 7, 8, 9, 10, 11, 12, 13, 14, 15, 16, 17, 18, 19, 20, 21, 22, 23, 24, 25, 26, 27, 28, 29, 30, 31]

/-- The group of a line: n div 8 (chapter 0, Lines and groups). -/
def groupOf (i : LineId) : Fin 4 := ⟨i.val / 8, by have := i.isLt; omega⟩

/-- The line record of line i. -/
def State.line (s : State) (i : LineId) : LineRec := s.lines.get i

/-- The state with line i's record replaced. -/
def State.setLine (s : State) (i : LineId) (l : LineRec) : State := { s with lines := s.lines.set i l }

/-- The state with line i's record changed by `f`. -/
def State.modLine (s : State) (i : LineId) (f : LineRec → LineRec) : State := s.setLine i (f (s.line i))

/-- The state with every line's record changed. -/
def State.mapLines (s : State) (f : LineId → LineRec → LineRec) : State :=
  { s with lines := Bank.ofFn fun i => f i (s.line i) }

/-- The group setting record of group g. -/
def State.group (s : State) (g : Fin 4) : GroupRec := s.groups.get g

/-- The group setting record that line i uses. -/
def State.lineGroup (s : State) (i : LineId) : GroupRec := s.group (groupOf i)

/-- The class record of class c. -/
def State.classRec (s : State) (c : Fin 4) : ClassRec := s.classes.get c

/-- Visit the lines in line order. -/
def State.forLines (s : State) (f : LineId → State → State) : State := allLines.foldl (fun s i => f i s) s

/-! ### Ports -/

/-- The port unit of port p. -/
def State.port (s : State) : PortId → PortUnit
  | .t => s.tPort
  | .a => s.aPort

/-- The state with port p's unit replaced. -/
def State.setPort (s : State) (p : PortId) (u : PortUnit) : State :=
  match p with
  | .t => { s with tPort := u }
  | .a => { s with aPort := u }

/-- The state with port p's unit changed by `f`. -/
def State.modPort (s : State) (p : PortId) (f : PortUnit → PortUnit) : State := s.setPort p (f (s.port p))

/-! ### Accounts -/

/-- The account of a user number, if there is one (R70). -/
def State.account (s : State) (user : Nat) : Option Account := s.accounts.find? (·.user == user)

/-- Change the record of a user number; nothing changes where there is none. -/
def State.modAccount (s : State) (user : Nat) (f : Account → Account) : State :=
  { s with accounts := s.accounts.map fun a => if a.user == user then f a else a }

/-! ### Sessions -/

/-- METERED, GRACE or HELD: the states before the close decision (Table 8-2). -/
def SessionState.isOpen : SessionState → Bool
  | .metered | .grace | .held => true
  | .closing => false

/-- METERED or GRACE: the states a pass charges (R130). -/
def SessionState.isCharged : SessionState → Bool
  | .metered | .grace => true
  | .held | .closing => false

/-- The session part of line i. -/
def State.session (s : State) (i : LineId) : Option Session := (s.line i).session

/-- The session part of line i where it is open. -/
def State.openSession (s : State) (i : LineId) : Option Session := (s.session i).filter (·.state.isOpen)

/-- Change line i's session part, if it has one. -/
def State.modSession (s : State) (i : LineId) (f : Session → Session) : State :=
  s.modLine i fun l => { l with session := l.session.map f }

/-- Change every session part. -/
def State.mapSessions (s : State) (f : LineId → Session → Session) : State :=
  s.mapLines fun i l => { l with session := l.session.map (f i) }

/-- S of R29 and R30: the number of lines whose session is METERED, GRACE or HELD. -/
def State.openCount (s : State) : Nat := allLines.countP fun i => (s.openSession i).isSome

/-- The number of HELD sessions (R155). -/
def State.heldCount (s : State) : Nat :=
  allLines.countP fun i => (s.session i).any (·.state == .held)

/-! ### Free values -/

/-- The sum of two figures of a 32-bit field, or a free value where the spec states no result (log entry 11). -/
def addStated (k : Config.Unstated) (x y : Nat) (s : State) : Nat × State :=
  if x + y ≤ Config.max32 then (x + y, s)
  else ((Config.unstated k s.freeIndex).toNat, { s with freeIndex := s.freeIndex + 1 })

/-- A sum that holds at 4,294,967,295 (Table 4-1, R86, R131, R154). -/
def addHold32 (x y : Nat) : Nat := min (x + y) Config.max32

/-! ### Timers -/

/-- A timer started at a number of seconds, in tenths. -/
def Timer.seconds (n : Nat) : Timer := some (n * 10)

/-- Whole seconds left, 0 for a stopped timer (section 11.2). -/
def Timer.secondsLeft : Timer → Nat
  | none => 0
  | some n => n / 10

/-- One scan of a running timer; it stands at 0 until its expiry is taken (log entry 5). -/
def Timer.scan (t : Timer) : Timer := t.map (· - 1)

/-- A running timer has no time left: its expiry may be taken (log entry 5). -/
def Timer.expired (t : Timer) : Bool := t == some 0

/-! ### Readiness (R6, R7, R11) -/

/-- The effective enable of a line: its line enable and its group's enable (R5). -/
def State.effEnable (s : State) (i : LineId) : Bool := (s.line i).enable && (s.lineGroup i).enable

/-- The conditions of readiness that all lines share (R6). -/
def State.sharedReady (s : State) : Bool :=
  s.tPort.vote == .opened && s.aPort.vote == .opened && !s.watch.down && !s.clockInvalid &&
    decide (s.billing.records.length + s.billing.reservations < Config.billingCapacity)

/-- Readiness (R6). -/
def State.ready (s : State) (i : LineId) : Bool := s.effEnable i && s.sharedReady

/-- Where an effective enable and a readiness put a line that is in no call (R7, R20, R23, R25). -/
def restState (eff rdy : Bool) : LineState := if !eff then .disabled else if rdy then .idle else .busied

/-- A line acts on its readiness in IDLE, BUSIED, DISABLED (R7) and RINGING (R11). -/
def LineRec.rejudge (eff rdy : Bool) (l : LineRec) : LineRec :=
  match l.state with
  | .disabled | .idle | .busied => { l with state := restState eff rdy }
  | .ringing => if eff && !rdy then { l with state := .busied, ringGap := none, ringCount := 0 } else l
  | _ => l

/-- Every line re-judges its readiness (R6). -/
def rejudge (s : State) : State := s.mapLines fun i l => l.rejudge (s.effEnable i) (s.ready i)

/-- A line in no call goes by its enable and readiness (R20, R23, R25). -/
def goRest (i : LineId) (s : State) : State :=
  s.modLine i fun l => { l with state := restState (s.effEnable i) (s.ready i) }

/-! ### Reservations (R168 to R171) and HANGUP (R20) -/

/-- The billing store grants a reservation while records plus reservations stand below 96 (R168). -/
def State.placeFree (s : State) : Bool :=
  decide (s.billing.records.length + s.billing.reservations < Config.billingCapacity)

/-- The line and the store give up the line's reservation, if it holds one (R170, R171). -/
def dropReservation (i : LineId) (s : State) : State :=
  if (s.line i).reserved then
    { s.modLine i (fun l => { l with reserved := false }) with
      billing := { s.billing with reservations := s.billing.reservations - 1 } }
  else s

/-- The oldest entry of the check request queue whose waiting-for-room mark is clear (R57). -/
def State.eligibleCheck (s : State) : Option CheckEntry := s.checkQueue.find? fun e => !e.waiting

/-- The checker's request waits: the hold is NONE, the checker does not hold the grant already, and an entry is eligible
or the request was made for lines that have left the queue since (R57). -/
def State.checkerAsks (s : State) : Bool :=
  s.hold.state == .none && s.arbiter.grant != some .checker && (s.arbiter.checkerAsked || s.eligibleCheck.isSome)

/-- The line leaves the check request queue, whatever its place (R56). -/
def leaveCheckQueue (i : LineId) (s : State) : State :=
  { s with checkQueue := s.checkQueue.filter (·.line != i) }

/-- A line leaves the check request queue without a verdict (R56): the checker's request is not withdrawn by it
(R57). -/
def quitCheckQueue (i : LineId) (s : State) : State :=
  { leaveCheckQueue i s with
    arbiter := { s.arbiter with
      checkerAsked := s.arbiter.checkerAsked || (s.checkQueue.any (·.line == i) && s.checkerAsks) } }

/-- What a line's own record keeps when it enters HANGUP (R20, R36, R43, R46): guard 2 s, nothing to send. From SESSION,
at a close decision that sends nothing, the character in progress finishes (R45, log entry 38). -/
def LineRec.hungUp (l : LineRec) : LineRec :=
  { l with
    state := .hangup, ringGap := none, ringCount := 0, signOn := none, speed := none, phaseTimer := Timer.seconds 2
    session := none, markWait := false, buffer := [], notice := false, messages := []
    txChar := if l.state = .session then l.txChar else none, txItem := none, closingSlot := none }

/-- Entry to HANGUP (R20) without the re-judging of the other lines. -/
def enterHangup (i : LineId) (s : State) : State :=
  (quitCheckQueue i (dropReservation i s)).modLine i LineRec.hungUp

/-- Entry to HANGUP (R20): a released reservation lets every line re-judge its readiness. -/
def hangup (i : LineId) (s : State) : State := rejudge (enterHangup i s)

/-! ### Main power -/

/-- A row that the powered part takes: while main power is off the operating plane is lost and the row comes to
nothing (R162, log entry 13). -/
def whenPowered (s : State) (f : State → State) : State := if s.mainPower then f s else s

end Sys2Proof.Machine
end

