-- ==== Sys2Proof/Machine/Calendar.lean ====
section
/-! DEFINITION. The calendar clock's arithmetic (R112, R114, R116) and the tariff lookup (R120). -/

namespace Sys2Proof.Machine

/-- Month lengths (Table 6-2); every year divisible by 4 is a leap year. -/
def monthLength (year month : Nat) : Nat :=
  if month = 2 then (if year % 4 = 0 then 29 else 28)
  else if month = 4 ∨ month = 6 ∨ month = 9 ∨ month = 11 then 30
  else 31

/-- A carry into the day of a date (R112). -/
def nextDate (d : Nat × Nat × Nat) : Nat × Nat × Nat :=
  if d.2.2 + 1 ≤ monthLength d.1 d.2.1 then (d.1, d.2.1, d.2.2 + 1)
  else if d.2.1 + 1 ≤ 12 then (d.1, d.2.1 + 1, 1)
  else if d.1 + 1 ≤ 99 then (d.1 + 1, 1, 1)
  else (0, 1, 1)

/-- One advance of the clock (R112): one second, all fields together. -/
def Calendar.advance (c : Calendar) : Calendar :=
  if c.second + 1 < 60 then { c with second := c.second + 1 }
  else if c.minute + 1 < 60 then { c with second := 0, minute := c.minute + 1 }
  else if c.hour + 1 < 24 then { c with second := 0, minute := 0, hour := c.hour + 1 }
  else
    let d := nextDate (c.year, c.month, c.day)
    { year := d.1, month := d.2.1, day := d.2.2, hour := 0, minute := 0, second := 0
      weekday := if c.weekday + 1 ≤ 7 then c.weekday + 1 else 1 }

/-- The time stamp of a calendar value (R114). -/
def Calendar.stamp (c : Calendar) : Stamp :=
  { year := c.year, month := c.month, day := c.day, hour := c.hour, minute := c.minute, second := c.second }

/-- The stamp n minutes later, carried as the advance carries (R114). -/
def Stamp.addMinutes (t : Stamp) (n : Nat) : Stamp :=
  let total := t.hour * 60 + t.minute + n
  let d := nextDate^[total / 1440] (t.year, t.month, t.day)
  { year := d.1, month := d.2.1, day := d.2.2, hour := total % 1440 / 60, minute := total % 60
    second := t.second }

/-- The fields of a stamp in the order of comparison (R114). -/
def Stamp.fields (t : Stamp) : List Nat := [t.year, t.month, t.day, t.hour, t.minute, t.second]

/-- Numeric order field by field, the first difference deciding (R114). -/
def fieldsLe : List Nat → List Nat → Bool
  | x :: xs, y :: ys => decide (x < y) || (x == y && fieldsLe xs ys)
  | _, _ => true

/-- A stamp is at or before another (R114). -/
def Stamp.le (t u : Stamp) : Bool := fieldsLe t.fields u.fields

/-- The seconds of a century of the calendar, 100 years of which 25 are leap years (Table 6-2). -/
def centurySeconds : Nat := 36525 * 86400

/-- The days before a stamp's day, from the first day of year 0 (Table 6-2). -/
def Stamp.days (t : Stamp) : Nat :=
  t.year * 365 + (t.year + 3) / 4 + ((List.range (t.month - 1)).map fun m => monthLength t.year (m + 1)).sum + (t.day - 1)

/-- The seconds before a stamp, from the start of year 0. -/
def Stamp.seconds (t : Stamp) : Nat := ((t.days * 24 + t.hour) * 60 + t.minute) * 60 + t.second

/-- By how many seconds a stamp lies after another; after year 99 comes year 0 (R112). -/
def Stamp.distance (t u : Stamp) : Nat := (u.seconds + centurySeconds - t.seconds) % centurySeconds

/-- The clock value is one SET CLOCK accepts (R116). -/
def Calendar.valid (c : Calendar) : Bool :=
  decide (c.year ≤ 99) && decide (1 ≤ c.month) && decide (c.month ≤ 12) && decide (1 ≤ c.day) &&
    decide (c.day ≤ monthLength c.year c.month) && decide (c.hour ≤ 23) && decide (c.minute ≤ 59) &&
    decide (c.second ≤ 59) && decide (1 ≤ c.weekday) && decide (c.weekday ≤ 7)

/-- The rate of a band for a class (Table 6-3). -/
def Band.rate (b : Band) (c : Fin 4) : Nat :=
  match c with
  | 0 => b.rate0
  | 1 => b.rate1
  | 2 => b.rate2
  | 3 => b.rate3

/-- The band in force at minute m: the last band whose start minute is equal to or less than m (R120). -/
def bandAt (bands : List Band) (m : Nat) : Option Band := (bands.filter (fun b => decide (b.start ≤ m))).getLast?

/-- The schedule a day map names for a weekday 1 to 7 (R120). -/
def Tariff.scheduleFor (t : Tariff) (weekday : Nat) : List Band :=
  match t.dayMap.cells.getD (weekday - 1) .a with
  | .a => t.schedA
  | .b => t.schedB

/-- The class rate q for class c at calendar value t (R120); every schedule has a band at minute 0 (R119). -/
def Tariff.lookup (t : Tariff) (c : Fin 4) (v : Calendar) : Nat :=
  match bandAt (t.scheduleFor v.weekday) (v.hour * 60 + v.minute) with
  | some b => b.rate c
  | none => 0

/-- The effective rate from q and the rate factor f (R127). -/
def effectiveRate (q f : Nat) : Nat := min 65535 ((q * f + 4) / 8)

end Sys2Proof.Machine
end

