-- ==== Sys2Proof/Machine/Flags.lean ====
section
/-! DEFINITION. Attention latches, masks and pins (R190 to R193), the level conditions, and the port status word
(R198). -/

namespace Sys2Proof.Machine

/-- The attention causes of the T port (Table 10-4). -/
inductive TCause
  | input
  | space
  | lineFault
  | done
  | collision
  | restarted
  deriving DecidableEq, Repr

/-- The attention causes of the A port (Table 10-5). -/
inductive ACause
  | billing
  | billingHigh
  | clockInvalid
  | holdGranted
  | holdRevoked
  | lockout
  | systemDown
  | systemUp
  | done
  | collision
  | restarted
  deriving DecidableEq, Repr

/-- Bit positions of the T port causes (Table 11-8). -/
def TCause.bit : TCause → Nat
  | .input => 0
  | .space => 1
  | .lineFault => 2
  | .done => 3
  | .collision => 4
  | .restarted => 5

/-- Bit positions of the A port causes (Table 11-8). -/
def ACause.bit : ACause → Nat
  | .billing => 0
  | .billingHigh => 1
  | .clockInvalid => 2
  | .holdGranted => 3
  | .holdRevoked => 4
  | .lockout => 5
  | .systemDown => 6
  | .systemUp => 7
  | .done => 8
  | .collision => 9
  | .restarted => 10

/-- The positions that name a cause of the port (Table 11-8). -/
def causePositions : PortId → Word
  | .t => 0x003F
  | .a => 0x07FF

/-- The word with one bit set. -/
def bitWord (n : Nat) : Word := (1 : Word) <<< n

/-- A latch is set in a port unit; no cause latches while the starting mark is set (R189). -/
def PortUnit.latch (u : PortUnit) (n : Nat) : PortUnit :=
  if u.starting then u else { u with latches := u.latches ||| bitWord n }

/-- A cause of the T port latches (R191). -/
def latchT (c : TCause) (s : State) : State := s.modPort .t (·.latch c.bit)

/-- A cause of the A port latches (R191). -/
def latchA (c : ACause) (s : State) : State := s.modPort .a (·.latch c.bit)

/-- The DONE cause of a port (R186). -/
def doneBit : PortId → Nat
  | .t => TCause.done.bit
  | .a => ACause.done.bit

/-- The COLLISION cause of a port (R183, R184). -/
def collisionBit : PortId → Nat
  | .t => TCause.collision.bit
  | .a => ACause.collision.bit

/-- The RESTARTED cause of a port (R196). -/
def restartedBit : PortId → Nat
  | .t => TCause.restarted.bit
  | .a => ACause.restarted.bit

/-- An ignored write latches COLLISION (R183, R184). -/
def latchCollision (p : PortId) (s : State) : State := s.modPort p (·.latch (collisionBit p))

/-- INPUT condition: the input queue holds at least one entry (R28). -/
def State.inputCond (s : State) : Bool := !s.input.isEmpty

/-- SPACE condition: the space set holds at least one line (R39). -/
def State.spaceCond (s : State) : Bool := allLines.any fun i => (s.line i).inSpaceSet

/-- BILLING condition: at least one billing record (R179). -/
def State.billingCond (s : State) : Bool := !s.billing.records.isEmpty

/-- BILLING_HIGH condition: 80 or more billing records (R180). -/
def State.billingHighCond (s : State) : Bool := decide (Config.billingHigh ≤ s.billing.records.length)

/-- The level causes of a port whose condition holds, in their bit positions (R191). -/
def State.levelWord (s : State) : PortId → Word
  | .t => (if s.inputCond then bitWord TCause.input.bit else 0) |||
      (if s.spaceCond then bitWord TCause.space.bit else 0)
  | .a => (if s.billingCond then bitWord ACause.billing.bit else 0) |||
      (if s.billingHighCond then bitWord ACause.billingHigh.bit else 0) |||
      (if s.clockInvalid then bitWord ACause.clockInvalid.bit else 0)

/-- Each level cause of the port whose condition holds is latched; none while the starting mark is set (R189, R191). -/
def latchLevels (p : PortId) (s : State) : State :=
  let w := s.levelWord p
  s.modPort p fun u => if u.starting then u else { u with latches := u.latches ||| w }

/-- A write at ATTENTION (R190, R191): the latches written as 1 are cleared, and a level cause whose condition still
holds latches again at once. -/
def attentionWrite (p : PortId) (w : Word) (s : State) : State :=
  latchLevels p (s.modPort p fun u => { u with latches := u.latches &&& ~~~w })

/-- A write at MASK (R190, R198): the bits of the port's causes as written, every other position 1. -/
def maskWrite (p : PortId) (w : Word) (s : State) : State :=
  s.modPort p fun u => { u with mask := w ||| ~~~(causePositions p) }

/-- A read at ATTENTION (R190): the latches as they stand. -/
def State.attentionWord (s : State) (p : PortId) : Word := (s.port p).latches

/-- A read at MASK (R198). -/
def State.maskWord (s : State) (p : PortId) : Word := (s.port p).mask

/-- The attention pin: active while a latched cause has its mask bit clear (R190). -/
def State.pinActive (s : State) (p : PortId) : Bool := (s.port p).latches &&& ~~~(s.port p).mask != 0

/-- Port state codes (Table 11-2). -/
def PortState.code : PortState → Nat
  | .idle => 0
  | .building => 1
  | .busy => 2
  | .done => 3

/-- Status codes (Table 11-6). -/
def Status.code : Status → Nat
  | .ok => 0
  | .badCommand => 1
  | .wrongPort => 2
  | .badArgument => 3
  | .notFound => 4
  | .exists_ => 5
  | .inUse => 6
  | .tableFull => 7
  | .stale => 8
  | .noHold => 9
  | .holdBusy => 10
  | .retry => 11
  | .sequence => 12
  | .empty => 13
  | .lineState => 14
  | .restarted => 15

/-- The count field of the status word (R198). -/
def PortUnit.countField (u : PortUnit) : Nat :=
  match u.state with
  | .idle => 0
  | .building | .busy => (if u.overflow then 128 else 0) + u.record.length
  | .done => u.response.length - u.readPos

/-- The port status word, as a read at CONTROL returns it (R187, R198, Table 11-2). -/
def PortUnit.statusWord (u : PortUnit) : Word :=
  if u.starting then BitVec.ofNat 16 0x2000
  else BitVec.ofNat 16 (u.state.code * 16384 + (if u.clamped then 4096 else 0) + u.status.code * 256 + u.countField)

/-- A read at CONTROL of port p; it changes nothing (R187). -/
def State.statusWord (s : State) (p : PortId) : Word := (s.port p).statusWord

/-- Answer is on in ANSWERING, SPEED, SIGNON, SESSION and CLOSING (R2, Table 1-2). -/
def LineState.answer : LineState → Bool
  | .answering | .speed | .signOn | .session | .closing => true
  | .disabled | .idle | .busied | .ringing | .hangup | .test | .faulted => false

/-- Make-busy is asserted in DISABLED, BUSIED, TEST and FAULTED (R2, Table 1-2). -/
def LineState.makeBusy : LineState → Bool
  | .disabled | .busied | .test | .faulted => true
  | .idle | .ringing | .answering | .speed | .signOn | .session | .closing | .hangup => false

/-- The character a line's transmitter is sending to the adapter; none is mark. In TEST the data to the adapter is held
at mark (R2, R24), and so it is in HANGUP while a character in progress runs to its end: R2 is followed where R45 lets
the character finish (DEDUCED, log entry 38). -/
def LineRec.transmitted (l : LineRec) : Option Byte := if l.state.answer then l.txChar else none

end Sys2Proof.Machine
end

