-- ==== Sys2Proof/Machine/Operands.lean ====
section
/-! DEFINITION. Every argument form of a command record and every field form of a response record (sections 11.2
and 11.4): ranges, codes, and word layouts. -/

namespace Sys2Proof.Machine

/-! ### Arguments -/

/-- A line number argument, 0 to 31. -/
def lineArg (w : Word) : Option LineId := if h : w.toNat < 32 then some ⟨w.toNat, h⟩ else none

/-- A group argument, 0 to 3. -/
def groupArg (w : Word) : Option (Fin 4) := if h : w.toNat < 4 then some ⟨w.toNat, h⟩ else none

/-- A class argument, 0 to 3. -/
def classArg (w : Word) : Option (Fin 4) := groupArg w

/-- A speed code, 0 to 7 (Table 11-5). -/
def speedArg (w : Word) : Option (Fin 8) := if h : w.toNat < 8 then some ⟨w.toNat, h⟩ else none

/-- on, off; yes, no; final; 1, 0 (Table 11-5). -/
def flagArg (w : Word) : Option Bool := if w = 1 then some true else if w = 0 then some false else none

/-- Schedule and day map selection (Table 11-5). -/
def scheduleArg (w : Word) : Option Schedule := if w = 0 then some .a else if w = 1 then some .b else none

/-- Admission vote (Table 11-5). -/
def voteArg (w : Word) : Option Vote := if w = 0 then some .opened else if w = 1 then some .closed else none

/-- Close rounding (Table 11-5). -/
def roundingArg (w : Word) : Option Rounding :=
  if w = 0 then some .truncate else if w = 1 then some .halfUp else if w = 2 then some .ceiling else none

/-- A number is in a range that includes both ends (chapter 0, Numbers). -/
def inRange (n lo hi : Nat) : Bool := decide (lo ≤ n) && decide (n ≤ hi)

/-- A user number argument, 1 to 999,999 (R74). -/
def userOk (d : DWord) : Bool := inRange d.toNat 1 999999

/-- A check word argument, 0 to 16,777,215 (R74). -/
def checkOk (d : DWord) : Bool := inRange d.toNat 0 16777215

/-- A session limit argument, 1 to 7 (R74). -/
def limitOk (w : Word) : Bool := inRange w.toNat 1 7

/-- A CREDIT or DEBIT amount, 1 to 8,388,607 (R78, R79). -/
def amountOk (d : DWord) : Bool := inRange d.toNat 1 8388607

/-- The least and the greatest balance (chapter 0, Money and rates). -/
def balanceMin : Int := -8388608

/-- The greatest balance. -/
def balanceMax : Int := 8388607

/-- An opening balance argument (R75). -/
def balanceOk (d : DWord) : Bool := decide (balanceMin ≤ d.toInt) && decide (d.toInt ≤ balanceMax)

/-- The bands of TARIFF WRITE, five words each: start minute and the rates of classes 0 to 3 (Table 11-7). -/
def bandsOf : List Word → List Band
  | st :: r0 :: r1 :: r2 :: r3 :: rest => ⟨st.toNat, r0.toNat, r1.toNat, r2.toNat, r3.toNat⟩ :: bandsOf rest
  | _ => []

/-! ### Response fields -/

/-- A one-word field. -/
def w16 (n : Nat) : Word := BitVec.ofNat 16 n

/-- A two-word field, high word first. -/
def w32 (n : Nat) : List Word := [w16 (n / 65536), w16 n]

/-- A balance: two words of two's complement (R199). -/
def wBalance (z : Int) : List Word :=
  let d : DWord := BitVec.ofInt 32 z
  [hiWord d, loWord d]

/-- A one-word field that may be absent: FFFFh (R200). -/
def wOption (o : Option Nat) : Word :=
  match o with
  | some n => w16 n
  | none => 0xFFFF

/-- A time stamp of three words (Table 11-5). -/
def wStamp (t : Stamp) : List Word :=
  [w16 (t.year * 256 + t.month), w16 (t.day * 256 + t.hour), w16 (t.minute * 256 + t.second)]

/-- A time stamp that may be absent: three words of 0 (R200). -/
def wStampOption (o : Option Stamp) : List Word :=
  match o with
  | some t => wStamp t
  | none => [0, 0, 0]

/-- A bit of a word. -/
def wBit (b : Bool) (n : Nat) : Nat := if b then 2 ^ n else 0

/-- The response record of a status, a note and the fields after the header (R200). -/
def responseRecord (st : Status) (clamped : Bool) (fields : List Word) : List Word :=
  w16 ((fields.length + 1) * 256 + (if clamped then 16 else 0) + st.code) :: fields

/-! ### Codes (Table 11-5) -/

/-- Line state codes. -/
def LineState.code : LineState → Nat
  | .disabled => 0
  | .idle => 1
  | .busied => 2
  | .ringing => 3
  | .answering => 4
  | .speed => 5
  | .signOn => 6
  | .session => 7
  | .closing => 8
  | .hangup => 9
  | .test => 10
  | .faulted => 11

/-- Fault kind codes. -/
def FaultKind.code : FaultKind → Nat
  | .none => 0
  | .stuckCarrier => 1
  | .ringStuck => 2

/-- Dialog phase codes. -/
def Phase.code : Phase → Nat
  | .idEntry => 0
  | .passEntry => 1
  | .checkWait => 2
  | .refusing => 3

/-- Session state codes. -/
def SessionState.code : SessionState → Nat
  | .metered => 0
  | .grace => 1
  | .held => 2
  | .closing => 3

/-- Account state codes. -/
def AccountState.code : AccountState → Nat
  | .active => 0
  | .suspended => 1
  | .lockedOut => 2

/-- Hold state codes. -/
def HoldState.code : HoldState → Nat
  | .none => 0
  | .requested => 1
  | .granted => 2
  | .releasing => 3

/-- Close reason codes. -/
def CloseReason.code : CloseReason → Nat
  | .logoff => 0
  | .carrier => 1
  | .funds => 2
  | .idle => 3
  | .suspended => 4
  | .shutdown => 5
  | .systemDown => 6
  | .restart => 7
  | .power => 8
  | .lineDisabled => 9

/-! ### Records in words -/

/-- An input-queue entry, three words (Table 11-10). -/
def InputEntry.words : InputEntry → List Word
  | .char l c ov fr => [w16 (l.val * 512 + wBit ov 8 + wBit fr 7), w16 c.toNat, 0]
  | .brk l => [w16 (1 * 16384 + l.val * 512), 0, 0]
  | .openMark l sr u => [w16 (2 * 16384 + l.val * 512 + u / 65536), w16 sr, w16 u]
  | .closeMark l sr r => [w16 (3 * 16384 + l.val * 512 + r.code), w16 sr, 0]

/-- A billing record, 21 words (Table 11-11). The bits of words 2 and 3 that the table does not name are 0, as in
the record worked out under the table (DEDUCED, log entry 44). -/
def BillingRecord.words (r : BillingRecord) : List Word :=
  [w16 r.sequence, w16 r.serial, w16 (r.line.val + r.cls.val * 256 + r.reason.code * 4096),
    w16 (wBit r.clockSet 0 + wBit r.late 1 + wBit r.saturated 2 + wBit r.roundedUp 3)] ++
  w32 r.user ++ wStamp r.openStamp ++ wStamp r.closeStamp ++ w32 r.connectSeconds ++ w32 r.heldSeconds ++
  w32 r.connectUnits ++ [w16 r.setupUnits] ++ w32 r.resourceUnits

/-- READ LINE words 1 to 7 (Table 11-12, R26). Bits 15 to 3 of word 2, which the table does not name, are 0 (DESIGN
CHOICE, log entry 44). -/
def lineWords (s : State) (i : LineId) : List Word :=
  let l := s.line i
  [w16 l.state.code,
    w16 (wBit l.enable 0 + wBit (s.lineGroup i).enable 1 + wBit l.reserved 2),
    wOption (l.speed.map (·.val)),
    w16 (l.fault.code * 256 + l.ringCount),
    wOption (l.signOn.map (·.phase.code)),
    wOption (l.session.map (·.serial)),
    wOption (l.session.map (·.state.code))]

/-- READ ACCOUNT and SWEEP words 1 to 18 (Table 11-13); the check word as given (R83). The bits of words 3 and 4 that the
table does not name are 0 (DESIGN CHOICE, log entry 44). -/
def accountWords (a : Account) (check : Nat) : List Word :=
  w32 a.user ++
  [w16 (a.cls.val + a.state.code * 16 + wBit a.lockedUntil.isSome 8 + wBit a.lastSignOn.isSome 9),
    w16 (a.failCount + a.limit * 256 + a.openCount * 4096)] ++
  w32 check ++ wBalance a.balance ++ wStampOption a.lockedUntil ++ w32 a.periodSeconds ++ w32 a.periodUnits ++
  wStampOption a.lastSignOn

/-- READ SESSION words 1 to 26 (Table 11-14, R144). The bits of words 4 and 26 that the table does not name are 0 (DESIGN
CHOICE, log entry 44). -/
def sessionWords (x : Session) : List Word :=
  [w16 x.serial] ++ w32 x.user ++
  [w16 (x.state.code + (match x.heldFrom with | some h => h.code | none => 3) * 16 + x.cls.val * 256)] ++
  wStamp x.openStamp ++ wStamp x.lastMetered ++ [w16 x.rate, w16 x.residue] ++ w32 x.connectSeconds ++
  w32 x.heldSeconds ++ w32 x.connectUnits ++ [w16 x.setupUnits] ++ w32 x.resourceUnits ++
  [w16 x.unpostedUnits, w16 x.unpostedSeconds, w16 x.idleSeconds, wOption x.grace,
    w16 (wBit x.fundsWarned 0 + wBit x.idleWarned 1 + wBit x.clockSet 2 + wBit x.late 3 + wBit x.saturated 4)]

/-- READ CLOCK words 1 to 4 (R118, Table 11-4). Bits 14 to 3 of the weekday word, which section 11.2 does not name, are 0
(DESIGN CHOICE, log entry 44). -/
def clockWords (s : State) : List Word :=
  wStamp s.clock.stamp ++ [w16 (s.clock.weekday + wBit s.clockInvalid 15)]

/-- HOLD STATUS words 1 to 5 (R110, Table 11-4). -/
def holdWords (s : State) : List Word :=
  [w16 s.hold.state.code,
    w16 (match s.hold.state with
      | .granted => s.hold.timer.secondsLeft
      | .requested => s.hold.limit.getD 0
      | _ => 0),
    w16 s.deferred.length,
    w16 (s.deferred.countP (·.origin == .tCharge)),
    w16 (allLines.countP fun i => (s.session i).any fun x => decide (0 < x.unpostedUnits))]

/-- WATCH STATUS words 1 to 6 (R155, Table 11-4). -/
def watchWords (s : State) : List Word :=
  [w16 s.watch.window, w16 s.watch.holdDownLimit, w16 (if s.watch.down then 1 else 0),
    w16 s.watch.timer.secondsLeft, w16 s.watch.holdDownTimer.secondsLeft, w16 s.heldCount]

/-- The three counts of PEEK BILLING (R176). -/
def billingCounts (s : State) : List Word :=
  [w16 s.billing.records.length, w16 s.billing.reservations, w16 s.billing.sequence]

end Sys2Proof.Machine
end

