-- ==== Sys2Proof/Machine/Transport.lean ====
section
/-! DEFINITION. The input queue (R28 to R34), the message lists and the line transmitter (R42 to R46). -/

namespace Sys2Proof.Machine

/-! ### The input queue -/

/-- Free entries of the input queue (R29). -/
def State.inputFree (s : State) : Nat := Config.inputCapacity - s.input.length

/-- An entry is placed at the tail; the INPUT condition then holds (R28). -/
def placeInput (e : InputEntry) (s : State) : State := latchT .input { s with input := s.input ++ [e] }

/-- A CHAR or BREAK entry may be placed: at least S + 8 entries stay free once it is (R29). -/
def State.roomForInput (s : State) : Bool :=
  decide (s.openCount + 8 ≤ Config.inputCapacity - (s.input.length + 1))

/-- An OPEN mark may be placed: at least S + 2 entries are free (R30). -/
def State.roomForOpen (s : State) : Bool := decide (s.openCount + 2 ≤ s.inputFree)

/-- The line's overrun flag is set (R31). -/
def setOverrun (i : LineId) (s : State) : State := s.modLine i fun l => { l with overrun := true }

/-- A received character is offered as a CHAR entry; the entry carries OVERRUN and clears the flag (R29, R31). -/
def offerChar (i : LineId) (c : Byte) (framing : Bool) (s : State) : State :=
  if s.roomForInput then
    (placeInput (.char i c (s.line i).overrun framing) s).modLine i fun l => { l with overrun := false }
  else setOverrun i s

/-- A break is offered as a BREAK entry, which leaves the overrun flag as it is (R29, R31). -/
def offerBreak (i : LineId) (s : State) : State :=
  if s.roomForInput then placeInput (.brk i) s else setOverrun i s

/-- An idle event sets the session's activity mark (R34, R44, R136). -/
def idleEvent (i : LineId) (s : State) : State := s.modSession i fun x => { x with activity := true }

/-! ### What the transmitter chooses next -/

/-- The text of a message slot as it stands (R40, R42). -/
def State.slotText (s : State) (k : Nat) : List Byte := s.slots.cells.getD k []

/-- The character of an item at a position, none when the item is over (R42, R50). -/
def State.itemChar (s : State) (it : OutItem) (n : Nat) : Option Byte :=
  match it with
  | .slot k => (s.slotText k)[n]?
  | .echo c => ([c] : List Byte)[n]?
  | .erase => ([0x08, 0x20, 0x08] : List Byte)[n]?

/-- The sign-on output list from position n of its first item: the items that remain, the next position, and the
character chosen. An item leaves the list when it is over, and an empty slot when its turn comes (R50, log
entry 37). -/
def State.nextOutput (s : State) : List OutItem → Nat → List OutItem × Nat × Option Byte
  | [], _ => ([], 0, none)
  | it :: rest, n =>
    match s.itemChar it n with
    | some c => (it :: rest, n + 1, some c)
    | none => s.nextOutput rest 0

/-- The oldest message of a message list that has something to send: its slot, the messages after it, and its first
character; an empty slot sends nothing (R40, R43). -/
def State.nextMessage (s : State) : List Nat → Option (Nat × List Nat × Byte)
  | [] => none
  | k :: rest =>
    match s.itemChar (.slot k) 0 with
    | some c => some (k, rest, c)
    | none => s.nextMessage rest

/-- The line sends character c next, and `it` at position n after it. -/
def LineRec.sending (l : LineRec) (c : Option Byte) (it : Option (OutItem × Nat)) : LineRec :=
  { l with txChar := c, txItem := it }

/-- The next character of the item in progress, if it has one (R42). -/
def State.continued (s : State) (l : LineRec) : Option (Byte × OutItem × Nat) :=
  match l.txItem with
  | some (it, n) => (s.itemChar it n).map fun c => (c, it, n)
  | none => none

/-- A character is taken from the output buffer in SESSION: the space notice (R38) and the idle event (R44). -/
def takeBuffered (i : LineId) (c : Byte) (rest : List Byte) (s : State) : State :=
  let joins := (s.line i).notice && decide (Config.bufferCapacity - rest.length = 64)
  let s := s.modLine i fun l =>
    { l.sending (some c) none with
      buffer := rest, notice := l.notice && !joins, inSpaceSet := l.inSpaceSet || joins, messages := [] }
  let s := if joins then latchT .space s else s
  if (s.lineGroup i).idleTx then idleEvent i s else s

/-- The choice in SESSION: the message in progress, the message list, then the output buffer (R43). -/
def chooseSession (i : LineId) (s : State) : State :=
  match s.continued (s.line i) with
  | some (c, it, n) => s.modLine i (·.sending (some c) (some (it, n + 1)))
  | none =>
    match s.nextMessage (s.line i).messages with
    | some (k, rest, c) =>
      s.modLine i fun l => { l.sending (some c) (some (.slot k, 1)) with messages := rest }
    | none =>
      match (s.line i).buffer with
      | c :: rest => takeBuffered i c rest s
      | [] => s.modLine i fun l => { l.sending none none with messages := [] }

/-- What Table 2-3 gives for CLOSING has been sent: HANGUP, at the end of the close's account work if that is still
PENDING (R45, R146). -/
def endClosing (i : LineId) (s : State) : State :=
  if (s.session i).any (·.work == some .pending) then s else hangup i s

/-- The choice in CLOSING: the rest of a message in progress, the buffer, then the closing message (R45, R46). -/
def chooseClosing (i : LineId) (s : State) : State :=
  match s.continued (s.line i) with
  | some (c, it, n) => s.modLine i (·.sending (some c) (some (it, n + 1)))
  | none =>
    match (s.line i).buffer with
    | c :: rest => s.modLine i fun l => { l.sending (some c) none with buffer := rest }
    | [] =>
      match (s.line i).closingSlot.bind fun k => (s.itemChar (.slot k) 0).map fun c => (k, c) with
      | some (k, c) => s.modLine i fun l => { l.sending (some c) (some (.slot k, 1)) with closingSlot := none }
      | none => endClosing i (s.modLine i fun l => { l.sending none none with closingSlot := none })

/-- The choice in SIGNON: the sign-on output list (R50); in REFUSING an empty list ends the call (R67). -/
def chooseSignOn (i : LineId) (s : State) : State :=
  match (s.line i).signOn with
  | none => s.modLine i (·.sending none none)
  | some part =>
    let next := s.nextOutput part.output part.outPos
    let s := s.modLine i fun l =>
      { l.sending next.2.2 none with signOn := some { part with output := next.1, outPos := next.2.1 } }
    if next.2.2 = none ∧ part.phase = .refusing then hangup i s else s

/-- The choice in TEST: slot 14 by position, each character counted and looped to the receiver (R24). -/
def chooseTest (i : LineId) (s : State) : State :=
  match s.continued (s.line i) with
  | some (c, it, n) =>
    s.modLine i fun l =>
      { l.sending (some c) (some (it, n + 1)) with
        test := l.test.map fun t => { t with sent := t.sent + 1, awaiting := t.awaiting ++ [c] } }
  | none => s.modLine i fun l => { l with txChar := none }

/-- The transmitter chooses its next source by the line state; in the other states it holds mark (R42). -/
def choose (i : LineId) (s : State) : State :=
  match (s.line i).state with
  | .signOn => chooseSignOn i s
  | .session => chooseSession i s
  | .closing => chooseClosing i s
  | .test => chooseTest i s
  | .disabled | .idle | .busied | .ringing | .answering | .speed | .hangup | .faulted =>
    s.modLine i (·.sending none none)

/-- An idle transmitter with something to send chooses at once (R42, log entry 7). -/
def kick (i : LineId) (s : State) : State := if (s.line i).txChar.isSome then s else choose i s

/-- A message request of R43: a slot already on the list adds nothing. -/
def LineRec.request (l : LineRec) (k : Nat) : LineRec :=
  if l.messages.contains k then l else { l with messages := l.messages ++ [k] }

/-- A part message is placed on a session's message list (R43). -/
def requestMessage (i : LineId) (k : Nat) (s : State) : State := kick i (s.modLine i (·.request k))

end Sys2Proof.Machine
end

