-- ==== Sys2Proof/Machine/Postings.lean ====
section
/-! DEFINITION. Postings (section 4.4), close decisions and their account work (R95, R102, R141, R145, R146), and
billing records (chapter 9). -/

namespace Sys2Proof.Machine

/-! ### Billing records (R171 to R174) -/

/-- A serial or sequence counter: 65,535 is followed by 1 (R149, R173). -/
def nextCounter (n : Nat) : Nat := if n < 65535 then n + 1 else 1

/-- A record joins the tail of the store with the next sequence; BILLING and BILLING_HIGH begin to hold at the
write that makes them (R173, R179, R180). -/
def writeRecord (r : Nat → BillingRecord) (s : State) : State :=
  let s := { s with
    billing := { s.billing with
      records := s.billing.records ++ [r s.billing.sequence], sequence := nextCounter s.billing.sequence } }
  let s := latchA .billing s
  if s.billingHighCond then latchA .billingHigh s else s

/-- The billing record of a session as its close decision and account work leave it (R174, Table 9-2); what R175 remarks
on its stamps and seconds follows from them (log entry 39). -/
def recordOf (i : LineId) (x : Session) (roundedUp : Bool) (sequence : Nat) : BillingRecord :=
  { sequence := sequence, serial := x.serial, line := i, user := x.user, cls := x.cls, openStamp := x.openStamp
    closeStamp := x.closeStamp.getD x.lastMetered, connectSeconds := x.connectSeconds, heldSeconds := x.heldSeconds
    connectUnits := x.connectUnits, setupUnits := x.setupUnits, resourceUnits := x.resourceUnits
    reason := x.closeReason.getD .power, clockSet := x.clockSet, late := x.late, saturated := x.saturated
    roundedUp := roundedUp }

/-! ### Balances (R86, R90) -/

/-- A balance less u units, held at −8,388,608 (R86). -/
def debited (balance : Int) (u : Nat) : Int := max balanceMin (balance - u)

/-- A balance plus u units, held at +8,388,607 (R90). -/
def credited (balance : Int) (u : Nat) : Int := min balanceMax (balance + u)

/-- A debit posting to the account record alone (R86). -/
def debitBalance (user u : Nat) (s : State) : State :=
  s.modAccount user fun a => { a with balance := debited a.balance u, periodUnits := addHold32 a.periodUnits u }

/-- The account's open count goes down by 1 at a close decision's account work (R71, R145). -/
def lowerOpenCount (user : Nat) (s : State) : State :=
  s.modAccount user fun a => { a with openCount := a.openCount - 1 }

/-- Exhaustion of a session: the balance is at or below minus the credit floor of the session's class (R87). -/
def State.exhausted (s : State) (x : Session) : Bool :=
  (s.account x.user).any fun a => decide (a.balance ≤ -((s.classRec x.cls).floor : Int))

/-- The lines whose METERED session of the user the exhaustion check moves to GRACE (R87). -/
def State.exhaustedLines (s : State) (user : Nat) : List LineId :=
  allLines.filter fun i => (s.session i).any fun x => x.state == .metered && x.user == user && s.exhausted x

/-- A session enters GRACE with the grace of its class, read now (R87). -/
def State.enterGrace (s : State) (x : Session) : Session :=
  { x with state := .grace, grace := some (s.classRec x.cls).grace }

/-- The exhaustion check (R87): every METERED session of the user judged by its own class. -/
def exhaust (user : Nat) (s : State) : State :=
  let judged := s.exhaustedLines user
  s.mapSessions fun i x => if judged.contains i then s.enterGrace x else x

/-- The lines that enter GRACE with a grace of 0 at an exhaustion check (R88). -/
def State.zeroGraceLines (s : State) (user : Nat) : List LineId :=
  (s.exhaustedLines user).filter fun i => (s.session i).any fun x => (s.classRec x.cls).grace == 0

/-- The funds warning for one line (R89): once for each session, FUNDS_WARN placed on its message list. The lines in
`spared` are those whose sessions this posting closes under R88, which are not warned. -/
def warnLine (spared : List LineId) (user : Nat) (i : LineId) (s : State) : State :=
  match s.openSession i with
  | some x =>
    if !spared.contains i && x.user == user && !x.fundsWarned &&
        (s.account user).any (fun a => decide (a.balance ≤ ((s.classRec x.cls).warn : Int))) then
      requestMessage i 9 (s.modSession i fun x => { x with fundsWarned := true })
    else s
  | none => s

/-- The funds warning over the sessions of an account, in line order (R89). -/
def fundsWarning (spared : List LineId) (user : Nat) (s : State) : State := s.forLines (warnLine spared user)

/-! ### Close decisions (R145) -/

/-- The close reasons that place no CLOSE mark (R30, R145). -/
def CloseReason.marks : CloseReason → Bool
  | .power | .restart => false
  | .logoff | .carrier | .funds | .idle | .suspended | .shutdown | .systemDown | .lineDisabled => true

/-- The closing message of Table 2-3; none for the reasons that take the line to HANGUP with nothing sent. -/
def CloseReason.message : CloseReason → Option Nat
  | .logoff => some 12
  | .funds => some 10
  | .idle | .suspended | .shutdown | .lineDisabled => some 13
  | .carrier | .systemDown | .restart | .power => none

/-- The line's output at a close decision (Table 2-3, R45): LOGOFF keeps the buffer and a message in progress. -/
def LineRec.settleOutput (r : CloseReason) (l : LineRec) : LineRec :=
  let l := { l with messages := [], notice := false, overrun := false, closingSlot := r.message }
  if r = .logoff then l else { l with buffer := [], txItem := none }

/-- A session at its close decision (R145, step 1). -/
def Session.closed (r : CloseReason) (stamp : Stamp) (x : Session) : Session :=
  { x with state := .closing, heldFrom := none, grace := none, closeReason := some r, closeStamp := some stamp }

/-- Steps 1 to 3 of a close decision (R145) on an open session; a session already closed has had its one decision
(R147). -/
def closeDecision (r : CloseReason) (stamp : Stamp) (i : LineId) (s : State) : State :=
  match s.openSession i with
  | some x =>
    let s := s.modSession i (Session.closed r stamp)
    let s := if r.marks then placeInput (.closeMark i x.serial r) s else s
    s.modLine i (LineRec.settleOutput r)
  | none => s

/-- Close rounding (Table 7-3, R141). -/
def Rounding.extra : Rounding → Nat → Bool
  | .truncate, _ => false
  | .halfUp, residue => decide (3000 ≤ residue)
  | .ceiling, residue => decide (0 < residue)

/-- Units added to a session's unposted units, holding at 65,535 with SATURATED (R100, R133). -/
def Session.addUnposted (x : Session) (u : Nat) : Session :=
  if x.unpostedUnits + u ≤ 65535 then { x with unpostedUnits := x.unpostedUnits + u }
  else { x with unpostedUnits := 65535, saturated := true }

/-- Charges are set aside while the hold is GRANTED or RELEASING (R102). -/
def State.diverting (s : State) : Bool := s.hold.state == .granted || s.hold.state == .releasing

/-- The CLOSE entry and the seconds-due entry that account work makes under a hold (R102, R134). -/
def divertClose (x : Session) (s : State) : State :=
  let s := if 0 < x.unpostedUnits then
      { s with deferred := s.deferred ++ [⟨x.user, x.unpostedUnits, .close⟩] } else s
  if 0 < x.unpostedSeconds then
    { s with engine := { s.engine with secondsDue := s.engine.secondsDue ++ [⟨x.user, x.unpostedSeconds⟩] } }
  else s

/-- Step 4 of a close decision, its account work (R95, R102, R141, R145, R171), with the posting function for the
rounding unit. The record is written before the unit's posting and its checks, so that records stand in the order
of their close decisions (R167, log entry 15). -/
def accountWork (post : Nat → Nat → State → State) (i : LineId) (s : State) : State :=
  match s.session i with
  | none => s
  | some x =>
    let up := (s.classRec x.cls).rounding.extra x.residue
    let cu := if up then addStated .connectUnits x.connectUnits 1 s else (x.connectUnits, s)
    let s := cu.2
    let x := { x with connectUnits := cu.1, work := some .done }
    let x := if up && s.diverting then x.addUnposted 1 else x
    let kept := if s.diverting then { x with unpostedUnits := 0, unpostedSeconds := 0 } else x
    let s := if s.diverting then divertClose x s else s
    let s := s.modSession i fun _ => kept
    let s := dropReservation i (writeRecord (recordOf i x up) s)
    let s := lowerOpenCount x.user s
    if up && !s.diverting then post x.user 1 s else s

/-- The line goes to CLOSING and sends what Table 2-3 gives (R19, R45). -/
def enterClosing (i : LineId) (s : State) : State := kick i (s.modLine i fun l => { l with state := .closing })

/-- A close decision made inside an access makes all its steps there (R145, R146). For RESTART the line enters
HANGUP in the line work (R27). -/
def closeInAccess (post : Nat → Nat → State → State) (r : CloseReason) (i : LineId) (s : State) : State :=
  match s.openSession i with
  | none => s
  | some _ =>
    let s := accountWork post i (closeDecision r s.clock.stamp i s)
    if r.message.isSome then enterClosing i s else s

/-- A debit posting (R86) with its exhaustion check (R87), the FUNDS closes of a grace of 0 in line order (R88), and
then the funds warning (R89). A charge of 0 makes no posting. The rounding unit of a close is a posting of its own
(R88), which spares the lines whose closes are still to come; each nested posting follows a close that leaves one
METERED session fewer, so 33 levels are never all used (log entry 16). -/
def postLevels : Nat → List LineId → Nat → Nat → State → State
  | 0, spared, user, u, s => fundsWarning spared user (debitBalance user u s)
  | n + 1, spared, user, u, s =>
    if u = 0 then s
    else
      let s := debitBalance user u s
      let zero := s.zeroGraceLines user
      let close := fun s i => closeInAccess (postLevels n (spared ++ zero)) .funds i s
      fundsWarning spared user (zero.foldl close (exhaust user s))

/-- A debit posting of u units to a user's account, with its checks (R86 to R89). -/
def post (user u : Nat) (s : State) : State := postLevels 33 [] user u s

/-- A close decision inside an access, with the postings of R86 to R89. -/
def closeNow (r : CloseReason) (i : LineId) (s : State) : State := closeInAccess post r i s

/-- A close decision reached outside any access (R146): steps 1 to 3 now, the account work PENDING and asked for;
a line whose close sends a message goes to CLOSING, another stays where it is. -/
def closeOutside (r : CloseReason) (i : LineId) (s : State) : State :=
  match s.openSession i with
  | none => s
  | some _ =>
    let s := closeDecision r s.clock.stamp i s
    let s := s.modSession i fun x => { x with work := some .pending }
    let s := { s with engine := { s.engine with closeWork := s.engine.closeWork ++ [i] } }
    if r.message.isSome then enterClosing i s else s

/-- A session after a credit posting (R90): GRACE above the floor returns to METERED, and so does a held-from
GRACE. -/
def State.relieve (s : State) (x : Session) : Session :=
  if s.exhausted x then x
  else if x.state == .grace then { x with state := .metered, grace := none }
  else if x.state == .held && x.heldFrom == some .grace then { x with heldFrom := some .metered, grace := none }
  else x

/-- A credit posting (R90). -/
def creditPosting (user u : Nat) (s : State) : State :=
  let s := s.modAccount user fun a => { a with balance := credited a.balance u }
  s.mapSessions fun _ x => if x.user == user then s.relieve x else x

end Sys2Proof.Machine
end

