-- ==== Sys2Proof/Machine/Arbiter.lean ====
section
/-! DEFINITION. The account arbiter (R92 to R96): who asks, whom the arbiter grants, and the rotation. A grant is given at
the row that lets the arbiter give it, and is held until the row that makes the access (log entry 2). The installs of
R125 stand here too, because they are made between accesses. -/

namespace Sys2Proof.Machine

/-- The command whose access to the account table waits at port p's command unit (R92). -/
def State.waitingCommand (s : State) (p : PortId) : Option Instr :=
  match (s.port p).state, (s.port p).job with
  | .busy, some ⟨.waiting, c⟩ => some c
  | _, _ => none

/-- A session existed when the pass's tick was taken (R130). -/
def Tick.sees (t : Tick) (x : Session) : Bool := decide (x.bornTick < t.number)

/-- A pass has a session yet to charge: METERED or GRACE, on a line not yet visited, and old enough (R130). -/
def State.passWants (s : State) : Bool :=
  match s.engine.pass with
  | none => false
  | some p => (allLines.drop p.next).any fun i => (s.session i).any fun x => p.tick.sees x && x.state.isCharged

/-- Some session part has unposted units, or a deferred entry waits (R108). -/
def State.setAside (s : State) : Bool :=
  !s.deferred.isEmpty || allLines.any fun i => (s.session i).any fun x => decide (0 < x.unpostedUnits)

/-- The engine's waiting requests other than that of a pass: the access of R134 and close work (R95). -/
def State.engineAsks (s : State) : Bool := s.engine.dueAsked || !s.engine.closeWork.isEmpty

/-- A client of the rotation has a request waiting, which a grant it holds has met; the checker asks only while the hold
is NONE (R57, R92). -/
def State.asks (s : State) : Client → Bool
  | .engine => false
  | .checker => s.checkerAsks
  | .unit p => (s.waitingCommand p).isSome && s.arbiter.grant != some (.unit p)

/-- The client the arbiter chooses when the table is free (R93, R94, R96). The engine goes first when it asks; after an
access of a pass it works out the next charge before it asks again, and a client then waiting is granted one access
(R93, `passAsked`). The access of R134 goes ahead of every other client. -/
def State.chosen (s : State) : Option Client :=
  if s.engine.dueAsked then some .engine
  else
    match s.hold.state with
    | .none =>
      if s.engineAsks || (s.passWants && s.arbiter.passAsked) then some .engine
      else
        match s.arbiter.rotation.find? s.asks with
        | some c => some c
        | none => if s.passWants then some .engine else none
    | .requested => if s.engineAsks || s.passWants then some .engine else none
    | .granted =>
      if s.asks (.unit .a) then some (.unit .a)
      else if s.engineAsks || (s.passWants && s.arbiter.passAsked) then some .engine
      else if s.asks (.unit .t) then some (.unit .t)
      else if s.passWants then some .engine
      else none
    | .releasing => if s.engineAsks || s.passWants || s.setAside then some .engine else none

/-- The client whose access comes next: the one that holds the grant, else the one the arbiter chooses (R92). -/
def State.nextGrant (s : State) : Option Client :=
  match s.arbiter.grant with
  | some c => some c
  | none => s.chosen

/-- A client of the rotation is granted: it holds the grant and moves to the end of the order (R94), and a pass in
progress asks for its next access behind it (R93). The grant meets the checker's request (R57). -/
def grantTo (c : Client) (s : State) : State :=
  { s with
    arbiter := { s.arbiter with
      grant := some c, rotation := s.arbiter.rotation.erase c ++ [c], passAsked := s.engine.pass.isSome
      checkerAsked := s.arbiter.checkerAsked && c != .checker } }

/-- A free table is granted at once to the client of the rotation that the arbiter chooses (R94). The engine is granted
at the row that makes its access, which is whole (log entry 2). -/
def arbitrate (s : State) : State :=
  if s.arbiter.grant = none then
    match s.chosen with
    | none | some .engine => s
    | some c => grantTo c s
  else s

/-- The state in which client c makes its access: it holds the grant already, or is granted now (R92, R94). -/
def granted (c : Client) (s : State) : State := if s.arbiter.grant = some c then s else grantTo c s

/-! ### Installs (R125) -/

/-- The schedules and day map with an install made: what it names is replaced whole (R122, R123). -/
def Tariff.install (t : Tariff) : Install → Tariff
  | .schedule .a bands => { t with schedA := bands }
  | .schedule .b bands => { t with schedB := bands }
  | .dayMap map => { t with dayMap := map }
  | .classRecord _ _ => t

/-- The class table with an install made (R124). -/
def installClass (classes : Bank ClassRec 4) : Install → Bank ClassRec 4
  | .schedule _ _ | .dayMap _ => classes
  | .classRecord c record => classes.set c record

/-- An install is made between accesses: at once at a free table, and one taken while an access is in progress at the
end of that access (R125). Its command completes in its own row either way (DESIGN CHOICE, log entry 47). -/
def takeInstall (x : Install) (s : State) : State :=
  if s.arbiter.grant = none then { s with tariff := s.tariff.install x, classes := installClass s.classes x }
  else { s with installs := s.installs ++ [x] }

/-- The schedules and day map with every install made that has been taken. -/
def State.takenTariff (s : State) : Tariff := s.installs.foldl Tariff.install s.tariff

/-- The class table with every install made that has been taken. -/
def State.takenClasses (s : State) : Bank ClassRec 4 := s.installs.foldl installClass s.classes

/-- At the end of an access the installs taken during it are made, in the order in which they were taken, before the
next access begins (R125). -/
def makeInstalls (s : State) : State :=
  { s with tariff := s.takenTariff, classes := s.takenClasses, installs := [] }

end Sys2Proof.Machine
end

