-- ==== Sys2Proof/Machine/Ports.lean ====
section
/-! DEFINITION. Completion of a command at a port (R186, R188) and the words of the command path (R183, R184,
R187). -/

namespace Sys2Proof.Machine

/-- The watch timer starts at the window, if the window is above 0 (R156, R186). -/
def startWatchTimer (s : State) : State :=
  if 0 < s.watch.window then { s with watch := { s.watch with timer := Timer.seconds s.watch.window } } else s

/-- A port unit at completion (R186): the response replaces the record, DONE latches. -/
def PortUnit.completed (u : PortUnit) (p : PortId) (st : Status) (clamped : Bool) (fields : List Word) : PortUnit :=
  PortUnit.latch
    { u with
      state := .done, record := [], overflow := false, response := responseRecord st clamped fields, readPos := 0
      status := st, clamped := clamped, job := none }
    (doneBit p)

/-- A record refused at the check of R185 changes nothing but the port's own state, last status and DONE latch. -/
def refuseRecord (p : PortId) (st : Status) (s : State) : State := s.modPort p (·.completed p st false [])

/-- A command completes (R186); at the T port the watch timer then starts (R156). -/
def complete (p : PortId) (st : Status) (clamped : Bool) (fields : List Word) (s : State) : State :=
  let s := s.modPort p (·.completed p st clamped fields)
  match p with
  | .t => startWatchTimer s
  | .a => s

/-- Completion with OK and a response. -/
def completeOk (p : PortId) (fields : List Word) (s : State) : State := complete p .ok false fields s

/-- Completion of a refused command: its response holds the status alone (R186, R200). -/
def refuse (p : PortId) (st : Status) (s : State) : State := complete p st false [] s

/-- A write at DATA by the port state (R183); ignored while the starting mark is set. -/
def dataWriteAt (p : PortId) (w : Word) (s : State) : State :=
  let u := s.port p
  if u.starting then s
  else
    match u.state with
    | .idle | .done =>
      s.setPort p { u with response := [], readPos := 0, record := [w], overflow := false, state := .building }
    | .building =>
      if u.record.length < 20 then s.setPort p { u with record := u.record ++ [w] }
      else s.setPort p { u with overflow := true }
    | .busy => latchCollision p s

/-- A read at DATA (R187): the word goes on the data pins; in DONE the read position moves on. -/
def dataReadAt (p : PortId) (s : State) : State :=
  let u := s.port p
  if !u.starting && u.state == .done && decide (u.readPos < u.response.length) then
    s.setPort p { u with bus := u.response.getD u.readPos 0, readPos := u.readPos + 1 }
  else s.setPort p { u with bus := 0 }

/-- ABORT BUILD by the port state (R184). -/
def abortBuildAt (p : PortId) (s : State) : State :=
  let u := s.port p
  if u.starting then s
  else
    match u.state with
    | .idle => s
    | .building => s.setPort p { u with record := [], overflow := false, state := .idle }
    | .busy => latchCollision p s
    | .done => s.setPort p { u with response := [], readPos := 0, state := .idle }

/-- REREAD by the port state (R184). -/
def rereadAt (p : PortId) (s : State) : State :=
  let u := s.port p
  if u.starting then s
  else
    match u.state with
    | .idle | .building => s
    | .busy => latchCollision p s
    | .done => s.setPort p { u with readPos := 0 }

/-- A write at CONTROL with no request latches COLLISION in every port state (R184). -/
def noRequestAt (p : PortId) (s : State) : State :=
  if (s.port p).starting then s else latchCollision p s

end Sys2Proof.Machine
end

