-- ==== Sys2Proof/Machine/AccountWork.lean ====
section
/-! DEFINITION. The table work of the account commands (section 4.3): what each does in its one access, ended by its
completion at the port that gave it. -/

namespace Sys2Proof.Machine

/-- The record ACCOUNT ADD inserts (R75). -/
def newAccount (user : Nat) (cls : Fin 4) (check limit : Nat) (balance : Int) : Account :=
  { user := user, cls := cls, check := check, balance := balance, state := .active, failCount := 0
    lockedUntil := none, limit := limit, openCount := 0, periodSeconds := 0, periodUnits := 0, lastSignOn := none }

/-- A record inserted at its place in ascending order of user number (R70, R75). -/
def insertAccount (a : Account) : List Account → List Account
  | [] => [a]
  | b :: rest => if a.user < b.user then a :: b :: rest else b :: insertAccount a rest

/-- The posted balance of a user number, as a response gives it (R78, R79, R154). -/
def State.balanceWords (s : State) (user : Nat) : List Word := wBalance ((s.account user).elim 0 (·.balance))

/-- ACCOUNT ADD in its access (R75). -/
def workAccountAdd (p : PortId) (user : Nat) (cls : Fin 4) (check limit : Nat) (balance : Int) (s : State) : State :=
  if (s.account user).isSome then refuse p .exists_ s
  else if Config.accountCapacity ≤ s.accounts.length then refuse p .tableFull s
  else completeOk p [] { s with accounts := insertAccount (newAccount user cls check limit balance) s.accounts }

/-- ACCOUNT SET in its access (R76). -/
def workAccountSet (p : PortId) (user : Nat) (cls : Fin 4) (check limit : Nat) (s : State) : State :=
  match s.account user with
  | none => refuse p .notFound s
  | some _ =>
    completeOk p [] (s.modAccount user fun a => { a with cls := cls, check := check, limit := limit })

/-- An account is still named elsewhere in the part (R77). -/
def State.accountUsed (s : State) (a : Account) : Bool :=
  decide (0 < a.openCount) || allLines.any (fun i => (s.session i).any (·.user == a.user)) ||
    s.deferred.any (·.user == a.user)

/-- The account's entry of the seconds-due list is discarded with the account (R134), so that an account added again
under the number does not receive its seconds. -/
def discardDue (user : Nat) (s : State) : State :=
  { s with engine := { s.engine with secondsDue := s.engine.secondsDue.filter (·.user != user) } }

/-- ACCOUNT DELETE in its access (R77, R134). -/
def workAccountDelete (p : PortId) (user : Nat) (s : State) : State :=
  match s.account user with
  | none => refuse p .notFound s
  | some a =>
    if s.accountUsed a then refuse p .inUse s
    else completeOk p [] (discardDue user { s with accounts := s.accounts.filter (·.user != user) })

/-- CREDIT in its access (R78). -/
def workCredit (p : PortId) (user amount : Nat) (s : State) : State :=
  match s.account user with
  | none => refuse p .notFound s
  | some a =>
    let s := creditPosting user amount s
    complete p .ok (decide (balanceMax < a.balance + amount)) (s.balanceWords user) s

/-- DEBIT in its access (R79); the response gives the balance at the end of the access (log entry 33). -/
def workDebit (p : PortId) (user amount : Nat) (s : State) : State :=
  match s.account user with
  | none => refuse p .notFound s
  | some a =>
    let s := post user amount s
    complete p .ok (decide (a.balance - amount < balanceMin)) (s.balanceWords user) s

/-- Close, in line order, every open session that a command's access covers, counting those it closes; a session
closed on the way by a posting is passed over (R80, R147, R153, R165). -/
def closeMatching (r : CloseReason) (covers : Session → Bool) (s : State) : State × Nat :=
  allLines.foldl
    (fun acc i =>
      match acc.1.openSession i with
      | some x => if covers x then (closeNow r i acc.1, acc.2 + 1) else acc
      | none => acc)
    (s, 0)

/-- SUSPEND in its access (R80, Table 4-2). -/
def workSuspend (p : PortId) (user : Nat) (logout : Bool) (s : State) : State :=
  match s.account user with
  | none => refuse p .notFound s
  | some _ =>
    let s := s.modAccount user fun a => { a with state := .suspended, lockedUntil := none }
    let r := if logout then closeMatching .suspended (·.user == user) s else (s, 0)
    completeOk p [w16 r.2] r.1

/-- A record after RESUME (R81, Table 4-2). -/
def Account.resumed (a : Account) : Account :=
  match a.state with
  | .suspended => { a with state := .active, failCount := 0 }
  | .active | .lockedOut => a

/-- RESUME in its access (R81). -/
def workResume (p : PortId) (user : Nat) (s : State) : State :=
  match s.account user with
  | none => refuse p .notFound s
  | some a => completeOk p [w16 a.resumed.state.code] (s.modAccount user Account.resumed)

/-- A record after UNLOCK (R82, Table 4-2). -/
def Account.lockoutEnded (a : Account) : Account :=
  match a.state with
  | .lockedOut => { a with state := .active, failCount := 0, lockedUntil := none }
  | .active => { a with failCount := 0 }
  | .suspended => a

/-- UNLOCK in its access (R82). -/
def workUnlock (p : PortId) (user : Nat) (s : State) : State :=
  match s.account user with
  | none => refuse p .notFound s
  | some a => completeOk p [w16 a.lockoutEnded.state.code] (s.modAccount user Account.lockoutEnded)

/-- The check word a port is shown (R83). -/
def shownCheck (p : PortId) (a : Account) : Nat :=
  match p with
  | .t => 0
  | .a => a.check

/-- READ ACCOUNT in its access (R83). -/
def workReadAccount (p : PortId) (user : Nat) (s : State) : State :=
  match s.account user with
  | none => refuse p .notFound s
  | some a => completeOk p (accountWords a (shownCheck p a)) s

/-- SWEEP in its access (R84): the records stand in ascending order (R70). -/
def workSweep (p : PortId) (after : Nat) (s : State) : State :=
  match s.accounts.find? fun a => decide (after < a.user) with
  | none => refuse p .empty s
  | some a => completeOk p (accountWords a a.check) s

/-- CLOSE PERIOD in its access (R85). -/
def workClosePeriod (p : PortId) (s : State) : State :=
  if s.hold.state = .granted then
    completeOk p [w16 s.accounts.length]
      { s with accounts := s.accounts.map fun a => { a with periodSeconds := 0, periodUnits := 0 } }
  else refuse p .noHold s

end Sys2Proof.Machine
end

