-- ==== Sys2Proof/Machine/Metering.lean ====
section
/-! DEFINITION. The metering engine: ticks and passes (R129, R130, R135), the access for one session and one second
(R131 to R137), the end of a release (R108) and the seconds due (R134). -/

namespace Sys2Proof.Machine

/-! ### Rates -/

/-- The effective rate of a class on a line at a calendar value, with the class rate looked up in a tariff and the rate
factor of the line's group read now (R127, Table 1-3). -/
def State.rateBy (s : State) (tariff : Tariff) (i : LineId) (c : Fin 4) (v : Calendar) : Nat :=
  effectiveRate (tariff.lookup c v) (s.lineGroup i).rateFactor

/-- The effective rate by the tariff as it stands (R120, R127). -/
def State.rateAt (s : State) (i : LineId) (c : Fin 4) (v : Calendar) : Nat := s.rateBy s.tariff i c v

/-! ### One second of one session (R131, R133, R136, R137, R128) -/

/-- Charging one second: residue, connect seconds and units, then the posting or the diversion (R131, R133). -/
def chargeSecond (i : LineId) (t : Stamp) (s : State) : State :=
  match s.session i with
  | none => s
  | some x =>
    let total := x.residue + x.rate
    let u := total / 6000
    let cs := addStated .connectSeconds x.connectSeconds 1 s
    let cu := addStated .connectUnits x.connectUnits u cs.2
    let s := cu.2
    let x := { x with residue := total % 6000, connectSeconds := cs.1, lastMetered := t, connectUnits := cu.1 }
    if s.hold.passInGranted then
      s.modSession i fun _ =>
        { x.addUnposted u with unpostedSeconds := min (x.unpostedSeconds + 1) 65535 }
    else
      let s := s.modSession i fun _ => x
      let s := s.modAccount x.user fun a => { a with periodSeconds := addHold32 a.periodSeconds 1 }
      post x.user u s

/-- A session's idle count in one access (R136). -/
def Session.countIdle (x : Session) : Session :=
  if x.activity then { x with idleSeconds := 0, activity := false, idleWarned := false }
  else { x with idleSeconds := min (x.idleSeconds + 1) 65535 }

/-- The idle limit of the class is on and reached (R136). -/
def ClassRec.idleOver (c : ClassRec) (x : Session) : Bool := c.idleLimit != 0 && decide (c.idleLimit * 60 ≤ x.idleSeconds)

/-- The idle warn threshold of the class is on and reached, and this idle stretch is not yet warned (R136). -/
def ClassRec.idleWarns (c : ClassRec) (x : Session) : Bool :=
  c.idleWarn != 0 && decide (c.idleWarn * 60 ≤ x.idleSeconds) && !x.idleWarned

/-- What an access of the pass came to, besides the charge. -/
structure PassNote where
  idleClosed : Bool
  idleWarned : Bool
  graceEnded : Bool
  deriving DecidableEq, Repr

/-- The idle judgement (R136): the close at the limit, or the warning. -/
def judgeIdle (i : LineId) (s : State) : State × PassNote :=
  match s.openSession i with
  | none => (s, ⟨false, false, false⟩)
  | some x =>
    let x := x.countIdle
    let s := s.modSession i fun _ => x
    let c := s.classRec x.cls
    if c.idleOver x then (closeNow .idle i s, ⟨true, false, false⟩)
    else if c.idleWarns x then
      (requestMessage i 11 (s.modSession i fun x => { x with idleWarned := true }), ⟨false, true, false⟩)
    else (s, ⟨false, false, false⟩)

/-- The grace countdown (R137): at 0 the session closes with reason FUNDS. -/
def countGrace (i : LineId) (s : State) : State × Bool :=
  match s.openSession i with
  | none => (s, false)
  | some x =>
    let g := x.grace.getD 0 - 1
    let s := s.modSession i fun x => { x with grace := some g }
    if g = 0 then (closeNow .funds i s, true) else (s, false)

/-- The recompute of R128 at a minute-start tick, for a session still METERED or GRACE (R137): the class rate by the
schedules and day map installed when the tick was taken (R125, log entry 36), the rate factor as it stands (R4, R127). -/
def recompute (i : LineId) (t : Tick) (s : State) : State :=
  match s.session i with
  | some x =>
    if x.state.isCharged && t.value.second == 0 then
      s.modSession i fun x => { x with rate := s.rateBy t.tariff i x.cls t.value }
    else s
  | none => s

/-- The access of the pass for the session on line i: the charge, the idle judgement, the grace countdown, the
recompute (R131, R132, R136, R137). A session closed on the way is left there. -/
def passAccess (i : LineId) (t : Tick) (s : State) : State × PassNote :=
  let inGrace := (s.session i).any (·.state == .grace)
  let s := chargeSecond i t.value.stamp s
  let j := judgeIdle i s
  let g := if inGrace && !j.2.idleClosed then countGrace i j.1 else (j.1, false)
  (recompute i t g.1, { j.2 with graceEnded := g.2 })

/-! ### Passes -/

/-- A HELD session counts one held second, without an access (R138). -/
def heldSecond (i : LineId) (s : State) : State :=
  match s.session i with
  | none => s
  | some x =>
    let h := addStated .heldSeconds x.heldSeconds 1 s
    h.2.modSession i fun x => { x with heldSeconds := h.1 }

/-- The next line the pass is to visit. -/
def setNext (n : Nat) (s : State) : State :=
  { s with engine := { s.engine with pass := s.engine.pass.map fun p => { p with next := n } } }

/-- The pass visits lines in order up to the next session it must charge (R130): held seconds are counted on the
way, and every other line is passed over. -/
def visitLines (t : Tick) : List LineId → State → State
  | [], s => setNext 32 s
  | i :: rest, s =>
    match s.session i with
    | some x =>
      if t.sees x && x.state.isCharged then setNext i.val s
      else if t.sees x && x.state == .held then visitLines t rest (heldSecond i s)
      else visitLines t rest s
    | none => visitLines t rest s

/-- A pass that has visited line 31 ends (R129, R130). -/
def endPass (s : State) : State :=
  if s.engine.pass.any (fun p => decide (32 ≤ p.next)) then
    { s with
      engine := { s.engine with pass := none }, hold := { s.hold with passInGranted := false }
      arbiter := { s.arbiter with passAsked := false } }
  else s

/-- The pass in progress goes on to the next session it must charge, or to its end. -/
def visit (s : State) : State :=
  match s.engine.pass with
  | none => s
  | some p => endPass (visitLines p.tick (allLines.drop p.next) s)

/-- A pass for a tick starts at line 0 and records whether the hold is GRANTED (R129). The engine works out the first
charge before it asks for the first access of the pass, as it does between two accesses, so a client of the rotation
that waits is granted one access first; when a client holds the grant already, the engine asks during that access
(DESIGN CHOICE, log entry 42). -/
def startPass (t : Tick) (s : State) : State :=
  visit { s with
    engine := { s.engine with pass := some ⟨t, 0⟩ }
    hold := { s.hold with passInGranted := s.hold.state == .granted }
    arbiter := { s.arbiter with passAsked := s.arbiter.grant.isSome } }

/-- When a pass has ended, a remembered tick starts its own pass at once, but not while the hold is RELEASING
(R129). -/
def startRemembered (s : State) : State :=
  match s.engine.pass, s.engine.remembered with
  | none, some t =>
    if s.hold.state == .releasing || s.engine.dueAsked then s
    else startPass t { s with engine := { s.engine with remembered := none } }
  | _, _ => s

/-- The pass goes on; a remembered tick follows its end. -/
def goOn (s : State) : State := startRemembered (visit s)

/-- A lost tick sets LATE in every open session (R135). -/
def loseTick (s : State) : State :=
  s.mapSessions fun _ x => if x.state.isOpen then { x with late := true } else x

/-- A tick is taken (R129, R135), with the schedules and day map of the installs taken before it (R125). -/
def takeTick (s : State) : State :=
  let t : Tick := ⟨s.clock, s.engine.ticks + 1, s.takenTariff⟩
  let s := { s with engine := { s.engine with ticks := t.number } }
  if s.engine.remembered.isSome then loseTick s
  else if s.engine.pass.isSome || s.hold.state == .releasing then
    { s with engine := { s.engine with remembered := some t } }
  else startPass t s

/-! ### Release (R105 to R108) and seconds due (R134) -/

/-- The release ends at the step at which nothing is set aside and no pass begun in GRANTED is in progress: the hold
becomes NONE, the recorded limit is cleared, and the engine asks for the access of R134 (R107, R108). A T access that a
HOLD RELEASE found in progress may still set charges and seconds aside (R102, R134), so the release does not end before
that access has (DEDUCED, log entry 46). -/
def settleRelease (s : State) : State :=
  if s.hold.state == .releasing && s.arbiter.grant.isNone && s.engine.pass.isNone && !s.setAside then
    { s with
      hold := { s.hold with state := .none, limit := none }
      engine := { s.engine with dueAsked := true } }
  else s

/-- The hold becomes RELEASING and its timer stops (R105, R106, R109). -/
def beginRelease (s : State) : State :=
  settleRelease { s with hold := { s.hold with state := .releasing, timer := none } }

/-- The hold limit has passed in GRANTED (R106). -/
def limitOver (s : State) : State :=
  if s.hold.state = .granted ∧ s.hold.timer.expired then beginRelease (latchA .holdRevoked s) else s

/-- The end of an access (R92): the installs taken during it are made (R125), a hold limit that has passed acts (R106),
and a release that nothing keeps going ends (R108). -/
def endAccess (s : State) : State :=
  settleRelease (limitOver (makeInstalls { s with arbiter := { s.arbiter with grant := none } }))

/-- A client gives the table back: its access ends (R92), and the table is granted at once to the next client of the
rotation, if it is one's turn (R94). -/
def giveBack (s : State) : State := arbitrate (endAccess s)

/-- Seconds added to an account's period connect seconds; an entry whose account is gone is discarded (R134). -/
def addPeriodSeconds (user n : Nat) (s : State) : State :=
  s.modAccount user fun a => { a with periodSeconds := addHold32 a.periodSeconds n }

/-- The seconds of every seconds-due entry are added and the list is emptied (R134, R163 step 3). -/
def payDueList (s : State) : State :=
  let s' := s.engine.secondsDue.foldl (fun s e => addPeriodSeconds e.user e.seconds s) s
  { s' with engine := { s'.engine with secondsDue := [] } }

/-- A session part's unposted seconds are added to its own account and set to 0 (R134). -/
def payUnpostedSeconds (i : LineId) (s : State) : State :=
  match s.session i with
  | none => s
  | some x => (addPeriodSeconds x.user x.unpostedSeconds s).modSession i fun x => { x with unpostedSeconds := 0 }

/-- The access of R134 after a release. -/
def payDue (s : State) : State :=
  let s := (payDueList s).forLines payUnpostedSeconds
  { s with engine := { s.engine with dueAsked := false } }

/-- One posting of the release (R107): the oldest deferred entry, else the unposted units of the lowest line. -/
def releaseStep (s : State) : State :=
  match s.deferred with
  | e :: rest => post e.user e.units { s with deferred := rest }
  | [] =>
    match allLines.find? fun i => (s.session i).any fun x => decide (0 < x.unpostedUnits) with
    | none => s
    | some i =>
      match s.session i with
      | none => s
      | some x => post x.user x.unpostedUnits (s.modSession i fun x => { x with unpostedUnits := 0 })

/-! ### Close account work (R146) -/

/-- The engine's access for the oldest close decision reached outside any access (R146): its account work; then a
line that waited for it enters HANGUP. -/
def closeWorkAccess (s : State) : State :=
  match s.engine.closeWork with
  | [] => s
  | i :: rest =>
    let s := { s with engine := { s.engine with closeWork := rest } }
    if (s.session i).any (·.work == some .pending) then
      let s := accountWork post i s
      match (s.line i).state with
      | .session => hangup i s
      | .closing => kick i s
      | _ => s
    else s

/-- All the close work that waits, oldest first. -/
def serveCloseWork (s : State) : State := s.engine.closeWork.foldl (fun s _ => closeWorkAccess s) s

end Sys2Proof.Machine
end

