-- ==== Sys2Proof/Machine/SignOn.lean ====
section
/-! DEFINITION. The sign-on dialog (R48 to R56, R66, R67), serials (R149), and the verdict (R57 to R65). -/

namespace Sys2Proof.Machine

/-! ### The dialog -/

/-- A line enters SIGNON on a speed match (R17, R48): GREETING and ID_PROMPT, the sign-on timer at the group limit. -/
def enterSignOn (i : LineId) (sp : Fin 8) (s : State) : State :=
  let limit := (s.lineGroup i).signOnLimit
  kick i (s.modLine i fun l =>
    { l with
      state := .signOn, speed := some sp, phaseTimer := none, txChar := none, txItem := none
      signOn := some
        { phase := .idEntry, entry := [], user := none, check := none, attempts := 0, timer := limit * 10
          output := [.slot 0, .slot 1], outPos := 0 } })

/-- Change the sign-on part of line i, if it has one. -/
def State.modSignOn (s : State) (i : LineId) (f : SignOnPart → SignOnPart) : State :=
  s.modLine i fun l => { l with signOn := l.signOn.map f }

/-- Message items are always placed at the tail (R50). -/
def SignOnPart.place (part : SignOnPart) (slots : List Nat) : SignOnPart :=
  { part with output := part.output ++ slots.map .slot }

/-- An echo item is placed only while the list holds fewer than 48 items (R50). -/
def SignOnPart.echo (part : SignOnPart) (it : OutItem) : SignOnPart :=
  if part.output.length < 48 then { part with output := part.output ++ [it] } else part

/-- A bad attempt (R66): BAD_SIGNON; the third enters REFUSING, another starts ID entry again. -/
def SignOnPart.badAttempt (part : SignOnPart) : SignOnPart :=
  if 2 ≤ part.attempts then { part.place [3] with phase := .refusing, entry := [] }
  else
    { part.place [3, 1] with
      attempts := part.attempts + 1, user := none, check := none, entry := [], phase := .idEntry }

/-- A refusal places its message and enters REFUSING (R67). -/
def SignOnPart.refused (part : SignOnPart) (slot : Nat) : SignOnPart := { part.place [slot] with phase := .refusing }

/-- A bad attempt on line i (R66). -/
def badAttempt (i : LineId) (s : State) : State := kick i (s.modSignOn i SignOnPart.badAttempt)

/-- A refusal on line i with the message of a slot (R67). -/
def refuseCaller (i : LineId) (slot : Nat) (s : State) : State := kick i (s.modSignOn i (·.refused slot))

/-- The digits of the entry as a decimal number, 0 when empty (R53). -/
def decimal (digits : List Byte) : Nat := digits.foldl (fun n c => n * 10 + (c.toNat - 0x30)) 0

/-- The check word (R55): h starts at the user number, and each character c makes h (h × 33 + c) mod 16,777,216. -/
def checkWord (user : Nat) (passcode : List Byte) : Nat :=
  passcode.foldl (fun h c => (h * 33 + c.toNat) % 16777216) user

/-- A character in ID_ENTRY (R52, R53), by its low 7 bits. -/
def SignOnPart.idChar (part : SignOnPart) (c : Byte) : SignOnPart :=
  if c = 0x0D then
    { part.place [2] with user := some (decimal part.entry), entry := [], phase := .passEntry }
  else if 0x30 ≤ c.toNat ∧ c.toNat ≤ 0x39 then
    if part.entry.length < 6 then { part.echo (.echo c) with entry := part.entry ++ [c] } else part
  else if c = 0x08 ∨ c = 0x7F then
    if part.entry.isEmpty then part else { part.echo .erase with entry := part.entry.dropLast }
  else part

/-- A character in PASS_ENTRY other than CR (R54), by its low 7 bits. -/
def SignOnPart.passChar (part : SignOnPart) (c : Byte) : SignOnPart :=
  if 0x21 ≤ c.toNat ∧ c.toNat ≤ 0x7E then
    if part.entry.length < 12 then { part with entry := part.entry ++ [c] } else part
  else if c = 0x08 ∨ c = 0x7F then { part with entry := part.entry.dropLast }
  else part

/-- CR in PASS_ENTRY (R55): a local bad attempt, or the check word and the tail of the check request queue, where the
checker asks for it (R57) and at a free table is granted at once if it is its turn (R94). -/
def passEnd (i : LineId) (part : SignOnPart) (s : State) : State :=
  let user := part.user.getD 0
  if user = 0 ∨ part.entry.length < 4 then badAttempt i s
  else
    let s := s.modSignOn i fun p =>
      { p with check := some (checkWord user part.entry), entry := [], phase := .checkWait }
    arbitrate { s with checkQueue := s.checkQueue ++ [⟨i, false⟩] }

/-- A framed character in SIGNON (R51): a framing error is ignored, and the low 7 bits are interpreted. -/
def signOnChar (i : LineId) (data : Byte) (framing : Bool) (s : State) : State :=
  match (s.line i).signOn with
  | none => s
  | some part =>
    if framing then s
    else
      let c := data &&& 0x7F
      match part.phase with
      | .idEntry => kick i (s.modSignOn i (·.idChar c))
      | .passEntry => if c = 0x0D then passEnd i part s else s.modSignOn i (·.passChar c)
      | .checkWait | .refusing => s

/-! ### Serials (R149) -/

/-- Some session part carries the serial (R149). -/
def State.serialUsed (s : State) (n : Nat) : Bool := allLines.any fun i => (s.session i).any (·.serial == n)

/-- The first serial from n on that no session part carries, within a number of tries (R149: at most 32 session
parts exist). -/
def State.findSerial (s : State) : Nat → Nat → Nat
  | 0, n => n
  | k + 1, n => if s.serialUsed n then s.findSerial k (nextCounter n) else n

/-- The serial of the next session (R149). -/
def State.nextSerial (s : State) : Nat := s.findSerial 33 s.serialCounter

/-! ### The verdict (R60 to R65) -/

/-- A new session part (R126, R148). The clock's value at the verdict's access (R120, R126) is the one at the access's
row, also where the clock was loaded or advanced between the grant and that row (DESIGN CHOICE, log entry 49). -/
def newSession (s : State) (i : LineId) (user : Nat) (c : Fin 4) (serial : Nat) : Session :=
  { serial := serial, user := user, cls := c, state := .metered, heldFrom := none, openStamp := s.clock.stamp
    closeReason := none, closeStamp := none, work := none, rate := s.rateAt i c s.clock, residue := 0
    connectSeconds := 0, heldSeconds := 0, lastMetered := s.clock.stamp, connectUnits := 0
    setupUnits := (s.classRec c).setup, resourceUnits := 0, unpostedUnits := 0, unpostedSeconds := 0, grace := none
    idleSeconds := 0, activity := false, fundsWarned := false, idleWarned := false, clockSet := false, late := false
    saturated := false, bornTick := s.engine.ticks }

/-- The sign-on output item already begun, which SESSION completes (R65). -/
def SignOnPart.begun (part : SignOnPart) : Option (OutItem × Nat) :=
  if part.outPos = 0 then none else part.output.head?.map fun it => (it, part.outPos)

/-- An admission (R64, R65, R148): account, setup posting, session part, OPEN mark, SESSION with SIGNED_ON, and the
funds warning over all the account's sessions. -/
def openSessionOn (i : LineId) (part : SignOnPart) (a : Account) (s : State) : State :=
  let setup := (s.classRec a.cls).setup
  let s := s.modAccount a.user fun b =>
    { b with failCount := 0, lastSignOn := some s.clock.stamp, openCount := b.openCount + 1 }
  let s := leaveCheckQueue i (post a.user setup s)
  let serial := s.nextSerial
  let s := { s with serialCounter := nextCounter serial }
  let x := newSession s i a.user a.cls serial
  let s := s.modLine i fun l =>
    { l with state := .session, signOn := none, session := some x, messages := [15], txItem := part.begun }
  let s := placeInput (.openMark i serial a.user) s
  fundsWarning [] a.user (kick i s)

/-- The waiting-for-room mark of a line's entry is set (R58, R63). -/
def markWaiting (i : LineId) (s : State) : State :=
  { s with checkQueue := s.checkQueue.map fun e => if e.line == i then { e with waiting := true } else e }

/-- The refusal tests of R62, in their order: the slot of the first that refuses. -/
def State.refusalTest (s : State) (a : Account) : Option Nat :=
  let c := s.classRec a.cls
  if s.tPort.vote = .closed ∨ s.aPort.vote = .closed then some 7
  else if a.limit ≤ a.openCount then some 5
  else if a.balance - (c.setup : Int) ≤ -(c.floor : Int) then some 6
  else none

/-- The tests that follow for an ACTIVE account with a matching check word (R62 to R64). -/
def judgeActive (i : LineId) (part : SignOnPart) (a : Account) (s : State) : State :=
  match s.refusalTest a with
  | some slot => refuseCaller i slot (leaveCheckQueue i s)
  | none => if s.roomForOpen then openSessionOn i part a s else markWaiting i s

/-- A wrong check word (R60): an ACTIVE account counts it, and is locked out at the fail limit of its class. -/
def wrongCheckWord (a : Account) (s : State) : State :=
  if a.state = .active then
    let c := s.classRec a.cls
    if c.failLimit ≤ a.failCount + 1 then
      latchA .lockout (s.modAccount a.user fun b =>
        { b with
          failCount := a.failCount + 1, state := .lockedOut
          lockedUntil := some (s.clock.stamp.addMinutes c.lockout) })
    else s.modAccount a.user fun b => { b with failCount := a.failCount + 1 }
  else s

/-- The expiry of a lockout at a verdict with a matching check word (R61). -/
def Account.unlocked (a : Account) : Account := { a with state := .active, failCount := 0, lockedUntil := none }

/-- The verdict for one line (R60, R61). -/
def verdictFor (i : LineId) (s : State) : State :=
  match (s.line i).signOn with
  | none => leaveCheckQueue i s
  | some part =>
    match s.account (part.user.getD 0) with
    | none => badAttempt i (leaveCheckQueue i s)
    | some a =>
      if a.check ≠ part.check.getD 0 then badAttempt i (leaveCheckQueue i (wrongCheckWord a s))
      else
        match a.state with
        | .active => judgeActive i part a s
        | .suspended => refuseCaller i 4 (leaveCheckQueue i s)
        | .lockedOut =>
          if a.lockedUntil.any (·.le s.clock.stamp) then
            judgeActive i part a.unlocked (s.modAccount a.user Account.unlocked)
          else refuseCaller i 4 (leaveCheckQueue i s)

/-- The granted checker's access: one verdict for the oldest eligible line; with none left the grant is given back
unused (R57). Its readings are made at this row (DESIGN CHOICE, log entry 49). -/
def verdictAccess (s : State) : State :=
  match s.eligibleCheck with
  | none => s
  | some e => verdictFor e.line s

/-- Every waiting-for-room mark is cleared (R58). -/
def clearWaiting (s : State) : State :=
  { s with checkQueue := s.checkQueue.map fun e => { e with waiting := false } }

end Sys2Proof.Machine
end

