-- ==== Sys2Proof/Machine/Watch.lean ====
section
/-! DEFINITION. The T-port watch (R155 to R160): going DOWN, coming UP, and taking a T command. -/

namespace Sys2Proof.Machine

/-- A session enters HELD from METERED or GRACE (R151). -/
def Session.hold (x : Session) : Session :=
  if x.state.isCharged then { x with state := .held, heldFrom := some x.state } else x

/-- A line in SIGNON goes to CLOSING with SYSTEM_DOWN when the watch goes DOWN (R18, R45, R68). -/
def signOnDown (i : LineId) (s : State) : State :=
  let s := quitCheckQueue i s
  enterClosing i (s.modLine i fun l => { l with signOn := none, txItem := none, closingSlot := some 8 })

/-- What a line does when the watch goes DOWN, besides its readiness (R18). -/
def lineDown (i : LineId) (s : State) : State :=
  match (s.line i).state with
  | .answering | .speed => hangup i s
  | .signOn => signOnDown i s
  | _ => s

/-- The watch goes DOWN (R157). A pass that has no session left to charge then asks no more, and a client of the rotation
that waited behind it is granted (R94). -/
def watchDown (s : State) : State :=
  let s := { s with watch := { s.watch with
    down := true, timer := none
    holdDownTimer := if 0 < s.watch.holdDownLimit then Timer.seconds (s.watch.holdDownLimit * 60) else none } }
  let s := s.mapSessions fun _ x => x.hold
  arbitrate (latchA .systemDown (rejudge ((rejudge s).forLines lineDown)))

/-- A HELD session resumes by its held-from state (R159). -/
def resumeLine (i : LineId) (s : State) : State :=
  match s.session i with
  | none => s
  | some x =>
    if x.state != .held then s
    else
      let y := { x with heldFrom := none }
      if x.heldFrom == some .grace then s.modSession i fun _ => { y with state := .grace }
      else if s.exhausted x then
        let s := s.modSession i fun _ => s.enterGrace y
        if (s.classRec x.cls).grace = 0 then closeOutside .funds i s else s
      else s.modSession i fun _ => { y with state := .metered }

/-- The watch comes UP through a T command (R159). The held sessions resume in line order (DESIGN CHOICE, log
entry 34). -/
def watchUp (s : State) : State :=
  let s := { s with watch := { s.watch with down := false, holdDownTimer := none } }
  rejudge (latchA .systemUp (s.forLines resumeLine))

/-- A T command is taken by the watch (R156, R159, R185). -/
def takenByWatch (s : State) : State :=
  let s := { s with watch := { s.watch with timer := none } }
  if s.watch.down then watchUp s else s

/-- The hold-down limit has passed: every HELD session closes with SYSTEM_DOWN, in line order (R160). -/
def holdDownOver (s : State) : State :=
  let s := { s with watch := { s.watch with holdDownTimer := none } }
  s.forLines fun i s => if (s.session i).any (·.state == .held) then closeOutside .systemDown i s else s

end Sys2Proof.Machine
end

