-- ==== Sys2Proof/Machine/LineWork.lean ====
section
/-! DEFINITION. What the line units do: answering (R10 to R13), speed (R15 to R17), carrier loss (R14), enables (R7,
R8), faults (R21 to R23), the line test (R24, R25), the scan (R9, R14, R21, R22), and RESTART's line work (R27, R47). -/

namespace Sys2Proof.Machine

/-! ### Scan (R9, R14, R21, R22) -/

/-- The ring sampler (R9). The pair's second part is the report of a qualified ring. -/
def LineRec.sampleRing (l : LineRec) (ring : Bool) : LineRec × Bool :=
  if ring then
    let active := min (l.activeRun + 1) 80
    let qualified := l.armed && active == 2
    ({ l with inactiveRun := 0, activeRun := active, armed := l.armed && !qualified }, qualified)
  else
    let inactive := min (l.inactiveRun + 1) 5
    ({ l with activeRun := 0, inactiveRun := inactive, armed := l.armed || inactive == 5 }, false)

/-- States with no call, in which stuck carrier is timed (R21). -/
def LineState.watchesCarrierRun : LineState → Bool
  | .idle | .busied => true
  | _ => false

/-- States in which a stuck ring is found (R22). -/
def LineState.watchesRingRun : LineState → Bool
  | .idle | .busied | .ringing => true
  | _ => false

/-- States in which carrier loss is qualified (R14). -/
def LineState.qualifiesLoss : LineState → Bool
  | .speed | .signOn | .session | .closing => true
  | _ => false

/-- The carrier-present run (R21). -/
def LineRec.sampleRun (l : LineRec) (carrier : Bool) : Nat :=
  if carrier && l.state.watchesCarrierRun then min (l.carrierRun + 1) 100 else 0

/-- The carrier-loss counter (R14): the pair's second part is the loss, at which the counter becomes 0. -/
def LineRec.sampleLoss (l : LineRec) (carrier : Bool) (limit : Nat) : Nat × Bool :=
  if !l.state.qualifiesLoss then (l.lossCounter, false)
  else if carrier then (0, false)
  else if limit ≤ l.lossCounter + 1 then (0, true)
  else (l.lossCounter + 1, false)

/-- One scan of one line (R9, R14, R21, R22) and one scan of its timers. -/
def LineRec.scan (l : LineRec) (ring carrier : Bool) (lossLimit : Nat) : LineRec :=
  let r := l.sampleRing ring
  let loss := l.sampleLoss carrier lossLimit
  let run := l.sampleRun carrier
  { r.1 with
    carrierRun := run, lossCounter := loss.1, ringGap := Timer.scan l.ringGap, phaseTimer := Timer.scan l.phaseTimer
    signOn := l.signOn.map fun p => { p with timer := p.timer - 1 }
    reports :=
      { ring := r.2, present := l.state == .answering && carrier, loss := loss.2, stuckCarrier := run == 100
        stuckRing := l.state.watchesRingRun && r.1.activeRun == 80 } }

/-- One scan of all lines, with the other timers of the operating plane (log entry 5). -/
def scanAll (ring carrier : BitVec 32) (s : State) : State :=
  let s' := s.mapLines fun i l => l.scan (ring.getLsbD i.val) (carrier.getLsbD i.val) (s.lineGroup i).lossCount
  { s' with
    hold := { s.hold with timer := Timer.scan s.hold.timer }
    watch := { s.watch with timer := Timer.scan s.watch.timer, holdDownTimer := Timer.scan s.watch.holdDownTimer } }

/-- A scan's report has been acted on. -/
def takeReport (i : LineId) (f : Reports → Reports) (s : State) : State :=
  s.modLine i fun l => { l with reports := f l.reports }

/-! ### Answering (R10 to R12) -/

/-- To answer, the line asks for a reservation (R12, R169): ANSWERING on a grant, BUSIED on a refusal. -/
def answer (i : LineId) (s : State) : State :=
  if s.placeFree then
    let wait := (s.lineGroup i).carrierWait
    let s := { s with billing := { s.billing with reservations := s.billing.reservations + 1 } }
    rejudge (s.modLine i fun l =>
      { l with
        reserved := true, ringCount := 0, ringGap := none, lossCounter := 0, speedAttempts := 0
        phaseTimer := Timer.seconds wait, state := .answering })
  else s.modLine i fun l => { l with ringGap := none, ringCount := 0, state := .busied }

/-- A qualified ring acted on in IDLE and RINGING (R10, R11). -/
def ringOn (i : LineId) (s : State) : State :=
  let count := match (s.line i).state with
    | .ringing => (s.line i).ringCount + 1
    | _ => 1
  let s := s.modLine i fun l => { l with state := .ringing, ringCount := count, ringGap := Timer.seconds 8 }
  if (s.lineGroup i).ringCount ≤ count then answer i s else s

/-! ### Speed (R15 to R17) -/

/-- The divisors of Table 1-4, by speed code. -/
def divisors : List Nat := [2793, 2048, 1024, 512, 256, 128, 64, 32]

/-- A measurement matches a divisor: |m − d| × 8 ≤ d (R16). -/
def matchesDivisor (m d : Nat) : Bool := decide ((m - d + (d - m)) * 8 ≤ d)

/-- The speed of the group's set that a measurement matches, at most one (R16). -/
def matchSpeed (set : BitVec 8) (m : Nat) : Option (Fin 8) :=
  ([0, 1, 2, 3, 4, 5, 6, 7] : List (Fin 8)).find? fun sp =>
    set.getLsbD sp.val && matchesDivisor m (divisors.getD sp.val 0)

/-- A completed measurement judged and acted on (R15 to R17); the count holds at 4095. The third failure leaves speed
attempts at 2, the greatest value of Table 1-1 (DESIGN CHOICE, log entry 35). -/
def measured (i : LineId) (ticks : Nat) (s : State) : State :=
  match matchSpeed (s.lineGroup i).speedSet (min ticks 4095) with
  | some sp => enterSignOn i sp (s.modLine i fun l => { l with markWait := true })
  | none =>
    if 2 ≤ (s.line i).speedAttempts then hangup i s
    else s.modLine i fun l => { l with speedAttempts := l.speedAttempts + 1, markWait := true }

/-! ### Carrier loss (R14) -/

/-- A carrier loss by the line state (R14). -/
def loseCarrier (i : LineId) (s : State) : State :=
  match (s.line i).state with
  | .speed | .signOn => hangup i s
  | .session => closeOutside .carrier i s
  | .closing =>
    endClosing i (s.modLine i fun l =>
      { l.sending none none with buffer := [], messages := [], notice := false, closingSlot := none })
  | _ => s

/-! ### Enables (R5, R7, R8) -/

/-- What a line does when its effective enable goes off, besides R7 (R8). -/
def disableLine (i : LineId) (s : State) : State :=
  match (s.line i).state with
  | .ringing | .answering | .speed | .signOn => hangup i s
  | .session => closeOutside .lineDisabled i s
  | _ => s

/-- The lines act on a change of their effective enables between two states (R7, R8). Where a GROUP ENABLE changes several
at once the model takes them in line order, and so their close decisions (DESIGN CHOICE, log entry 34). -/
def actOnEnables (before after : State) : State :=
  rejudge (after.forLines fun i s => if before.effEnable i && !after.effEnable i then disableLine i s else s)

/-! ### Faults (R21 to R23) -/

/-- Entry to FAULTED (R22, R23). -/
def enterFaulted (i : LineId) (k : FaultKind) (s : State) : State :=
  latchT .lineFault (s.modLine i fun l => { l with state := .faulted, fault := k, ringGap := none, ringCount := 0 })

/-- A fault is cleared and the line goes by its enable and readiness (R23). A stuck report that no row has acted on goes
with the runs it was made of: the fault is found again only after a full run (log entry 6). -/
def clearFaultOn (i : LineId) (s : State) : State :=
  goRest i (s.modLine i fun l =>
    { l with
      fault := .none, carrierRun := 0, activeRun := 0
      reports := { l.reports with stuckCarrier := false, stuckRing := false } })

/-! ### Line test (R24, R25) -/

/-- The states from which a line accepts LINE TEST (R24). -/
def LineState.acceptsTest : LineState → Bool
  | .disabled | .idle | .busied | .faulted => true
  | _ => false

/-- A line enters TEST and its transmitter starts on slot 14 (R24). -/
def enterTest (i : LineId) (sp : Fin 8) (s : State) : State :=
  choose i (s.modLine i fun l =>
    { l with
      state := .test, test := some ⟨l.state, sp, 0, 0, []⟩, txChar := none, txItem := some (.slot 14, 0) })

/-- The line leaves TEST by its earlier state (R25). -/
def leaveTest (i : LineId) (abandoned : Bool) (s : State) : State :=
  match (s.line i).test with
  | none => s
  | some t =>
    let s := s.modLine i fun l => { l with test := none, txChar := none, txItem := none }
    if t.earlier = .faulted then
      if !abandoned && decide (0 < t.sent) && t.mismatches == 0 then clearFaultOn i s
      else s.modLine i fun l => { l with state := .faulted }
    else goRest i s

/-- All of slot 14 has been sent and judged (R25). -/
def State.testOver (s : State) (i : LineId) : Bool :=
  (s.line i).state == .test && (s.line i).test.any (·.awaiting.isEmpty) && (s.continued (s.line i)).isNone

/-- The test ends: LINE TEST completes at the T port and the line leaves TEST (R25). -/
def endTest (i : LineId) (s : State) : State :=
  match (s.line i).test with
  | none => s
  | some t => completeOk .t [w16 t.sent, w16 t.mismatches] (leaveTest i false s)

/-- A looped character is judged against the oldest one sent (R24). -/
def judgeLooped (data : Byte) (framing : Bool) (t : TestPart) : TestPart :=
  match t.awaiting with
  | [] => t
  | c :: rest => { t with awaiting := rest, mismatches := if framing || data != c then t.mismatches + 1 else t.mismatches }

/-! ### RESTART's line and transport work (R27, R47) -/

/-- What RESTART does to one line (R27, R165). -/
def restartLine (i : LineId) (s : State) : State :=
  match (s.line i).state with
  | .ringing | .answering | .speed | .signOn | .session | .closing => enterHangup i s
  | .test => leaveTest i true s
  | .disabled | .idle | .busied | .hangup | .faulted => s

/-- RESTART empties the transport blocks, the check request queue with the checker's request, and the staging areas
(R47, R56, R109, R119). -/
def clearTransport (s : State) : State :=
  let s := s.mapLines fun _ l =>
    { l with buffer := [], messages := [], notice := false, inSpaceSet := false, overrun := false }
  { s with
    input := [], checkQueue := [], stagingSlot := none, staged := []
    arbiter := { s.arbiter with checkerAsked := false }
    tariff := { s.tariff with stagingSchedule := none, stagedBands := [] } }

/-- RESTART's line work with the watch UP (R27, R47, R166): a line test at the T port is abandoned and completes with
RESTARTED. -/
def restartLineWork (s : State) : State :=
  let testing := allLines.any fun i => (s.line i).state == .test
  let s := { s with watch := { s.watch with down := false, holdDownTimer := none } }
  let s := clearTransport (s.forLines restartLine)
  let s := if testing then refuse .t .restarted s else s
  rejudge s

end Sys2Proof.Machine
end

