-- ==== Sys2Proof/Machine/SessionWork.lean ====
section
/-! DEFINITION. The table work of the commands that act on sessions: LOGOFF, SHUTDOWN SESSIONS, POST CHARGE (section
8.3) and RESTART (section 8.7, section 10.4). -/

namespace Sys2Proof.Machine

/-- The connect figures a LOGOFF's response gives (R152). -/
def connectWords (x : Session) : List Word := w32 x.connectUnits ++ w32 x.connectSeconds

/-- The session a LOGOFF names: METERED or GRACE, with the serial given, which is not 0 (R152). -/
def State.namedSession (s : State) (i : LineId) (serial : Nat) : Option Session :=
  (s.session i).filter fun x => x.state.isCharged && x.serial == serial && serial != 0

/-- LOGOFF in its access (R152). The figures are read once the account work has fixed them, before the line goes to
CLOSING. -/
def workLogoff (p : PortId) (i : LineId) (serial : Nat) (s : State) : State :=
  match s.namedSession i serial with
  | none => refuse p .stale s
  | some _ =>
    let s := accountWork post i (closeDecision .logoff s.clock.stamp i s)
    let figures := (s.session i).elim [0, 0, 0, 0] connectWords
    completeOk p figures (enterClosing i s)

/-- SHUTDOWN SESSIONS in its access (R153). -/
def workShutdown (p : PortId) (s : State) : State :=
  let r := closeMatching .shutdown (fun _ => true) s
  completeOk p [w16 r.2] r.1

/-- A session that a POST CHARGE may name (R154). -/
def Session.charges (x : Session) (user serial : Nat) : Bool :=
  x.state.isCharged && x.serial == serial && x.user == user

/-- The sessions' resource units after a POST CHARGE with a serial (R103, R154). -/
def addResource (user units serial : Nat) (s : State) : State :=
  if serial = 0 then s
  else s.mapSessions fun _ x =>
    if x.charges user serial then { x with resourceUnits := addHold32 x.resourceUnits units } else x

/-- POST CHARGE in its access (R103, R154). The resource units grow before the posting, so that a FUNDS close at the
posting bills them (log entry 33). The hold state is the one of the row of the access (log entry 46). -/
def workPostCharge (p : PortId) (user units serial : Nat) (s : State) : State :=
  match s.account user with
  | none => refuse p .notFound s
  | some a =>
    if serial ≠ 0 ∧ !(allLines.any fun i => (s.session i).any (·.charges user serial)) then refuse p .stale s
    else if s.hold.state = .granted then
      if 8 ≤ s.deferred.countP (·.origin == .tCharge) then refuse p .retry s
      else
        let s := addResource user units serial { s with deferred := s.deferred ++ [⟨user, units, .tCharge⟩] }
        completeOk p (s.balanceWords user) s
    else
      let s := post user units (addResource user units serial s)
      complete p .ok (decide (a.balance - units < balanceMin)) (s.balanceWords user) s

/-- RESTART completes (R196): its response at the giving port, RESTARTED at both, the watch timer at the window. -/
def completeRestart (p : PortId) (closed : Nat) (s : State) : State :=
  startWatchTimer (latchT .restarted (latchA .restarted (completeOk p [w16 closed] s)))

/-- RESTART in its access and after it (R165, R27, R47, R166, R196). Pending account work is served ahead of it, that of a
close decision reached since the grant too, so that none is PENDING when the access begins (R165, log entry 45). -/
def workRestart (p : PortId) (s : State) : State :=
  let r := closeMatching .restart (fun _ => true) (serveCloseWork s)
  completeRestart p r.2 (restartLineWork r.1)

end Sys2Proof.Machine
end

