-- ==== Sys2Proof/Machine/TableAccess.lean ====
section
/-! DEFINITION. The commands with table work (Table 5-1): their argument checks before an access is asked for (R74,
R152, R154), and the access of a command unit (R94). -/

namespace Sys2Proof.Machine

/-- The command has table work and asks the arbiter for an access (Table 5-1). -/
def isTableCommand : Instr → Bool
  | .accountAdd .. | .accountSet .. | .accountDelete .. | .credit .. | .debit .. | .suspend .. | .resume ..
  | .unlock .. | .readAccount .. | .sweep .. | .closePeriod .. | .logoff .. | .shutdownSessions .. | .postCharge ..
  | .restart .. => true
  | _ => false

/-- The command is RESTART. -/
def isRestart : Instr → Bool
  | .restart _ => true
  | _ => false

/-- The arguments of a command with table work are in range (R74, R75, R78, R79, R152, R154). -/
def tableArgsOk : Instr → Bool
  | .accountAdd _ u k h l b => userOk u && (classArg k).isSome && checkOk h && limitOk l && balanceOk b
  | .accountSet _ u k h l => userOk u && (classArg k).isSome && checkOk h && limitOk l
  | .accountDelete _ u => userOk u
  | .credit _ u n => userOk u && amountOk n
  | .debit _ u n => userOk u && amountOk n
  | .suspend _ u y => userOk u && (flagArg y).isSome
  | .resume _ u => userOk u
  | .unlock _ u => userOk u
  | .readAccount _ u => userOk u
  | .sweep _ u => inRange u.toNat 0 999999
  | .logoff _ l _ => (lineArg l).isSome
  | .postCharge _ u n _ => userOk u && inRange n.toNat 1 65535
  | _ => true

/-- A command's table work, in its one access, on words already checked (R74). -/
def commandAccess (p : PortId) (c : Instr) (s : State) : State :=
  match c with
  | .accountAdd _ u k h l b =>
    match classArg k with
    | some k => workAccountAdd p u.toNat k h.toNat l.toNat b.toInt s
    | none => refuse p .badArgument s
  | .accountSet _ u k h l =>
    match classArg k with
    | some k => workAccountSet p u.toNat k h.toNat l.toNat s
    | none => refuse p .badArgument s
  | .accountDelete _ u => workAccountDelete p u.toNat s
  | .credit _ u n => workCredit p u.toNat n.toNat s
  | .debit _ u n => workDebit p u.toNat n.toNat s
  | .suspend _ u y => workSuspend p u.toNat (flagArg y == some true) s
  | .resume _ u => workResume p u.toNat s
  | .unlock _ u => workUnlock p u.toNat s
  | .readAccount _ u => workReadAccount p u.toNat s
  | .sweep _ u => workSweep p u.toNat s
  | .closePeriod _ => workClosePeriod p s
  | .logoff _ l sr =>
    match lineArg l with
    | some i => workLogoff p i sr.toNat s
    | none => refuse p .badArgument s
  | .shutdownSessions _ => workShutdown p s
  | .postCharge _ u n sr => workPostCharge p u.toNat n.toNat sr.toNat s
  | .restart _ => workRestart p s
  | _ => s

/-- Port p's command unit, granted its access, makes it and gives the table back (R92, R94). -/
def serve (p : PortId) (s : State) : State :=
  match s.waitingCommand p with
  | some c => giveBack (commandAccess p c (granted (.unit p) s))
  | none => giveBack s

/-- Port p's waiting access, if it holds the grant or is granted next; else it goes on waiting (R93, R94, R96). -/
def serveNext (p : PortId) (s : State) : State := if s.nextGrant = some (.unit p) then serve p s else s

end Sys2Proof.Machine
end

