-- ==== Sys2Proof/Machine/Start.lean ====
section
/-! DEFINITION. GO (R184, R185): the checks of a record, the start of a command, the taking of a RESTART (R194, R195,
R109), and a whole command given at a port (log entry 1). -/

namespace Sys2Proof.Machine

/-! ### Roles (R185, step 2) -/

/-- The commands of the T port only. -/
def isTOnly : Instr → Bool
  | .takeInput .. | .send .. | .readSpace .. | .writeMessage .. | .groupSet .. | .lineEnable .. | .groupEnable ..
  | .clearFault .. | .lineTest .. | .logoff .. | .shutdownSessions .. | .postCharge .. | .setWatch .. => true
  | _ => false

/-- The commands of the A port only. -/
def isAOnly : Instr → Bool
  | .accountAdd .. | .accountSet .. | .accountDelete .. | .credit .. | .debit .. | .suspend .. | .resume ..
  | .unlock .. | .sweep .. | .closePeriod .. | .holdRequest .. | .holdRelease .. | .setClock .. | .tariffWrite ..
  | .dayMapWrite .. | .classWrite .. | .peekBilling .. | .releaseBilling .. => true
  | _ => false

/-- The command may be given at port p (R185). -/
def roleOk (p : PortId) (c : Instr) : Bool :=
  match p with
  | .t => !isAOnly c
  | .a => !isTOnly c

/-! ### RESTART taken (R194, R109) -/

/-- A RESTART has been taken at port p and has not completed (R195). -/
def State.restarting (s : State) (p : PortId) : Bool := (s.waitingCommand p).any isRestart

/-- The other port's command, ended when a RESTART is taken (R194): a waiting access is withdrawn, and one in progress is
made to its end, and the table given back; a line test goes on to the line work. -/
def endOther (q : PortId) (s : State) : State :=
  match (s.port q).state, (s.port q).job with
  | .busy, some ⟨.waiting, c⟩ =>
    if s.arbiter.grant = some (.unit q) then
      giveBack (refuse q .restarted (commandAccess q c s))
    else refuse q .restarted s
  | .busy, some ⟨.started, _⟩ => refuse q .restarted s
  | _, _ => s

/-- RESTART acts on the table hold (R109). -/
def restartHold (s : State) : State :=
  match s.hold.state with
  | .none | .releasing => s
  | .requested => { s with hold := { s.hold with state := .none, limit := none } }
  | .granted => beginRelease (latchA .holdRevoked s)

/-- The port's command, in the kind of work it is doing. -/
def setJob (p : PortId) (k : JobKind) (c : Instr) (s : State) : State :=
  s.modPort p fun u => { u with state := .busy, job := some ⟨k, c⟩ }

/-- Port p's command unit asks for its access: at a free table it is granted at once if it is its turn (R92, R94). -/
def askAccess (p : PortId) (c : Instr) (s : State) : State := arbitrate (setJob p .waiting c s)

/-- A RESTART is taken (R194): the other port's command is ended, the hold is acted on, and the access is asked for. -/
def takeRestart (p : PortId) (c : Instr) (s : State) : State := askAccess p c (restartHold (endOther p.other s))

/-! ### GO -/

/-- At the T port the watch takes the command (R156, R159, R185). -/
def taken (p : PortId) (s : State) : State :=
  match p with
  | .t => takenByWatch s
  | .a => s

/-- R185 step 3: the command is started, and taken by the watch. Then R195 answers it while the other port's RESTART
is in progress, a RESTART is taken, table work asks for its access once its arguments are in range (R74), and other
work is with its owning block. -/
def startCommand (p : PortId) (c : Instr) (s : State) : State :=
  let s := taken p (setJob p .started c s)
  if s.restarting p.other then refuse p .restarted s
  else if isRestart c then takeRestart p c s
  else if isTableCommand c then
    if tableArgsOk c then askAccess p c s else refuse p .badArgument s
  else s

/-- GO by the port state (R184), with the checks of R185. -/
def goAt (p : PortId) (s : State) : State :=
  let u := s.port p
  if u.starting then s
  else
    match u.state with
    | .idle | .busy | .done => latchCollision p s
    | .building =>
      if u.overflow then refuseRecord p .badCommand s
      else
        match decodeRecord p u.record with
        | none => refuseRecord p .badCommand s
        | some c => if roleOk p c then startCommand p c s else refuseRecord p .wrongPort s

/-! ### A command given whole (log entry 1) -/

/-- The words of a record written at DATA, one by one, any unfinished record or unread response discarded first. -/
def writeRecordAt (p : PortId) (ws : List Word) (s : State) : State :=
  ws.foldl (fun s w => dataWriteAt p w s) (abortBuildAt p s)

/-- Port p is BUSY with the command, and its owning block's work or its access has not yet been made. -/
def State.carries (s : State) (p : PortId) (c : Instr) : Bool :=
  (s.port p).state == .busy && ((s.port p).job == some ⟨.started, c⟩ || (s.port p).job == some ⟨.waiting, c⟩)

/-- A command row at port p (log entry 1). A port BUSY with this command goes on to its work; a port BUSY otherwise
ignores the processor's writes and latches COLLISION (R183, R184); at any other port the processor writes the record,
gives GO, and the started command goes on to its work. While the starting mark is set nothing is taken. -/
def give (p : PortId) (c : Instr) (work : State → State) (s : State) : State :=
  if (s.port p).starting then s
  else if (s.port p).state = .busy then
    if s.carries p c then work s else latchCollision p s
  else
    let s := goAt p (writeRecordAt p (encodeRecord c) s)
    if s.carries p c then work s else s

end Sys2Proof.Machine
end

