-- ==== Sys2Proof/Machine/AccountCommands.lean ====
section
/-! DEFINITION. Account commands (section 4.3). Each asks the arbiter for one access, in which its table work is made;
the row waits while the arbiter does not grant its port next (R93, R94, R96). -/

namespace Sys2Proof.Machine

open Host (Outcome)

/-- ACCOUNT_ADD (R74, R75). -/
def execAccountAdd (p : PortId) (user : DWord) (cls : Word) (check : DWord) (limit : Word) (balance : DWord) (s : State) :
    Outcome State Fault Refusal :=
  .next (whenPowered s (give p (.accountAdd p user cls check limit balance) (serveNext p)))

/-- ACCOUNT_SET (R74, R76). -/
def execAccountSet (p : PortId) (user : DWord) (cls : Word) (check : DWord) (limit : Word) (s : State) :
    Outcome State Fault Refusal :=
  .next (whenPowered s (give p (.accountSet p user cls check limit) (serveNext p)))

/-- ACCOUNT_DELETE (R74, R77). -/
def execAccountDelete (p : PortId) (user : DWord) (s : State) :
    Outcome State Fault Refusal :=
  .next (whenPowered s (give p (.accountDelete p user) (serveNext p)))

/-- CREDIT (R74, R78). -/
def execCredit (p : PortId) (user amount : DWord) (s : State) :
    Outcome State Fault Refusal :=
  .next (whenPowered s (give p (.credit p user amount) (serveNext p)))

/-- DEBIT (R74, R79). -/
def execDebit (p : PortId) (user amount : DWord) (s : State) :
    Outcome State Fault Refusal :=
  .next (whenPowered s (give p (.debit p user amount) (serveNext p)))

/-- SUSPEND (R74, R80). -/
def execSuspend (p : PortId) (user : DWord) (logout : Word) (s : State) :
    Outcome State Fault Refusal :=
  .next (whenPowered s (give p (.suspend p user logout) (serveNext p)))

/-- RESUME (R74, R81). -/
def execResume (p : PortId) (user : DWord) (s : State) :
    Outcome State Fault Refusal :=
  .next (whenPowered s (give p (.resume p user) (serveNext p)))

/-- UNLOCK (R74, R82). -/
def execUnlock (p : PortId) (user : DWord) (s : State) :
    Outcome State Fault Refusal :=
  .next (whenPowered s (give p (.unlock p user) (serveNext p)))

/-- READ_ACCOUNT (R74, R83). -/
def execReadAccount (p : PortId) (user : DWord) (s : State) :
    Outcome State Fault Refusal :=
  .next (whenPowered s (give p (.readAccount p user) (serveNext p)))

/-- SWEEP (R74, R84). -/
def execSweep (p : PortId) (after : DWord) (s : State) :
    Outcome State Fault Refusal :=
  .next (whenPowered s (give p (.sweep p after) (serveNext p)))

/-- CLOSE_PERIOD (R74, R85). -/
def execClosePeriod (p : PortId) (s : State) :
    Outcome State Fault Refusal :=
  .next (whenPowered s (give p (.closePeriod p) (serveNext p)))

end Sys2Proof.Machine
end

