-- ==== Sys2Proof/Machine/BillingCommands.lean ====
section
/-! DEFINITION. Billing commands (section 9.5): PEEK_BILLING, RELEASE_BILLING. -/

namespace Sys2Proof.Machine

open Host (Outcome)

/-- PEEK BILLING's work (R176): EMPTY still gives the three counts. -/
def workPeekBilling (p : PortId) (s : State) : State :=
  match s.billing.records with
  | r :: _ => completeOk p (billingCounts s ++ r.words) s
  | [] => complete p .empty false (billingCounts s) s

/-- PEEK_BILLING (R176). -/
def execPeekBilling (p : PortId) (s : State) : Outcome State Fault Refusal :=
  .next (whenPowered s (give p (.peekBilling p) (workPeekBilling p)))

/-- RELEASE BILLING's work (R177): SEQUENCE gives the oldest record's sequence. -/
def workReleaseBilling (p : PortId) (sequence : Word) (s : State) : State :=
  if inRange sequence.toNat 1 65535 then
    match s.billing.records with
    | [] => refuse p .empty s
    | r :: rest =>
      if r.sequence = sequence.toNat then
        completeOk p [w16 rest.length] (rejudge { s with billing := { s.billing with records := rest } })
      else complete p .sequence false [w16 r.sequence] s
  else refuse p .badArgument s

/-- RELEASE_BILLING (R177). -/
def execReleaseBilling (p : PortId) (sequence : Word) (s : State) : Outcome State Fault Refusal :=
  .next (whenPowered s (give p (.releaseBilling p sequence) (workReleaseBilling p sequence)))

end Sys2Proof.Machine
end

