-- ==== Sys2Proof/Machine/ClockCommands.lean ====
section
/-! DEFINITION. Clock, tariff and class commands (chapter 6): SET_CLOCK, READ_CLOCK, TARIFF_WRITE, DAY_MAP_WRITE,
CLASS_WRITE. -/

namespace Sys2Proof.Machine

open Host (Outcome)

/-- The calendar value that SET CLOCK's arguments give; the weekday stands in bits 2 to 0 of its word (section 11.2,
log entry 17). -/
def calendarOf (year month day hour minute second : Byte) (weekday : Word) : Calendar :=
  { year := year.toNat, month := month.toNat, day := day.toNat, hour := hour.toNat, minute := minute.toNat
    second := second.toNat, weekday := weekday.toNat % 8 }

/-- The clock is loaded: CLOCK_INVALID clears, open sessions carry CLOCK_SET, and the lines re-judge their readiness
(R115, R116). -/
def loadClock (v : Calendar) (s : State) : State :=
  rejudge
    ({ s with clock := v, clockInvalid := false }.mapSessions fun _ x =>
      if x.state.isOpen then { x with clockSet := true } else x)

/-- SET CLOCK's work (R116). -/
def workSetClock (p : PortId) (v : Calendar) (s : State) : State :=
  if v.valid then completeOk p [] (loadClock v s) else refuse p .badArgument s

/-- SET_CLOCK (R116, R117). -/
def execSetClock (p : PortId) (year month day hour minute second : Byte) (weekday : Word) (s : State) :
    Outcome State Fault Refusal :=
  .next (whenPowered s
    (give p (.setClock p year month day hour minute second weekday)
      (workSetClock p (calendarOf year month day hour minute second weekday))))

/-- READ CLOCK's work (R118). -/
def workReadClock (p : PortId) (s : State) : State := completeOk p (clockWords s) s

/-- READ_CLOCK (R118). -/
def execReadClock (p : PortId) (s : State) : Outcome State Fault Refusal :=
  .next (whenPowered s (give p (.readClock p) (workReadClock p)))

/-- The tariff staging area set to schedule none with no bands (R119, R121, R122). -/
def clearTariffStaging (s : State) : State :=
  { s with tariff := { s.tariff with stagingSchedule := none, stagedBands := [] } }

/-- The start minutes rise strictly (R119, R122). -/
def risingBands : List Band → Bool
  | a :: b :: rest => decide (a.start < b.start) && risingBands (b :: rest)
  | _ => true

/-- A staged list that may be installed (R122). -/
def validBands (bands : List Band) : Bool :=
  inRange bands.length 1 8 && bands.head?.any (·.start == 0) && risingBands bands

/-- A TARIFF WRITE whose bands are accepted into the staged list (R121), and its install if it is final (R122, R125). -/
def acceptBands (p : PortId) (sc : Schedule) (final : Bool) (bands : List Band) (s : State) : State :=
  if !final then
    completeOk p [] { s with tariff := { s.tariff with stagingSchedule := some sc, stagedBands := bands } }
  else if validBands bands then
    completeOk p [] (clearTariffStaging (takeInstall (.schedule sc bands) s))
  else refuse p .badArgument (clearTariffStaging s)

/-- TARIFF WRITE's work (R121, R122). -/
def workTariffWrite (p : PortId) (schedule first final count : Word) (words : List Word) (s : State) : State :=
  match scheduleArg schedule, flagArg final with
  | some sc, some fin =>
    let bands := bandsOf words
    if first.toNat ≤ 7 ∧ count.toNat ≤ 3 ∧ first.toNat + count.toNat ≤ 8 ∧
        bands.all (fun b => decide (b.start ≤ 1439)) then
      if first.toNat = 0 then acceptBands p sc fin bands s
      else if s.tariff.stagingSchedule = some sc ∧ first.toNat = s.tariff.stagedBands.length then
        acceptBands p sc fin (s.tariff.stagedBands ++ bands) s
      else refuse p .badArgument (clearTariffStaging s)
    else refuse p .badArgument s
  | _, _ => refuse p .badArgument s

/-- TARIFF_WRITE (R121, R122). -/
def execTariffWrite (p : PortId) (schedule first final count : Word) (words : List Word) (s : State) :
    Outcome State Fault Refusal :=
  .next (whenPowered s
    (give p (.tariffWrite p schedule first final count words) (workTariffWrite p schedule first final count words)))

/-- The day map that seven selections give (R123). -/
def dayMapOf (d1 d2 d3 d4 d5 d6 d7 : Word) : Option (Bank Schedule 7) :=
  match scheduleArg d1, scheduleArg d2, scheduleArg d3, scheduleArg d4, scheduleArg d5, scheduleArg d6,
    scheduleArg d7 with
  | some m1, some m2, some m3, some m4, some m5, some m6, some m7 => some ⟨[m1, m2, m3, m4, m5, m6, m7], rfl⟩
  | _, _, _, _, _, _, _ => none

/-- DAY MAP WRITE's work (R123, R125). -/
def workDayMapWrite (p : PortId) (d1 d2 d3 d4 d5 d6 d7 : Word) (s : State) : State :=
  match dayMapOf d1 d2 d3 d4 d5 d6 d7 with
  | some m => completeOk p [] (takeInstall (.dayMap m) s)
  | none => refuse p .badArgument s

/-- DAY_MAP_WRITE (R123). -/
def execDayMapWrite (p : PortId) (d1 d2 d3 d4 d5 d6 d7 : Word) (s : State) : Outcome State Fault Refusal :=
  .next (whenPowered s (give p (.dayMapWrite p d1 d2 d3 d4 d5 d6 d7) (workDayMapWrite p d1 d2 d3 d4 d5 d6 d7)))

/-- The class record that CLASS WRITE's arguments give, if each is in its range of Table 4-3 (R124). -/
def classOf (setup floor warn grace idleWarn idleLimit rounding failLimit lockout : Word) : Option ClassRec :=
  match roundingArg rounding with
  | none => none
  | some r =>
    if inRange setup.toNat 0 255 && inRange grace.toNat 0 600 && inRange idleWarn.toNat 0 60 &&
        inRange idleLimit.toNat 0 120 && inRange failLimit.toNat 1 15 && inRange lockout.toNat 1 1440 then
      some
        { setup := setup.toNat, floor := floor.toNat, warn := warn.toNat, grace := grace.toNat
          idleWarn := idleWarn.toNat, idleLimit := idleLimit.toNat, rounding := r
          failLimit := failLimit.toNat, lockout := lockout.toNat }
    else none

/-- CLASS WRITE's work (R73, R124, R125). -/
def workClassWrite (p : PortId) (cls : Word) (record : Option ClassRec) (s : State) : State :=
  match classArg cls, record with
  | some c, some r => completeOk p [] (takeInstall (.classRecord c r) s)
  | _, _ => refuse p .badArgument s

/-- CLASS_WRITE (R124). -/
def execClassWrite (p : PortId) (cls setup floor warn grace idleWarn idleLimit rounding failLimit lockout : Word)
    (s : State) : Outcome State Fault Refusal :=
  .next (whenPowered s
    (give p (.classWrite p cls setup floor warn grace idleWarn idleLimit rounding failLimit lockout)
      (workClassWrite p cls (classOf setup floor warn grace idleWarn idleLimit rounding failLimit lockout))))

end Sys2Proof.Machine
end

