-- ==== Sys2Proof/Machine/HoldCommands.lean ====
section
/-! DEFINITION. Hold commands (chapter 5): HOLD_REQUEST, HOLD_RELEASE, HOLD_STATUS. -/

namespace Sys2Proof.Machine

open Host (Outcome)

/-- HOLD REQUEST's work (R98); the checker withdraws a request not yet granted (R57). -/
def workHoldRequest (p : PortId) (limit : Word) (s : State) : State :=
  if inRange limit.toNat 1 65535 then
    if s.hold.state = .none then
      completeOk p [] { s with
        hold := { s.hold with state := .requested, limit := some limit.toNat }
        arbiter := { s.arbiter with checkerAsked := false } }
    else refuse p .holdBusy s
  else refuse p .badArgument s

/-- HOLD_REQUEST (R98). -/
def execHoldRequest (p : PortId) (limit : Word) (s : State) : Outcome State Fault Refusal :=
  .next (whenPowered s (give p (.holdRequest p limit) (workHoldRequest p limit)))

/-- HOLD RELEASE's work (R105). R106 does not say what it does when the hold limit has passed during a T access that has
not ended: the hold is still GRANTED, so the command completes with OK and stops the timer, and HOLD_REVOKED is not
latched, as where the HOLD RELEASE is taken first (DESIGN CHOICE, log entry 48). -/
def workHoldRelease (p : PortId) (s : State) : State :=
  if s.hold.state = .granted then completeOk p [] (beginRelease s) else refuse p .noHold s

/-- HOLD_RELEASE (R105). -/
def execHoldRelease (p : PortId) (s : State) : Outcome State Fault Refusal :=
  .next (whenPowered s (give p (.holdRelease p) (workHoldRelease p)))

/-- HOLD STATUS's work (R110). -/
def workHoldStatus (p : PortId) (s : State) : State := completeOk p (holdWords s) s

/-- HOLD_STATUS (R110). -/
def execHoldStatus (p : PortId) (s : State) : Outcome State Fault Refusal :=
  .next (whenPowered s (give p (.holdStatus p) (workHoldStatus p)))

end Sys2Proof.Machine
end

