-- ==== Sys2Proof/Machine/LineEvents.lean ====
section
/-! DEFINITION. The events of a line (chapters 1, 2 and 3), VERDICT, and SCAN. An event row whose condition does not
hold leaves the state as it is (log entry 3). -/

namespace Sys2Proof.Machine

open Host (Outcome)

/-! ### The scan's reports (R9, R13, R14, R21, R22) -/

/-- A qualified ring is acted on in IDLE and RINGING and ignored elsewhere (R9). -/
def qualifiedRingOn (i : LineId) (s : State) : State :=
  if (s.line i).reports.ring then
    let s := takeReport i (fun r => { r with ring := false }) s
    match (s.line i).state with
    | .idle | .ringing => ringOn i s
    | _ => s
  else s

/-- QUALIFIED_RING (R9 to R12). -/
def execQualifiedRing (i : LineId) (s : State) : Outcome State Fault Refusal :=
  .next (whenPowered s (qualifiedRingOn i))

/-- The caller has given up: the line returns to IDLE (R11). -/
def ringGapOver (i : LineId) (s : State) : State :=
  if (s.line i).state = .ringing ∧ (s.line i).ringGap.expired then
    s.modLine i fun l => { l with state := .idle, ringGap := none, ringCount := 0 }
  else s

/-- RING_GAP_EXPIRY (R11). -/
def execRingGapExpiry (i : LineId) (s : State) : Outcome State Fault Refusal :=
  .next (whenPowered s (ringGapOver i))

/-- Entry to SPEED: the speed wait of 30 s starts (R13). -/
def LineRec.toSpeed (l : LineRec) : LineRec :=
  { l with state := .speed, phaseTimer := Timer.seconds 30, speedAttempts := 0, lossCounter := 0, markWait := false }

/-- The first scan with carrier present in ANSWERING (R13). -/
def carrierPresentOn (i : LineId) (s : State) : State :=
  if (s.line i).reports.present then
    let s := takeReport i (fun r => { r with present := false }) s
    if (s.line i).state = .answering then s.modLine i LineRec.toSpeed else s
  else s

/-- CARRIER_PRESENT (R13). -/
def execCarrierPresent (i : LineId) (s : State) : Outcome State Fault Refusal :=
  .next (whenPowered s (carrierPresentOn i))

/-- The phase timer's expiry in a line state takes the line to HANGUP (R13, R17). -/
def phaseOver (st : LineState) (i : LineId) (s : State) : State :=
  if (s.line i).state = st ∧ (s.line i).phaseTimer.expired then hangup i s else s

/-- CARRIER_WAIT_EXPIRY (R13). -/
def execCarrierWaitExpiry (i : LineId) (s : State) : Outcome State Fault Refusal :=
  .next (whenPowered s (phaseOver .answering i))

/-- A carrier loss that the scan reported (R14). -/
def carrierLossOn (i : LineId) (s : State) : State :=
  if (s.line i).reports.loss then loseCarrier i (takeReport i (fun r => { r with loss := false }) s) else s

/-- CARRIER_LOSS (R14). -/
def execCarrierLoss (i : LineId) (s : State) : Outcome State Fault Refusal :=
  .next (whenPowered s (carrierLossOn i))

/-- A stuck carrier that the scan reported, in IDLE or BUSIED (R21). -/
def stuckCarrierOn (i : LineId) (s : State) : State :=
  if (s.line i).reports.stuckCarrier then
    let s := takeReport i (fun r => { r with stuckCarrier := false }) s
    if (s.line i).state.watchesCarrierRun then enterFaulted i .stuckCarrier s else s
  else s

/-- STUCK_CARRIER (R21, R23). -/
def execStuckCarrier (i : LineId) (s : State) : Outcome State Fault Refusal :=
  .next (whenPowered s (stuckCarrierOn i))

/-- A stuck ring that the scan reported, in IDLE, BUSIED or RINGING (R22). -/
def ringStuckOn (i : LineId) (s : State) : State :=
  if (s.line i).reports.stuckRing then
    let s := takeReport i (fun r => { r with stuckRing := false }) s
    if (s.line i).state.watchesRingRun then enterFaulted i .ringStuck s else s
  else s

/-- RING_STUCK (R22, R23). -/
def execRingStuck (i : LineId) (s : State) : Outcome State Fault Refusal :=
  .next (whenPowered s (ringStuckOn i))

/-! ### Speed detection (R15 to R17) -/

/-- A measurement completes in SPEED, once the receiver has seen mark (R15). -/
def speedMeasuredOn (i : LineId) (ticks : Nat) (s : State) : State :=
  if (s.line i).state = .speed ∧ !(s.line i).markWait then measured i ticks s else s

/-- SPEED_MEASUREMENT (R15 to R17). -/
def execSpeedMeasurement (i : LineId) (ticks : Nat) (s : State) : Outcome State Fault Refusal :=
  .next (whenPowered s (speedMeasuredOn i ticks))

/-- 100 ms of continuous mark have been seen: the receiver takes the received data again (R15, R17). -/
def markSeen (i : LineId) (s : State) : State := s.modLine i fun l => { l with markWait := false }

/-- SPEED_MARK_WAIT_END (R15, R17). -/
def execSpeedMarkWaitEnd (i : LineId) (s : State) : Outcome State Fault Refusal :=
  .next (whenPowered s (markSeen i))

/-- SPEED_WAIT_EXPIRY (R17). -/
def execSpeedWaitExpiry (i : LineId) (s : State) : Outcome State Fault Refusal :=
  .next (whenPowered s (phaseOver .speed i))

/-! ### Hang-up and line test -/

/-- The guard's expiry in HANGUP (R20). -/
def guardOver (i : LineId) (s : State) : State :=
  if (s.line i).state = .hangup ∧ (s.line i).phaseTimer.expired then
    goRest i (s.modLine i fun l => { l with phaseTimer := none })
  else s

/-- HANGUP_GUARD_EXPIRY (R20). -/
def execHangupGuardExpiry (i : LineId) (s : State) : Outcome State Fault Refusal :=
  .next (whenPowered s (guardOver i))

/-- The looped copy of the last character has been judged (R25), also while the other port's RESTART waits for its line
work (R194, log entry 40). -/
def lineTestEnded (i : LineId) (s : State) : State := if s.testOver i then endTest i s else s

/-- LINE_TEST_END (R25). -/
def execLineTestEnd (i : LineId) (s : State) : Outcome State Fault Refusal :=
  .next (whenPowered s (lineTestEnded i))

/-! ### Characters (R24, R32 to R34, R42, R51) -/

/-- A framed character by the line state and the session state (R32); a space stop bit is a framing error. -/
def receive (i : LineId) (data : Byte) (framing : Bool) (s : State) : State :=
  match (s.line i).state with
  | .signOn => if (s.line i).markWait then s else signOnChar i data framing s
  | .session =>
    match (s.session i).map Session.state with
    | some .metered | some .grace => offerChar i data framing (idleEvent i s)
    | some .held => setOverrun i s
    | _ => s
  | .test => s.modLine i fun l => { l with test := l.test.map (judgeLooped data framing) }
  | _ => s

/-- CHARACTER_RECEIVED (R32 to R34, R51, R24). -/
def execCharacterReceived (i : LineId) (data : Byte) (stopMark : Bool) (s : State) :
    Outcome State Fault Refusal :=
  .next (whenPowered s (receive i data (!stopMark)))

/-- A break by the line state and the session state (R32, R33, R34). -/
def receiveBreak (i : LineId) (s : State) : State :=
  if (s.line i).state = .session then
    match (s.session i).map Session.state with
    | some .metered | some .grace => offerBreak i (idleEvent i s)
    | some .held => setOverrun i s
    | _ => s
  else s

/-- BREAK (R32, R33). -/
def execBreakReceived (i : LineId) (s : State) : Outcome State Fault Refusal :=
  .next (whenPowered s (receiveBreak i))

/-- A character in progress ends, and the transmitter chooses its next source (R42). -/
def characterEnded (i : LineId) (s : State) : State :=
  if (s.line i).txChar.isSome then choose i (s.modLine i fun l => { l with txChar := none }) else s

/-- CHARACTER_SENT (R42). -/
def execCharacterSent (i : LineId) (s : State) : Outcome State Fault Refusal :=
  .next (whenPowered s (characterEnded i))

/-! ### Sign-on (R49, R60) -/

/-- The sign-on timer's expiry ends the call, whatever the phase (R49). -/
def signOnOver (i : LineId) (s : State) : State :=
  if (s.line i).state = .signOn ∧ (s.line i).signOn.any (·.timer == 0) then hangup i s else s

/-- SIGN_ON_TIMER_EXPIRY (R49). -/
def execSignOnTimerExpiry (i : LineId) (s : State) : Outcome State Fault Refusal :=
  .next (whenPowered s (signOnOver i))

/-- The checker holds the grant, or is granted next: it makes one verdict and gives the table back (R57, R60). -/
def verdictGranted (s : State) : State :=
  if s.nextGrant = some .checker then giveBack (verdictAccess (granted .checker s)) else s

/-- VERDICT (R57 to R67). -/
def execVerdict (s : State) : Outcome State Fault Refusal := .next (whenPowered s verdictGranted)

/-! ### Scan -/

/-- SCAN (R9, R14, R21, R22). -/
def execScan (ring carrier : BitVec 32) (s : State) : Outcome State Fault Refusal :=
  .next (whenPowered s (scanAll ring carrier))

end Sys2Proof.Machine
end

