-- ==== Sys2Proof/Machine/MeteringEvents.lean ====
section
/-! DEFINITION. Clock and metering events (chapters 6 and 7): CLOCK_ADVANCE, REMEMBERED_TICK_PASS,
METERING_PASS_ACCESS, GRACE_TIMER_EXPIRY, IDLE_LIMIT, IDLE_WARN_THRESHOLD, CLOSE_ACCOUNT_WORK. -/

namespace Sys2Proof.Machine

open Host (Outcome)

/-- The pass goes on past the lines it need not charge, a remembered tick follows its end, and a release that waited
for the pass ends (R108, R129, R130). -/
def passOn (s : State) : State := settleRelease (goOn s)

/-- One advance of the clock (R112), whether main power is on or off (R111). -/
def advanceClock (s : State) : State := { s with clock := s.clock.advance }

/-- The advance and its tick (R113): with main power off, or before the recovery sweep has ended, it gives none. -/
def clockTick (s : State) : State :=
  if s.mainPower && !s.tPort.starting then takeTick (advanceClock (passOn s)) else advanceClock s

/-- CLOCK_ADVANCE (R112, R113, R129, R135). -/
def execClockAdvance (s : State) : Outcome State Fault Refusal := .next (clockTick s)

/-- REMEMBERED_TICK_PASS (R129). -/
def execRememberedTickPass (s : State) : Outcome State Fault Refusal := .next (whenPowered s passOn)

/-- The arbiter's next grant is the engine's, and the engine has neither the access of R134 nor close work before
its pass (R93, R95, R134). -/
def State.grantsPass (s : State) : Bool :=
  s.nextGrant == some .engine && !s.engine.dueAsked && s.engine.closeWork.isEmpty

/-- The line the pass in progress is to visit next. -/
def Pass.line (p : Pass) : Option LineId := if h : p.next < 32 then some ⟨p.next, h⟩ else none

/-- The pass has made its access for a line: the table is given back, with a hold limit that has passed (R106), the pass
goes on (R130), and a client that waits is granted its one access (R93). The access is whole in its row, so no install
was taken during it. -/
def afterAccess (s : State) : State :=
  arbitrate (passOn (limitOver { s with
    engine := { s.engine with pass := s.engine.pass.map fun p => { p with next := p.next + 1 } }
    arbiter := { s.arbiter with grant := none, passAsked := false } }))

/-- The engine's next access of the pass in progress: the state after it, and the line it charged with what the access
came to. Lines that need no access are passed over first (R130). -/
def passStep (s : State) : State × Option (LineId × PassNote) :=
  let s := passOn s
  match s.engine.pass with
  | none => (s, none)
  | some p =>
    match p.line with
    | none => (s, none)
    | some i =>
      if s.grantsPass then
        let r := passAccess i p.tick s
        (afterAccess r.1, some (i, r.2))
      else (s, none)

/-- METERING_PASS_ACCESS (R130 to R133). -/
def execMeteringPassAccess (s : State) : Outcome State Fault Refusal :=
  .next (whenPowered s fun s => (passStep s).1)

/-- The pass's access for line i, where it comes to the event `hit` picks (log entry 26). -/
def passStepOn (i : LineId) (hit : PassNote → Bool) (s : State) : State :=
  match (passStep s).2 with
  | some (j, note) => if j = i ∧ hit note then (passStep s).1 else s
  | none => s

/-- GRACE_TIMER_EXPIRY (R137): the pass's access that counts the grace of line i down to 0. -/
def execGraceTimerExpiry (i : LineId) (s : State) : Outcome State Fault Refusal :=
  .next (whenPowered s (passStepOn i (·.graceEnded)))

/-- IDLE_LIMIT (R136): the pass's access that finds line i at its idle limit. -/
def execIdleLimit (i : LineId) (s : State) : Outcome State Fault Refusal :=
  .next (whenPowered s (passStepOn i (·.idleClosed)))

/-- IDLE_WARN_THRESHOLD (R136): the pass's access that warns line i. -/
def execIdleWarnThreshold (i : LineId) (s : State) : Outcome State Fault Refusal :=
  .next (whenPowered s (passStepOn i (·.idleWarned)))

/-- The engine's close work is granted next (R95, R146), and the table is given back after it. The access leaves the
pass's own request as it stood: a client of the rotation that waited for the gap after an access of the pass still has
it after the close work (DESIGN CHOICE, log entry 43). -/
def closeWorkGranted (s : State) : State :=
  if s.nextGrant = some .engine ∧ !s.engine.dueAsked ∧ s.engine.closeWork ≠ [] then giveBack (closeWorkAccess s) else s

/-- CLOSE_ACCOUNT_WORK (R95, R146). -/
def execCloseAccountWork (s : State) : Outcome State Fault Refusal := .next (whenPowered s closeWorkGranted)

end Sys2Proof.Machine
end

