-- ==== Sys2Proof/Machine/HoldEvents.lean ====
section
/-! DEFINITION. Hold events (chapter 5): HOLD_GRANT, HOLD_LIMIT_EXPIRY, RELEASE_POSTING, SECONDS_DUE_ACCESS. -/

namespace Sys2Proof.Machine

open Host (Outcome)

/-- The conditions of the grant (R99): REQUESTED, no access and no pass in progress, no request of the engine. -/
def State.mayGrantHold (s : State) : Bool :=
  s.hold.state == .requested && s.arbiter.grant.isNone && s.engine.pass.isNone && !s.engineAsks

/-- The hold is granted, and a waiting A-port request is granted first (R96, R99). -/
def grantHold (s : State) : State :=
  arbitrate (latchA .holdGranted { s with
    hold := { s.hold with state := .granted, timer := Timer.seconds (s.hold.limit.getD 0) } })

/-- The grant of the hold, once a pass with nothing left to charge has come to its end (R99, R130). -/
def holdGrantOn (s : State) : State :=
  let t := passOn s
  if t.mayGrantHold then grantHold t else s

/-- HOLD_GRANT (R99). -/
def execHoldGrant (s : State) : Outcome State Fault Refusal := .next (whenPowered s holdGrantOn)

/-- The expiry of the hold limit while no access is in progress; during one it acts at the end of the access (R106). -/
def holdLimitOver (s : State) : State := if s.arbiter.grant = none then limitOver s else s

/-- HOLD_LIMIT_EXPIRY (R106). -/
def execHoldLimitExpiry (s : State) : Outcome State Fault Refusal := .next (whenPowered s holdLimitOver)

/-- The engine makes its next posting of a release (R107): RELEASING, no pass begun in GRANTED in progress, and no close
work waiting, whose CLOSE entry goes ahead of the next posting (section 5.5, log entry 19). -/
def State.mayPostRelease (s : State) : Bool :=
  s.hold.state == .releasing && s.arbiter.grant.isNone && s.engine.pass.isNone && s.engine.closeWork.isEmpty

/-- One posting of the release, once a pass begun in GRANTED has ended and no close work waits (R107, R108). -/
def releasePostingOn (s : State) : State :=
  let t := passOn s
  if t.mayPostRelease then settleRelease (releaseStep t) else t

/-- RELEASE_POSTING (R107, R108). -/
def execReleasePosting (s : State) : Outcome State Fault Refusal := .next (whenPowered s releasePostingOn)

/-- The access of R134, ahead of every other client; a tick held through the release starts its pass after it. -/
def secondsDueOn (s : State) : State :=
  if s.engine.dueAsked ∧ s.arbiter.grant = none then arbitrate (startRemembered (payDue s)) else s

/-- SECONDS_DUE_ACCESS (R134). -/
def execSecondsDueAccess (s : State) : Outcome State Fault Refusal := .next (whenPowered s secondsDueOn)

end Sys2Proof.Machine
end

