-- ==== Sys2Proof/Machine/LineCommands.lean ====
section
/-! DEFINITION. Line and group commands (chapter 1): GROUP_SET, LINE_ENABLE, GROUP_ENABLE, CLEAR_FAULT, LINE_TEST,
READ_LINE. -/

namespace Sys2Proof.Machine

open Host (Outcome)

/-- The seven settings of GROUP SET are in the ranges of Table 1-3 (R3); bits 15 to 8 of the speed set are 0. -/
def groupSettingsOk (rc cw sl lc ss rf ie : Word) : Bool :=
  inRange rc.toNat 1 7 && inRange cw.toNat 5 60 && inRange sl.toNat 10 255 && inRange lc.toNat 1 31 &&
    inRange ss.toNat 1 255 && inRange rf.toNat 4 16 && (flagArg ie).isSome

/-- A group setting record with the seven settings replaced and its group enable kept (R3). -/
def GroupRec.settings (r : GroupRec) (rc cw sl lc ss rf ie : Word) : GroupRec :=
  { ringCount := rc.toNat, carrierWait := cw.toNat, signOnLimit := sl.toNat, lossCount := lc.toNat
    speedSet := loByte ss, rateFactor := rf.toNat, idleTx := flagArg ie == some true, enable := r.enable }

/-- GROUP SET's work (R3). -/
def workGroupSet (p : PortId) (g rc cw sl lc ss rf ie : Word) (s : State) : State :=
  match groupArg g with
  | some g =>
    if groupSettingsOk rc cw sl lc ss rf ie then
      completeOk p [] { s with groups := s.groups.set g ((s.group g).settings rc cw sl lc ss rf ie) }
    else refuse p .badArgument s
  | none => refuse p .badArgument s

/-- GROUP_SET (R3, R4). -/
def execGroupSet (p : PortId) (g rc cw sl lc ss rf ie : Word) (s : State) : Outcome State Fault Refusal :=
  .next (whenPowered s (give p (.groupSet p g rc cw sl lc ss rf ie) (workGroupSet p g rc cw sl lc ss rf ie)))

/-- LINE ENABLE's work (R5, R7, R8). -/
def workLineEnable (p : PortId) (line on : Word) (s : State) : State :=
  match lineArg line, flagArg on with
  | some i, some b => completeOk p [] (actOnEnables s (s.modLine i fun l => { l with enable := b }))
  | _, _ => refuse p .badArgument s

/-- LINE_ENABLE (R5). -/
def execLineEnable (p : PortId) (line on : Word) (s : State) : Outcome State Fault Refusal :=
  .next (whenPowered s (give p (.lineEnable p line on) (workLineEnable p line on)))

/-- GROUP ENABLE's work (R5, R7, R8). -/
def workGroupEnable (p : PortId) (group on : Word) (s : State) : State :=
  match groupArg group, flagArg on with
  | some g, some b =>
    completeOk p [] (actOnEnables s { s with groups := s.groups.set g { s.group g with enable := b } })
  | _, _ => refuse p .badArgument s

/-- GROUP_ENABLE (R5). -/
def execGroupEnable (p : PortId) (group on : Word) (s : State) : Outcome State Fault Refusal :=
  .next (whenPowered s (give p (.groupEnable p group on) (workGroupEnable p group on)))

/-- CLEAR FAULT's work (R23). -/
def workClearFault (p : PortId) (line : Word) (s : State) : State :=
  match lineArg line with
  | some i =>
    if (s.line i).state = .faulted then completeOk p [] (clearFaultOn i s) else refuse p .lineState s
  | none => refuse p .badArgument s

/-- CLEAR_FAULT (R23). -/
def execClearFault (p : PortId) (line : Word) (s : State) : Outcome State Fault Refusal :=
  .next (whenPowered s (give p (.clearFault p line) (workClearFault p line)))

/-- LINE TEST's work (R24, R25): the test begins, and ends at once if slot 14 is empty. -/
def workLineTest (p : PortId) (line speed : Word) (s : State) : State :=
  match lineArg line, speedArg speed with
  | some i, some sp =>
    if (s.line i).state.acceptsTest then
      let s := enterTest i sp (setJob p .testing (.lineTest p line speed) s)
      if s.testOver i then endTest i s else s
    else refuse p .lineState s
  | _, _ => refuse p .badArgument s

/-- LINE_TEST (R24, R25). -/
def execLineTest (p : PortId) (line speed : Word) (s : State) : Outcome State Fault Refusal :=
  .next (whenPowered s (give p (.lineTest p line speed) (workLineTest p line speed)))

/-- READ LINE's work (R26). -/
def workReadLine (p : PortId) (line : Word) (s : State) : State :=
  match lineArg line with
  | some i => completeOk p (lineWords s i) s
  | none => refuse p .badArgument s

/-- READ_LINE (R26). -/
def execReadLine (p : PortId) (line : Word) (s : State) : Outcome State Fault Refusal :=
  .next (whenPowered s (give p (.readLine p line) (workReadLine p line)))

end Sys2Proof.Machine
end

