-- ==== Sys2Proof/Machine/PortRows.lean ====
section
/-! DEFINITION. The rows of the port bus (chapter 10): DATA_WRITE, DATA_READ, GO, ABORT_BUILD, REREAD,
CONTROL_WRITE_NO_REQUEST, ATTENTION_WRITE, MASK_WRITE, and COMMAND_TABLE_ACCESS (R94). -/

namespace Sys2Proof.Machine

open Host (Outcome)

/-- DATA_WRITE (R183). -/
def execDataWrite (p : PortId) (w : Word) (s : State) : Outcome State Fault Refusal :=
  .next (whenPowered s (dataWriteAt p w))

/-- DATA_READ (R187). -/
def execDataRead (p : PortId) (s : State) : Outcome State Fault Refusal :=
  .next (whenPowered s (dataReadAt p))

/-- What a write at CONTROL does by its request, and by the port state (R184). -/
def requestAt (p : PortId) : Option ControlRequest → State → State
  | some .go => goAt p
  | some .abortBuild => abortBuildAt p
  | some .reread => rereadAt p
  | none => noRequestAt p

/-- A write of a word at CONTROL (R184, R198, Table 11-3). -/
def controlWriteAt (p : PortId) (w : Word) (s : State) : State := requestAt p (controlRequest w) s

/-- GO (R184, R185): the write of 5A01h at CONTROL. -/
def execGo (p : PortId) (s : State) : Outcome State Fault Refusal :=
  .next (whenPowered s (requestAt p (some .go)))

/-- ABORT_BUILD (R184): the write of 5A02h at CONTROL. -/
def execAbortBuild (p : PortId) (s : State) : Outcome State Fault Refusal :=
  .next (whenPowered s (requestAt p (some .abortBuild)))

/-- REREAD (R184): the write of 5A03h at CONTROL. -/
def execReread (p : PortId) (s : State) : Outcome State Fault Refusal :=
  .next (whenPowered s (requestAt p (some .reread)))

/-- CONTROL_WRITE_NO_REQUEST (R184, R198): a write of word w at CONTROL. A word that is no request latches COLLISION; one
of the three values of Table 11-3, which no well-formed row carries, is that request. -/
def execControlWriteNoRequest (p : PortId) (w : Word) (s : State) : Outcome State Fault Refusal :=
  .next (whenPowered s (controlWriteAt p w))

/-- ATTENTION_WRITE (R190, R191). -/
def execAttentionWrite (p : PortId) (w : Word) (s : State) : Outcome State Fault Refusal :=
  .next (whenPowered s (attentionWrite p w))

/-- MASK_WRITE (R190, R198). -/
def execMaskWrite (p : PortId) (w : Word) (s : State) : Outcome State Fault Refusal :=
  .next (whenPowered s (maskWrite p w))

/-- The access of the command unit that holds the grant, or that the arbiter grants next (R92, R94). -/
def serveGranted (s : State) : State :=
  match s.nextGrant with
  | some (.unit p) => serve p s
  | _ => s

/-- COMMAND_TABLE_ACCESS (R94). -/
def execCommandTableAccess (s : State) : Outcome State Fault Refusal :=
  .next (whenPowered s serveGranted)

end Sys2Proof.Machine
end

