-- ==== Sys2Proof/Machine/PowerEvents.lean ====
section
/-! DEFINITION. Power events (section 8.6): the loss and return of main power, RESET, retained power-up, and the
recovery sweep. -/

namespace Sys2Proof.Machine

open Host (Outcome)

/-- The operating plane at its defaults; the retained plane is kept (R1, R3, R36, R40, R56, R92, R97, R119, R129, R155,
R162, R167, R182). -/
def operatingReset (s : State) : State :=
  { s with
    tPort := .initial, aPort := .initial
    lines := Bank.ofFn fun i => { LineRec.initial with session := s.session i }
    groups := Bank.replicate 4 .initial, slots := Bank.replicate 16 [], stagingSlot := none, staged := []
    input := [], checkQueue := [], arbiter := .initial, hold := { s.hold with timer := none }
    tariff := { s.tariff with stagingSchedule := none, stagedBands := [] }, installs := []
    engine := { s.engine with pass := none, remembered := none, dueAsked := false, closeWork := [] }
    billing := { s.billing with reservations := 0 }, watch := .initial }

/-- The sweep's first step: every deferred entry is posted, oldest first, and removed (R163). -/
def sweepDeferred (s : State) : State :=
  { s.deferred.foldl (fun s e => debitBalance e.user e.units s) s with deferred := [] }

/-- A posting of the sweep; a charge of 0 makes none (R162). -/
def sweepPost (user u : Nat) (s : State) : State := if u = 0 then s else debitBalance user u s

/-- The account work of the sweep for a session whose close decision stands (R141, R163, R172, R174). -/
def sweepWork (i : LineId) (x : Session) (s : State) : State :=
  let s := sweepPost x.user x.unpostedUnits s
  let up := (s.classRec x.cls).rounding.extra x.residue
  let cu := if up then addStated .connectUnits x.connectUnits 1 s else (x.connectUnits, s)
  let s := if up then debitBalance x.user 1 cu.2 else cu.2
  lowerOpenCount x.user (writeRecord (recordOf i { x with connectUnits := cu.1 } up) s)

/-- A session's unposted seconds, if above 0, join the seconds-due list before its part is removed (R163). -/
def sweepSeconds (x : Session) (s : State) : State :=
  if 0 < x.unpostedSeconds then
    { s with engine := { s.engine with secondsDue := s.engine.secondsDue ++ [⟨x.user, x.unpostedSeconds⟩] } }
  else s

/-- One session part settled by its state (R163, R164). The close stamp of a POWER close is the last metered stamp (R163),
also for a session HELD at the failure, whose held seconds are billed (R164) though R138 counts them without moving that
stamp, so that R175's exact sum does not allow for them (DEDUCED, log entry 39). -/
def sweepLine (i : LineId) (s : State) : State :=
  match s.session i with
  | none => s
  | some x =>
    let s :=
      if x.state.isOpen then sweepWork i (Session.closed .power x.lastMetered x) s
      else if x.work = some .pending then sweepWork i x s
      else s
    (sweepSeconds x s).modLine i fun l => { l with session := none }

/-- The recovery sweep (R163). -/
def sweep (s : State) : State :=
  let s := payDueList ((sweepDeferred s).forLines sweepLine)
  { s with hold := { s.hold with state := .none, limit := none, passInGranted := false } }

/-- The sweep has ended: the starting marks clear, and the level causes whose conditions hold latch (R189). -/
def endSweep (s : State) : State :=
  latchLevels .a (latchLevels .t
    { s with tPort := { s.tPort with starting := false }, aPort := { s.aPort with starting := false } })

/-- An access in progress is carried to its end, with the installs taken during it (R125), before the operating plane is
lost or reset (R92). -/
def finishAccess (s : State) : State :=
  match s.arbiter.grant with
  | some .checker => makeInstalls (verdictAccess s)
  | some (.unit p) => makeInstalls ((s.waitingCommand p).elim s fun c => commandAccess p c s)
  | some .engine | none => s

/-- An access in progress is carried to its end, the operating plane takes its defaults, and the recovery sweep runs to
its end (R92, R162, R163, R189). -/
def powerUp (s : State) : State := endSweep (sweep { operatingReset (finishAccess s) with mainPower := true })

/-- MAIN_POWER_FAILURE (R92, R162): an access in progress is carried to its end, and the operating plane is lost. -/
def execMainPowerFailure (s : State) : Outcome State Fault Refusal :=
  .next { operatingReset (finishAccess s) with mainPower := false }

/-- MAIN_POWER_UP (R162 to R164, R189). -/
def execMainPowerUp (s : State) : Outcome State Fault Refusal := .next (powerUp s)

/-- RESET (R162, R163, R189): the same, without a loss of main power; it does nothing while main power is off. -/
def execReset (s : State) : Outcome State Fault Refusal := .next (whenPowered s powerUp)

/-- RETAINED_POWER_UP (R70, R73, R97, R111, R119, R149, R167, R189): both planes at their defaults. The commands that
wait stay queued, and the free values go on from where they stand. -/
def execRetainedPowerUp (s : State) : Outcome State Fault Refusal :=
  .next { State.reset with pending := s.pending, freeIndex := s.freeIndex }

end Sys2Proof.Machine
end

