-- ==== Sys2Proof/Machine/SessionCommands.lean ====
section
/-! DEFINITION. Session commands (chapters 7 and 8): READ_SESSION, LOGOFF, SHUTDOWN_SESSIONS, POST_CHARGE, SET_WATCH,
WATCH_STATUS, ADMISSION, RESTART. -/

namespace Sys2Proof.Machine

open Host (Outcome)

/-- READ SESSION's work (R144). -/
def workReadSession (p : PortId) (line : Word) (s : State) : State :=
  match lineArg line with
  | some i =>
    match s.session i with
    | some x => completeOk p (sessionWords x) s
    | none => refuse p .notFound s
  | none => refuse p .badArgument s

/-- READ_SESSION (R144). -/
def execReadSession (p : PortId) (line : Word) (s : State) : Outcome State Fault Refusal :=
  .next (whenPowered s (give p (.readSession p line) (workReadSession p line)))

/-- LOGOFF (R152). -/
def execLogoff (p : PortId) (line serial : Word) (s : State) : Outcome State Fault Refusal :=
  .next (whenPowered s (give p (.logoff p line serial) (serveNext p)))

/-- SHUTDOWN_SESSIONS (R153). -/
def execShutdownSessions (p : PortId) (s : State) : Outcome State Fault Refusal :=
  .next (whenPowered s (give p (.shutdownSessions p) (serveNext p)))

/-- POST_CHARGE (R103, R154). -/
def execPostCharge (p : PortId) (user : DWord) (units serial : Word) (s : State) : Outcome State Fault Refusal :=
  .next (whenPowered s (give p (.postCharge p user units serial) (serveNext p)))

/-- SET WATCH's work (R155). -/
def workSetWatch (p : PortId) (window limit : Word) (s : State) : State :=
  if (window.toNat = 0 ∨ inRange window.toNat 5 60) ∧ inRange limit.toNat 0 60 then
    completeOk p [] { s with watch := { s.watch with window := window.toNat, holdDownLimit := limit.toNat } }
  else refuse p .badArgument s

/-- SET_WATCH (R155). -/
def execSetWatch (p : PortId) (window limit : Word) (s : State) : Outcome State Fault Refusal :=
  .next (whenPowered s (give p (.setWatch p window limit) (workSetWatch p window limit)))

/-- WATCH STATUS's work (R155). -/
def workWatchStatus (p : PortId) (s : State) : State := completeOk p (watchWords s) s

/-- WATCH_STATUS (R155). -/
def execWatchStatus (p : PortId) (s : State) : Outcome State Fault Refusal :=
  .next (whenPowered s (give p (.watchStatus p) (workWatchStatus p)))

/-- ADMISSION's work (R161). -/
def workAdmission (p : PortId) (vote : Word) (s : State) : State :=
  match voteArg vote with
  | some v => completeOk p [] (rejudge (s.modPort p fun u => { u with vote := v }))
  | none => refuse p .badArgument s

/-- ADMISSION (R161). -/
def execAdmission (p : PortId) (vote : Word) (s : State) : Outcome State Fault Refusal :=
  .next (whenPowered s (give p (.admission p vote) (workAdmission p vote)))

/-- RESTART (R165, R194 to R196). -/
def execRestart (p : PortId) (s : State) : Outcome State Fault Refusal :=
  .next (whenPowered s (give p (.restart p) (serveNext p)))

end Sys2Proof.Machine
end

