-- ==== Sys2Proof/Machine/TransportCommands.lean ====
section
/-! DEFINITION. Transport commands (chapter 2): TAKE_INPUT, SEND, READ_SPACE, WRITE_MESSAGE. -/

namespace Sys2Proof.Machine

open Host (Outcome)

/-- TAKE INPUT's work (R35): the entries leave all together, and freed entries clear the waiting-for-room marks (R58), at
which the checker may ask (R57) and be granted (R94). -/
def workTakeInput (p : PortId) (maximum : Word) (s : State) : State :=
  if inRange maximum.toNat 1 32 then
    let out := s.input.take maximum.toNat
    let s := { s with input := s.input.drop maximum.toNat }
    let s := if out.isEmpty then s else arbitrate (clearWaiting s)
    completeOk p (w16 out.length :: out.flatMap InputEntry.words) s
  else refuse p .badArgument s

/-- TAKE_INPUT (R35). -/
def execTakeInput (p : PortId) (maximum : Word) (s : State) : Outcome State Fault Refusal :=
  .next (whenPowered s (give p (.takeInput p maximum) (workTakeInput p maximum)))

/-- The line is in SESSION with a session part METERED or GRACE that carries the serial (R37). -/
def State.sendable (s : State) (i : LineId) (serial : Nat) : Bool :=
  (s.line i).state == .session && (s.namedSession i serial).isSome

/-- Characters appended to a line's output buffer, as many as fit; a clamp arms the space notice (R37). -/
def appendOutput (i : LineId) (chars : List Byte) (s : State) : State :=
  let free := Config.bufferCapacity - (s.line i).buffer.length
  kick i (s.modLine i fun l =>
    { l with buffer := l.buffer ++ chars.take free, notice := l.notice || decide (free < chars.length) })

/-- SEND's work (R37). -/
def workSend (p : PortId) (line serial count : Word) (chars : List Byte) (s : State) : State :=
  match lineArg line with
  | some i =>
    if inRange count.toNat 1 32 then
      if s.sendable i serial.toNat then
        let free := Config.bufferCapacity - (s.line i).buffer.length
        complete p .ok (decide (free < chars.length)) [w16 (min free chars.length)] (appendOutput i chars s)
      else refuse p .stale s
    else refuse p .badArgument s
  | none => refuse p .badArgument s

/-- SEND (R37). -/
def execSend (p : PortId) (line serial count : Word) (chars : List Byte) (s : State) :
    Outcome State Fault Refusal :=
  .next (whenPowered s (give p (.send p line serial count chars) (workSend p line serial count chars)))

/-- The members of the space set, ascending (R39). -/
def State.spaceSet (s : State) : List LineId := allLines.filter fun i => (s.line i).inSpaceSet

/-- READ SPACE's work (R39). -/
def workReadSpace (p : PortId) (s : State) : State :=
  let members := s.spaceSet
  completeOk p (w16 members.length :: members.map fun i => w16 i.val)
    (s.mapLines fun _ l => { l with inSpaceSet := false })

/-- READ_SPACE (R39). -/
def execReadSpace (p : PortId) (s : State) : Outcome State Fault Refusal :=
  .next (whenPowered s (give p (.readSpace p) (workReadSpace p)))

/-- An accepted WRITE MESSAGE with the staged characters so formed (R41). -/
def acceptMessage (p : PortId) (k : Fin 16) (final : Bool) (text : List Byte) (s : State) : State :=
  if final then
    completeOk p [] { s with slots := s.slots.set k text, stagingSlot := none, staged := [] }
  else completeOk p [] { s with stagingSlot := some k.val, staged := text }

/-- WRITE MESSAGE's work (R41). -/
def workWriteMessage (p : PortId) (slot : Byte) (final : Bool) (offset count : Word) (chars : List Byte) (s : State) :
    State :=
  if h : slot.toNat < 16 then
    if offset.toNat ≤ 128 ∧ count.toNat ≤ 32 ∧ offset.toNat + count.toNat ≤ 128 then
      if offset.toNat = 0 then acceptMessage p ⟨slot.toNat, h⟩ final chars s
      else if s.stagingSlot = some slot.toNat ∧ offset.toNat = s.staged.length then
        acceptMessage p ⟨slot.toNat, h⟩ final (s.staged ++ chars) s
      else refuse p .badArgument { s with stagingSlot := none, staged := [] }
    else refuse p .badArgument s
  else refuse p .badArgument s

/-- WRITE_MESSAGE (R41). -/
def execWriteMessage (p : PortId) (slot : Byte) (final : Bool) (offset count : Word) (chars : List Byte) (s : State) :
    Outcome State Fault Refusal :=
  .next (whenPowered s
    (give p (.writeMessage p slot final offset count chars) (workWriteMessage p slot final offset count chars)))

end Sys2Proof.Machine
end

