-- ==== Sys2Proof/Machine/WatchEvents.lean ====
section
/-! DEFINITION. Watch events (section 8.4): WATCH_TIMER_EXPIRY, HOLD_DOWN_EXPIRY. -/

namespace Sys2Proof.Machine

open Host (Outcome)

/-- The watch timer's expiry while UP with no T command executing (R156, R157). -/
def watchTimerOver (s : State) : State :=
  if !s.watch.down ∧ s.watch.timer.expired ∧ s.tPort.state ≠ .busy then watchDown s else s

/-- WATCH_TIMER_EXPIRY (R156, R157). -/
def execWatchTimerExpiry (s : State) : Outcome State Fault Refusal := .next (whenPowered s watchTimerOver)

/-- The hold-down timer's expiry while DOWN (R160). -/
def holdDownExpired (s : State) : State :=
  if s.watch.down ∧ s.watch.holdDownTimer.expired then holdDownOver s else s

/-- HOLD_DOWN_EXPIRY (R160). -/
def execHoldDownExpiry (s : State) : Outcome State Fault Refusal := .next (whenPowered s holdDownExpired)

end Sys2Proof.Machine
end

