-- ==== Sys2Proof/Machine/Dispatch.lean ====
section
/-! DEFINITION. The dispatch: each row to its meaning. -/

namespace Sys2Proof.Machine

def exec (i : Instr) (s : State) : Host.Outcome State Fault Refusal :=
  match i with
  | .dataWrite p w => Sys2Proof.Machine.execDataWrite p w s
  | .dataRead p => Sys2Proof.Machine.execDataRead p s
  | .go p => Sys2Proof.Machine.execGo p s
  | .abortBuild p => Sys2Proof.Machine.execAbortBuild p s
  | .reread p => Sys2Proof.Machine.execReread p s
  | .controlWriteNoRequest p w => Sys2Proof.Machine.execControlWriteNoRequest p w s
  | .attentionWrite p w => Sys2Proof.Machine.execAttentionWrite p w s
  | .maskWrite p w => Sys2Proof.Machine.execMaskWrite p w s
  | .groupSet p group ringCount carrierWait signOnLimit lossCount speedSet rateFactor idleSelect => Sys2Proof.Machine.execGroupSet p group ringCount carrierWait signOnLimit lossCount speedSet rateFactor idleSelect s
  | .lineEnable p line on => Sys2Proof.Machine.execLineEnable p line on s
  | .groupEnable p group on => Sys2Proof.Machine.execGroupEnable p group on s
  | .clearFault p line => Sys2Proof.Machine.execClearFault p line s
  | .lineTest p line speed => Sys2Proof.Machine.execLineTest p line speed s
  | .readLine p line => Sys2Proof.Machine.execReadLine p line s
  | .takeInput p maximum => Sys2Proof.Machine.execTakeInput p maximum s
  | .send p line serial count chars => Sys2Proof.Machine.execSend p line serial count chars s
  | .readSpace p => Sys2Proof.Machine.execReadSpace p s
  | .writeMessage p slot final offset count chars => Sys2Proof.Machine.execWriteMessage p slot final offset count chars s
  | .accountAdd p user cls check limit balance => Sys2Proof.Machine.execAccountAdd p user cls check limit balance s
  | .accountSet p user cls check limit => Sys2Proof.Machine.execAccountSet p user cls check limit s
  | .accountDelete p user => Sys2Proof.Machine.execAccountDelete p user s
  | .credit p user amount => Sys2Proof.Machine.execCredit p user amount s
  | .debit p user amount => Sys2Proof.Machine.execDebit p user amount s
  | .suspend p user logout => Sys2Proof.Machine.execSuspend p user logout s
  | .resume p user => Sys2Proof.Machine.execResume p user s
  | .unlock p user => Sys2Proof.Machine.execUnlock p user s
  | .readAccount p user => Sys2Proof.Machine.execReadAccount p user s
  | .sweep p after => Sys2Proof.Machine.execSweep p after s
  | .closePeriod p => Sys2Proof.Machine.execClosePeriod p s
  | .holdRequest p limit => Sys2Proof.Machine.execHoldRequest p limit s
  | .holdRelease p => Sys2Proof.Machine.execHoldRelease p s
  | .holdStatus p => Sys2Proof.Machine.execHoldStatus p s
  | .setClock p year month day hour minute second weekday => Sys2Proof.Machine.execSetClock p year month day hour minute second weekday s
  | .readClock p => Sys2Proof.Machine.execReadClock p s
  | .tariffWrite p schedule first final count bands => Sys2Proof.Machine.execTariffWrite p schedule first final count bands s
  | .dayMapWrite p d1 d2 d3 d4 d5 d6 d7 => Sys2Proof.Machine.execDayMapWrite p d1 d2 d3 d4 d5 d6 d7 s
  | .classWrite p cls setup floor warn grace idleWarn idleLimit rounding failLimit lockout => Sys2Proof.Machine.execClassWrite p cls setup floor warn grace idleWarn idleLimit rounding failLimit lockout s
  | .readSession p line => Sys2Proof.Machine.execReadSession p line s
  | .logoff p line serial => Sys2Proof.Machine.execLogoff p line serial s
  | .shutdownSessions p => Sys2Proof.Machine.execShutdownSessions p s
  | .postCharge p user units serial => Sys2Proof.Machine.execPostCharge p user units serial s
  | .setWatch p window limit => Sys2Proof.Machine.execSetWatch p window limit s
  | .watchStatus p => Sys2Proof.Machine.execWatchStatus p s
  | .admission p vote => Sys2Proof.Machine.execAdmission p vote s
  | .restart p => Sys2Proof.Machine.execRestart p s
  | .peekBilling p => Sys2Proof.Machine.execPeekBilling p s
  | .releaseBilling p sequence => Sys2Proof.Machine.execReleaseBilling p sequence s
  | .commandTableAccess => Sys2Proof.Machine.execCommandTableAccess s
  | .qualifiedRing k => Sys2Proof.Machine.execQualifiedRing k s
  | .ringGapExpiry k => Sys2Proof.Machine.execRingGapExpiry k s
  | .carrierPresent k => Sys2Proof.Machine.execCarrierPresent k s
  | .carrierWaitExpiry k => Sys2Proof.Machine.execCarrierWaitExpiry k s
  | .carrierLoss k => Sys2Proof.Machine.execCarrierLoss k s
  | .speedMeasurement k ticks => Sys2Proof.Machine.execSpeedMeasurement k ticks s
  | .speedMarkWaitEnd k => Sys2Proof.Machine.execSpeedMarkWaitEnd k s
  | .speedWaitExpiry k => Sys2Proof.Machine.execSpeedWaitExpiry k s
  | .hangupGuardExpiry k => Sys2Proof.Machine.execHangupGuardExpiry k s
  | .stuckCarrier k => Sys2Proof.Machine.execStuckCarrier k s
  | .ringStuck k => Sys2Proof.Machine.execRingStuck k s
  | .lineTestEnd k => Sys2Proof.Machine.execLineTestEnd k s
  | .characterReceived k data stopMark => Sys2Proof.Machine.execCharacterReceived k data stopMark s
  | .breakReceived k => Sys2Proof.Machine.execBreakReceived k s
  | .characterSent k => Sys2Proof.Machine.execCharacterSent k s
  | .signOnTimerExpiry k => Sys2Proof.Machine.execSignOnTimerExpiry k s
  | .verdict => Sys2Proof.Machine.execVerdict s
  | .clockAdvance => Sys2Proof.Machine.execClockAdvance s
  | .rememberedTickPass => Sys2Proof.Machine.execRememberedTickPass s
  | .meteringPassAccess => Sys2Proof.Machine.execMeteringPassAccess s
  | .graceTimerExpiry k => Sys2Proof.Machine.execGraceTimerExpiry k s
  | .idleLimit k => Sys2Proof.Machine.execIdleLimit k s
  | .idleWarnThreshold k => Sys2Proof.Machine.execIdleWarnThreshold k s
  | .closeAccountWork => Sys2Proof.Machine.execCloseAccountWork s
  | .holdGrant => Sys2Proof.Machine.execHoldGrant s
  | .holdLimitExpiry => Sys2Proof.Machine.execHoldLimitExpiry s
  | .releasePosting => Sys2Proof.Machine.execReleasePosting s
  | .secondsDueAccess => Sys2Proof.Machine.execSecondsDueAccess s
  | .watchTimerExpiry => Sys2Proof.Machine.execWatchTimerExpiry s
  | .holdDownExpiry => Sys2Proof.Machine.execHoldDownExpiry s
  | .mainPowerFailure => Sys2Proof.Machine.execMainPowerFailure s
  | .mainPowerUp => Sys2Proof.Machine.execMainPowerUp s
  | .reset => Sys2Proof.Machine.execReset s
  | .retainedPowerUp => Sys2Proof.Machine.execRetainedPowerUp s
  | .scan ring carrier => Sys2Proof.Machine.execScan ring carrier s

end Sys2Proof.Machine
end

