-- ==== Sys2Proof/WellFormed.lean ====
section
/-! DEFINITION. Which operands a command may carry: those that a record of at most 20 words can spell, and those
that the row's own event admits. -/

namespace Sys2Proof

/-- The characters of SEND and WRITE MESSAGE agree with the count word (R199): as many as the count says where it
is inside its range, and else any even number of characters that fits the record. -/
def charsFit (lowest : Nat) (count : Word) (chars : List Byte) : Bool :=
  if lowest ≤ count.toNat ∧ count.toNat ≤ 32 then chars.length == count.toNat
  else chars.length % 2 == 0 && decide (chars.length ≤ 32)

/-- The band words of TARIFF WRITE agree with the count word (R199). -/
def bandsFit (count : Word) (ws : List Word) : Bool :=
  if count.toNat ≤ 3 then ws.length == 5 * count.toNat else decide (ws.length ≤ 15)

/-- A control word that is one of the three requests of Table 11-3. -/
def isControlRequest (w : Word) : Bool := (controlRequest w).isSome

/-- Operands that the row's record or event can carry. A count and its characters must agree, a control write with
no request carries none of the three requests, and a measurement holds at 4095 (R15). -/
def Instr.wellFormed : Instr → Bool
  | .send _ _ _ c cs => charsFit 1 c cs
  | .writeMessage _ _ _ _ c cs => charsFit 0 c cs
  | .tariffWrite _ _ _ _ c ws => bandsFit c ws
  | .controlWriteNoRequest _ w => !isControlRequest w
  | .speedMeasurement _ m => decide (m ≤ 4095)
  | _ => true

end Sys2Proof
end

