-- ==== Sys2Proof/Safety.lean ====
section
/-! DEFINITION. What counts as a sound state, in the terms the claims use: when a command runs at a port, and the laws
that the spec states of the part. -/

namespace Sys2Proof.Machine

/-! ### When a command runs -/

/-- Main power is on and port p takes writes (R183, R189). -/
def State.live (s : State) (p : PortId) : Prop := s.mainPower = true ∧ (s.port p).starting = false

/-- Port p is BUSY with command c, which is with its owning block (R185). -/
def State.running (s : State) (p : PortId) (c : Instr) : Prop :=
  s.live p ∧ (s.port p).state = .busy ∧ (s.port p).job = some ⟨.started, c⟩

/-- Port p is BUSY with command c, whose access comes next: its unit holds the grant, or the arbiter grants it next (R92
to R96). -/
def State.grantedNext (s : State) (p : PortId) (c : Instr) : Prop :=
  s.live p ∧ (s.port p).state = .busy ∧ (s.port p).job = some ⟨.waiting, c⟩ ∧ s.nextGrant = some (.unit p)

/-- A port unit after a completion (R186): the response record is `header :: fields`, unread; the status stands; the
DONE latch is set. -/
def PortUnit.answered (u : PortUnit) (p : PortId) (st : Status) (clamped : Bool) (fields : List Word) : Prop :=
  u.state = .done ∧ u.status = st ∧ u.clamped = clamped ∧ u.response = responseRecord st clamped fields ∧
    u.readPos = 0 ∧ u.job = none ∧ u.record = [] ∧ u.latches.getLsbD (doneBit p) = true

/-- Lines other than i stand as they did. -/
def State.sameLinesBut (s t : State) (i : LineId) : Prop := ∀ j : LineId, j ≠ i → t.line j = s.line j

/-- What the retained tables hold: accounts, classes, schedules and day map, clock, serial counter (chapters 4, 6,
8). -/
def State.sameTables (s t : State) : Prop :=
  t.accounts = s.accounts ∧ t.classes = s.classes ∧ t.tariff.schedA = s.tariff.schedA ∧
    t.tariff.schedB = s.tariff.schedB ∧ t.tariff.dayMap = s.tariff.dayMap ∧ t.clock = s.clock ∧
    t.clockInvalid = s.clockInvalid ∧ t.serialCounter = s.serialCounter

/-! ### Billing records -/

/-- What the accounting processor may check of a record (R175): with neither CLOCK_SET nor LATE set, the close stamp lies
after the open stamp by the connect and held seconds, or by one second more where the reason is not POWER. The rules
that make a record leave two cases in which the check fails (log entry 39). -/
def BillingRecord.stampsAgree (r : BillingRecord) : Bool :=
  let sum := r.connectSeconds + r.heldSeconds
  let distance := r.openStamp.distance r.closeStamp
  r.clockSet || r.late || distance == sum || (r.reason != .power && distance == sum + 1)

/-! ### Laws -/

/-- The account table holds at most 1024 records, in ascending order of user number (R70). -/
def State.accountsOrdered (s : State) : Prop :=
  s.accounts.Pairwise (fun a b => a.user < b.user) ∧ s.accounts.length ≤ Config.accountCapacity

/-- The law of the input queue (R30): free entries are at least the sessions METERED, GRACE or HELD. -/
def State.inputLaw (s : State) : Prop := s.input.length + s.openCount ≤ Config.inputCapacity

/-- The law of the hold (R108): with the hold NONE, or only REQUESTED, nothing is set aside and no pass is recorded as
begun in GRANTED; and with main power on, a pass so recorded is in progress (R97, R129). -/
def State.holdLaw (s : State) : Prop :=
  (s.hold.state = .none ∨ s.hold.state = .requested → s.setAside = false ∧ s.hold.passInGranted = false) ∧
    (s.mainPower = true → s.hold.passInGranted = true → s.engine.pass.isSome = true)

/-- Each record's sequence is followed by the next one's, 65,535 by 1 (R173). -/
def sequenceChain : List BillingRecord → Nat → Prop
  | [], _ => True
  | [r], next => nextCounter r.sequence = next
  | r :: q :: rest, next => nextCounter r.sequence = q.sequence ∧ sequenceChain (q :: rest) next

/-- The law of sequences (R173): the records' sequences rise by one from each to the next, and the counter holds the
one that follows; the counter stays within 1 to 65,535. -/
def State.sequenceLaw (s : State) : Prop :=
  sequenceChain s.billing.records s.billing.sequence ∧ 1 ≤ s.billing.sequence ∧ s.billing.sequence ≤ 65535

/-- The law of the open count (R148): every account's open count is the number of session parts that name it and whose
close's account work is not made. With it what keeps it: a session part names an account of the table (R77), and has an
account work field exactly when it is closed (R145, R146); with main power on, pending account work waits at the engine
(R95); and while a RESTART waits for its access the hold is NONE or RELEASING, and the other port has no command left to
work on (R109, R194, R195). -/
def State.openCountLaw (s : State) : Prop :=
  (∀ a ∈ s.accounts, a.openCount =
      allLines.countP fun i => (s.session i).any fun x => x.user == a.user && x.work != some .done) ∧
    (∀ (i : LineId) (x : Session), s.session i = some x →
      (s.account x.user).isSome = true ∧ (x.work = none ↔ x.state.isOpen = true)) ∧
    (s.mainPower = true → ∀ (i : LineId) (x : Session), s.session i = some x → x.work = some .pending →
      i ∈ s.engine.closeWork) ∧
    ∀ p : PortId, s.restarting p = true →
      (s.hold.state = .none ∨ s.hold.state = .releasing) ∧
        ((s.port p.other).state = .busy → ∀ c : Instr,
          (s.port p.other).job ≠ some ⟨.started, c⟩ ∧ (s.port p.other).job ≠ some ⟨.waiting, c⟩)

/-- The law of serials (R149): no two session parts carry the same serial, and each serial and the counter stay within
1 to 65,535. -/
def State.serialLaw (s : State) : Prop :=
  (∀ i j : LineId, ∀ x y : Session, i ≠ j → s.session i = some x → s.session j = some y → x.serial ≠ y.serial) ∧
    (∀ i : LineId, ∀ x : Session, s.session i = some x → 1 ≤ x.serial ∧ x.serial ≤ 65535) ∧
    1 ≤ s.serialCounter ∧ s.serialCounter ≤ 65535

/-- What the parts of a line record say of its state (Table 1-1): a sign-on part only in SIGNON, a test part only in
TEST, a session part only in SESSION or CLOSING, and an open session only in SESSION (R19, R145). -/
def LineRec.shaped (l : LineRec) : Prop :=
  (l.signOn.isSome = true ↔ l.state = .signOn) ∧ (l.test.isSome = true ↔ l.state = .test) ∧
    (l.session.isSome = true → l.state = .session ∨ l.state = .closing) ∧
    (l.state = .session → l.session.isSome = true) ∧
    (∀ x : Session, l.session = some x → x.state.isOpen = true → l.state = .session)

/-- With main power on, every line's parts agree with its state (Table 1-1). -/
def State.lineLaw (s : State) : Prop := s.mainPower = true → ∀ i : LineId, (s.line i).shaped

/-- A line state that takes or holds a call short of a session (R157). -/
def LineState.dialling : LineState → Bool
  | .idle | .ringing | .answering | .speed | .signOn => true
  | .disabled | .busied | .session | .closing | .hangup | .test | .faulted => false

/-- The law of the watch (R157), with what readiness keeps of it (R6, R7): a line in IDLE or RINGING is effectively
enabled; and while the watch is DOWN no session is METERED or GRACE and no line is IDLE, RINGING, ANSWERING, SPEED or
SIGNON. -/
def State.watchLaw (s : State) : Prop :=
  (∀ i : LineId, (s.line i).state = .idle ∨ (s.line i).state = .ringing → s.effEnable i = true) ∧
    (s.watch.down = true → ∀ i : LineId, (s.line i).state.dialling = false ∧
      ∀ x : Session, s.session i = some x → x.state.isCharged = false)

/-- A line whose reservation must stand: it is answered and short of its close's account work (R169, R171). -/
def LineRec.needsPlace (l : LineRec) : Bool :=
  l.state == .answering || l.state == .speed || l.state == .signOn ||
    l.session.any fun x => x.state.isOpen || x.work == some .pending

/-- The law of the billing store (R168, section 9.2): records and reservations together are at most 96, the
reservation count is the number of lines whose flag is set, a flag is set only while answer is on, and with main power
on every line that must hold a reservation holds one. With main power off the places of the sessions that the sweep
will bill are kept free (R172). -/
def State.storeLaw (s : State) : Prop :=
  s.billing.reservations = allLines.countP (fun i => (s.line i).reserved) ∧
    s.billing.records.length + s.billing.reservations ≤ Config.billingCapacity ∧
    (∀ i : LineId, (s.line i).reserved = true → (s.line i).state.answer = true) ∧
    (s.mainPower = true → ∀ i : LineId, (s.line i).needsPlace = true → (s.line i).reserved = true) ∧
    (s.mainPower = false →
      s.billing.records.length + allLines.countP (fun i => (s.line i).needsPlace) ≤ Config.billingCapacity)

end Sys2Proof.Machine
end

