-- ==== Sys2Proof/Certificates/Slice0/Obligations.lean ====
section
/-! DEFINITION. The statements for the provers. A statement about a command row says what `exec` answers: an equation
`exec … = .next t` is its completion, its result and its frame at once, because `t` is written as the old state with
exactly the fields changed that the rules name. -/

open Sys2Proof Sys2Proof.Machine

/-! ### The queue and the ports (chapter 10) -/

/-- The model's own queue (log entries 2 and 4): a step takes the command at the front and runs it on the state with
the rest of the queue; on an empty queue the part idles. -/
def Obligations.StepRunsFrontCommand : Prop :=
  (∀ (c : Instr) (rest : List Instr) (s : State),
    step { s with pending := c :: rest } = exec c { s with pending := rest }) ∧
  (∀ s : State, s.pending = [] → step s = .next s)

/-- R183, whole: a write at DATA by the port state. The last status, and everything else, stands. -/
def Obligations.DataWriteActsByPortState : Prop :=
  ∀ (p : PortId) (w : Word) (s : State), s.mainPower = true →
    let u := s.port p
    (u.starting = true → exec (.dataWrite p w) s = .next s) ∧
    (u.starting = false → u.state = .idle ∨ u.state = .done →
      exec (.dataWrite p w) s = .next (s.setPort p
        { u with response := [], readPos := 0, record := [w], overflow := false, state := .building })) ∧
    (u.starting = false → u.state = .building → u.record.length < 20 →
      exec (.dataWrite p w) s = .next (s.setPort p { u with record := u.record ++ [w] })) ∧
    (u.starting = false → u.state = .building → 20 ≤ u.record.length →
      exec (.dataWrite p w) s = .next (s.setPort p { u with overflow := true })) ∧
    (u.starting = false → u.state = .busy →
      exec (.dataWrite p w) s = .next (s.setPort p { u with latches := u.latches ||| bitWord (collisionBit p) }))

/-- R187: a read at DATA in DONE gives the word at the read position and moves on; past the end, and in every other
port state, it gives 0 and changes nothing but the word on the data pins. A read at CONTROL is a function of the
state. The model's form in it: log entry 18. -/
def Obligations.DataReadGivesResponseWords : Prop :=
  ∀ (p : PortId) (s : State), s.mainPower = true →
    let u := s.port p
    (∀ w : Word, u.starting = false → u.state = .done → u.response[u.readPos]? = some w →
      exec (.dataRead p) s = .next (s.setPort p { u with bus := w, readPos := u.readPos + 1 })) ∧
    (u.starting = true ∨ u.state ≠ .done ∨ u.response.length ≤ u.readPos →
      exec (.dataRead p) s = .next (s.setPort p { u with bus := 0 }))

/-- The table of R184 for ABORT BUILD and REREAD, its GO column outside BUILDING, and a write that is no request. A word
written at CONTROL is the request of Table 11-3 that it holds, and every other word is no request (R198). -/
def Obligations.ControlRequestsActByPortState : Prop :=
  ∀ (p : PortId) (s : State), s.mainPower = true →
    let u := s.port p
    let collided := s.setPort p { u with latches := u.latches ||| bitWord (collisionBit p) }
    (u.starting = true →
      exec (.go p) s = .next s ∧ exec (.abortBuild p) s = .next s ∧ exec (.reread p) s = .next s ∧
        ∀ w : Word, exec (.controlWriteNoRequest p w) s = .next s) ∧
    exec (.controlWriteNoRequest p 0x5A01) s = exec (.go p) s ∧
    exec (.controlWriteNoRequest p 0x5A02) s = exec (.abortBuild p) s ∧
    exec (.controlWriteNoRequest p 0x5A03) s = exec (.reread p) s ∧
    (u.starting = false →
      (u.state ≠ .building → exec (.go p) s = .next collided) ∧
      (u.state = .idle → exec (.abortBuild p) s = .next s) ∧
      (u.state = .building →
        exec (.abortBuild p) s = .next (s.setPort p { u with record := [], overflow := false, state := .idle })) ∧
      (u.state = .busy → exec (.abortBuild p) s = .next collided ∧ exec (.reread p) s = .next collided) ∧
      (u.state = .done →
        exec (.abortBuild p) s = .next (s.setPort p { u with response := [], readPos := 0, state := .idle }) ∧
        exec (.reread p) s = .next (s.setPort p { u with readPos := 0 })) ∧
      (u.state = .idle ∨ u.state = .building → exec (.reread p) s = .next s) ∧
      ∀ w : Word, w ≠ 0x5A01 → w ≠ 0x5A02 → w ≠ 0x5A03 → exec (.controlWriteNoRequest p w) s = .next collided)

/-- R185 steps 1 and 2: GO in BUILDING refuses a record that is no well-formed command, or that belongs to the other
port's role, and nothing but the port's own state changes; the watch does not take it. -/
def Obligations.GoRefusesBadRecords : Prop :=
  ∀ (p : PortId) (s : State), s.live p → (s.port p).state = .building →
    let u := s.port p
    ((u.overflow = true ∨ decodeRecord p u.record = none) →
      ∃ u' : PortUnit, exec (.go p) s = .next (s.setPort p u') ∧ u'.answered p .badCommand false []) ∧
    (∀ c : Instr, u.overflow = false → decodeRecord p u.record = some c → roleOk p c = false →
      ∃ u' : PortUnit, exec (.go p) s = .next (s.setPort p u') ∧ u'.answered p .wrongPort false [])

/-- R185 step 3, R74 and R194, R195, R109, with the watch UP at the T port: the port enters BUSY with the command; at
the T port the watch timer stops; a command with table work asks for its access, or is refused with BAD_ARGUMENT when
an argument is out of range; one that asks alone while the table is free is granted at once and moves to the end of the
rotation (R94); while a RESTART is in progress at the other port it is answered RESTARTED; and a RESTART is taken: the
other port's command is ended, an access in progress made to its end first, a request for the hold is dropped, a
granted hold is revoked, and the access is asked for. The model's forms in it: log entries 1, 2, 20 and 32. -/
def Obligations.GoStartsTheCommand : Prop :=
  ∀ (p : PortId) (c : Instr) (s : State), s.live p → (s.port p).state = .building →
    (s.port p).overflow = false → decodeRecord p (s.port p).record = some c → roleOk p c = true →
    (p = .t → s.watch.down = false) →
    let stopped := if p = .t then { s with watch := { s.watch with timer := none } } else s
    let start := fun k => stopped.setPort p { s.port p with state := .busy, job := some ⟨k, c⟩ }
    let user := fun u : DWord => 1 ≤ u.toNat ∧ u.toNat ≤ 999999
    let amount := fun n : DWord => 1 ≤ n.toNat ∧ n.toNat ≤ 8388607
    let inRange := match c with
      | .accountAdd _ u k h l b => user u ∧ k.toNat ≤ 3 ∧ h.toNat ≤ 16777215 ∧ 1 ≤ l.toNat ∧ l.toNat ≤ 7 ∧
          -8388608 ≤ b.toInt ∧ b.toInt ≤ 8388607
      | .accountSet _ u k h l => user u ∧ k.toNat ≤ 3 ∧ h.toNat ≤ 16777215 ∧ 1 ≤ l.toNat ∧ l.toNat ≤ 7
      | .accountDelete _ u => user u
      | .credit _ u n => user u ∧ amount n
      | .debit _ u n => user u ∧ amount n
      | .suspend _ u y => user u ∧ y.toNat ≤ 1
      | .resume _ u => user u
      | .unlock _ u => user u
      | .readAccount _ u => user u
      | .sweep _ u => u.toNat ≤ 999999
      | .logoff _ l _ => l.toNat ≤ 31
      | .postCharge _ u n _ => user u ∧ 1 ≤ n.toNat
      | _ => True
    -- the table is free, the engine has no request waiting, and no other client of the rotation asks (R94)
    let alone := fun w : State => s.arbiter.grant = none ∧ s.engineAsks = false ∧
      (s.passWants = false ∨ s.arbiter.passAsked = false) ∧ (s.hold.state = .none ∨ s.hold.state = .granted) ∧
      .unit p ∈ s.arbiter.rotation ∧ ∀ d : Client, d ≠ .unit p → w.asks d = false
    let atOnce := fun w : State => { w with
      arbiter := { s.arbiter with
        grant := some (.unit p), rotation := s.arbiter.rotation.erase (.unit p) ++ [.unit p]
        passAsked := s.engine.pass.isSome } }
    (isRestart c = false → s.restarting p.other = false →
      (isTableCommand c = false → exec (.go p) s = .next (start .started)) ∧
      (isTableCommand c = true → inRange → exec (.go p) s = .next (arbitrate (start .waiting)) ∧
        (alone (start .waiting) → exec (.go p) s = .next (atOnce (start .waiting)))) ∧
      (isTableCommand c = true → ¬ inRange →
        exec (.go p) s = .next (complete p .badArgument false [] (start .started)))) ∧
    (s.restarting p.other = true →
      exec (.go p) s = .next (complete p .restarted false [] (start .started))) ∧
    (isRestart c = true → s.restarting p.other = false → (s.port p.other).starting = false →
      let u := s.port p.other
      ∃ t : State, exec (.go p) s = .next t ∧ (t.port p).state = .busy ∧ (t.port p).job = some ⟨.waiting, c⟩ ∧
        (∀ (k : JobKind) (d : Instr), u.state = .busy → u.job = some ⟨k, d⟩ → k ≠ .testing →
          (t.port p.other).answered p.other .restarted false []) ∧
        (u.state ≠ .busy ∨ (∃ d : Instr, u.job = some ⟨.testing, d⟩) →
          t.port p.other = { u with latches := (t.port p.other).latches }) ∧
        (s.hold.state = .granted → s.arbiter.grant ≠ some (.unit p.other) →
          t.aPort.latches.getLsbD ACause.holdRevoked.bit = true) ∧
        (s.arbiter.grant ≠ some (.unit p.other) →
          t.hold = (match s.hold.state with
            | .none | .releasing => s.hold
            | .requested => { s.hold with state := .none, limit := none }
            | .granted =>
              if s.arbiter.grant = none ∧ s.engine.pass = none ∧ s.setAside = false then
                { s.hold with state := .none, limit := none, timer := none }
              else { s.hold with state := .releasing, timer := none }) ∧
          t.watch.down = s.watch.down ∧
          (t.arbiter = s.arbiter ∨ s.arbiter.grant = none ∧ ∃ d : Client, t.arbiter = (grantTo d s).arbiter) ∧
          t = { s with
            tPort := t.tPort, aPort := t.aPort, hold := t.hold, arbiter := t.arbiter
            watch := { s.watch with timer := t.watch.timer }, engine := { s.engine with dueAsked := t.engine.dueAsked } }) ∧
        (∀ d : Instr, s.arbiter.grant = some (.unit p.other) → u.state = .busy → u.job = some ⟨.waiting, d⟩ →
          t.accounts = (commandAccess p.other d (start .started)).accounts))

/-- R186 and R200: what a completion does, which the statements about commands use by its name `complete`. -/
def Obligations.CompletionInstallsResponse : Prop :=
  ∀ (p : PortId) (st : Status) (clamped : Bool) (fields : List Word) (s : State),
    (s.port p).starting = false →
    ∃ u : PortUnit, u.answered p st clamped fields ∧ u.vote = (s.port p).vote ∧ u.mask = (s.port p).mask ∧
      (∀ n : Nat, n ≠ doneBit p → u.latches.getLsbD n = (s.port p).latches.getLsbD n) ∧
      complete p st clamped fields s =
        if p = .t ∧ 0 < s.watch.window then
          { s.setPort p u with watch := { s.watch with timer := some (s.watch.window * 10) } }
        else s.setPort p u

/-- R190 and R191: a write at ATTENTION clears the latches written as 1, but a level cause whose condition holds stays
latched; a write at MASK sets the bits of the port's causes as written and every other position to 1 (R198); the pin
is active exactly while a latched cause is unmasked. -/
def Obligations.AttentionAndMaskWrites : Prop :=
  ∀ (p : PortId) (w : Word) (s : State), s.mainPower = true →
    (∃ v : Word, exec (.attentionWrite p w) s = .next (s.setPort p { s.port p with latches := v }) ∧
      ∀ n : Nat, n < 16 → v.getLsbD n =
        (((s.port p).latches.getLsbD n && !w.getLsbD n) ||
          (!(s.port p).starting && (s.levelWord p).getLsbD n))) ∧
    (∃ v : Word, exec (.maskWrite p w) s = .next (s.setPort p { s.port p with mask := v }) ∧
      ∀ n : Nat, n < 16 → v.getLsbD n = (w.getLsbD n || !(causePositions p).getLsbD n)) ∧
    (s.pinActive p = true ↔
      ∃ n : Nat, (s.port p).latches.getLsbD n = true ∧ (s.port p).mask.getLsbD n = false)

/-- R199, Tables 11-4 and 11-7: the record of a well-formed command reads back as that command, with every operand at
every value the record admits, and it fits the 20 words of a command record. -/
def Obligations.RecordsDecodeAsEncoded : Prop :=
  ∀ (p : PortId) (c : Instr), c.commandPort = some p → c.wellFormed = true →
    decodeRecord p (encodeRecord c) = some c ∧ (encodeRecord c).length ≤ 20

/-- The model's choice of log entry 1: a command row at a port that is not BUSY is its record, GO, and the row again,
which is then the owning block's work; while the port carries another command it only latches COLLISION. -/
def Obligations.WholeCommandIsRecordThenGo : Prop :=
  ∀ (p : PortId) (c : Instr) (s : State), c.commandPort = some p → s.live p →
    ((s.port p).state ≠ .busy →
      (goAt p (writeRecordAt p (encodeRecord c) s)).carries p c = true →
      exec c s = exec c (goAt p (writeRecordAt p (encodeRecord c) s))) ∧
    ((s.port p).state ≠ .busy →
      (goAt p (writeRecordAt p (encodeRecord c) s)).carries p c = false →
      exec c s = .next (goAt p (writeRecordAt p (encodeRecord c) s))) ∧
    ((s.port p).state = .busy → s.carries p c = false → exec c s = .next (latchCollision p s))

/-! ### Lines (chapter 1) -/

/-- R3: GROUP SET replaces the seven settings whole and keeps the group enable, or refuses with BAD_ARGUMENT and
changes nothing. -/
def Obligations.GroupSetReplacesSettings : Prop :=
  ∀ (p : PortId) (g rc cw sl lc ss rf ie : Word) (s : State), s.running p (.groupSet p g rc cw sl lc ss rf ie) →
    let good := g.toNat ≤ 3 ∧ 1 ≤ rc.toNat ∧ rc.toNat ≤ 7 ∧ 5 ≤ cw.toNat ∧ cw.toNat ≤ 60 ∧ 10 ≤ sl.toNat ∧
      sl.toNat ≤ 255 ∧ 1 ≤ lc.toNat ∧ lc.toNat ≤ 31 ∧ 1 ≤ ss.toNat ∧ ss.toNat ≤ 255 ∧ 4 ≤ rf.toNat ∧
      rf.toNat ≤ 16 ∧ ie.toNat ≤ 1
    (good → ∃ groups : Bank GroupRec 4,
      exec (.groupSet p g rc cw sl lc ss rf ie) s = .next (complete p .ok false [] { s with groups := groups }) ∧
      ∀ k : Fin 4, groups.get k =
        if k.val = g.toNat then
          { ringCount := rc.toNat, carrierWait := cw.toNat, signOnLimit := sl.toNat, lossCount := lc.toNat
            speedSet := ss.setWidth 8, rateFactor := rf.toNat, idleTx := ie == 1, enable := (s.group k).enable }
        else s.group k) ∧
    (¬ good → exec (.groupSet p g rc cw sl lc ss rf ie) s = .next (complete p .badArgument false [] s))

/-- R5 and R7: LINE ENABLE and GROUP ENABLE set the enable named; a line in DISABLED, IDLE or BUSIED then stands by its
effective enable and its readiness; every other enable, and the tables, stand. A line, a group or an on/off word out of
range is refused with BAD_ARGUMENT (R188). -/
def Obligations.EnablesSetAndLinesFollow : Prop :=
  (∀ (p : PortId) (n on : Word) (s : State), on.toNat ≤ 1 →
    (∀ i : LineId, i.val = n.toNat → s.running p (.lineEnable p n on) →
      ∃ t : State, exec (.lineEnable p n on) s = .next t ∧ (t.port p).answered p .ok false [] ∧
        (∀ j : LineId, (t.line j).enable = if j = i then on == 1 else (s.line j).enable) ∧
        (∀ j : LineId, (s.line j).state = .disabled ∨ (s.line j).state = .idle ∨ (s.line j).state = .busied →
          (t.line j).state = restState (t.effEnable j) (t.ready j)) ∧
        t.groups = s.groups ∧ s.sameTables t ∧ t.hold = s.hold ∧ t.watch.down = s.watch.down) ∧
    (∀ g : Fin 4, g.val = n.toNat → s.running p (.groupEnable p n on) →
      ∃ t : State, exec (.groupEnable p n on) s = .next t ∧ (t.port p).answered p .ok false [] ∧
        (∀ k : Fin 4, (t.group k) = if k = g then { s.group k with enable := on == 1 } else s.group k) ∧
        (∀ j : LineId, (t.line j).enable = (s.line j).enable) ∧
        (∀ j : LineId, (s.line j).state = .disabled ∨ (s.line j).state = .idle ∨ (s.line j).state = .busied →
          (t.line j).state = restState (t.effEnable j) (t.ready j)) ∧
        s.sameTables t ∧ t.hold = s.hold ∧ t.watch.down = s.watch.down) ∧
    (32 ≤ n.toNat → s.running p (.lineEnable p n on) →
      exec (.lineEnable p n on) s = .next (complete p .badArgument false [] s)) ∧
    (4 ≤ n.toNat → s.running p (.groupEnable p n on) →
      exec (.groupEnable p n on) s = .next (complete p .badArgument false [] s))) ∧
  (∀ (p : PortId) (n on : Word) (s : State), 2 ≤ on.toNat →
    (s.running p (.lineEnable p n on) →
      exec (.lineEnable p n on) s = .next (complete p .badArgument false [] s)) ∧
    (s.running p (.groupEnable p n on) →
      exec (.groupEnable p n on) s = .next (complete p .badArgument false [] s)))

/-- R8: a line whose effective enable goes off, by LINE ENABLE or by its group's GROUP ENABLE, enters HANGUP from RINGING,
ANSWERING, SPEED and SIGNON; in SESSION its open session has a close decision with reason LINE_DISABLED, its account work
PENDING and asked for, a CLOSE mark is placed, and the line is in CLOSING. The sessions of a group close in line order,
which is the model's choice (log entry 34). No other line's session changes. -/
def Obligations.DisableEndsCallsAndSessions : Prop :=
  (∀ (p : PortId) (n : Word) (i : LineId) (s : State), i.val = n.toNat → s.running p (.lineEnable p n 0) →
    s.effEnable i = true →
    ∃ t : State, exec (.lineEnable p n 0) s = .next t ∧ (t.line i).enable = false ∧
      ((s.line i).state = .ringing ∨ (s.line i).state = .answering ∨ (s.line i).state = .speed ∨
          (s.line i).state = .signOn →
        (t.line i).state = .hangup ∧ (t.line i).phaseTimer = some 20 ∧ (t.line i).signOn = none ∧
          (t.line i).session = none ∧ (t.line i).reserved = false ∧ t.input = s.input ∧
          ∀ e ∈ t.checkQueue, e.line ≠ i) ∧
      (∀ x : Session, (s.line i).state = .session → (s.line i).session = some x → x.state.isOpen = true →
        (t.line i).state = .closing ∧
          (t.line i).session = some { x with
            state := .closing, heldFrom := none, grace := none, closeReason := some .lineDisabled
            closeStamp := some s.clock.stamp, work := some .pending } ∧
          t.input = s.input ++ [.closeMark i x.serial .lineDisabled] ∧
          t.engine = { s.engine with closeWork := s.engine.closeWork ++ [i] } ∧ (t.line i).buffer = []) ∧
      ∀ j : LineId, j ≠ i → t.session j = s.session j) ∧
  (∀ (p : PortId) (n : Word) (g : Fin 4) (s : State), g.val = n.toNat → s.running p (.groupEnable p n 0) →
    (s.group g).enable = true →
    let goesOff := fun i : LineId => groupOf i = g ∧ (s.line i).enable = true
    let closing := allLines.filter fun i =>
      decide (goesOff i) && (s.line i).state == .session && (s.session i).any (·.state.isOpen)
    ∃ t : State, exec (.groupEnable p n 0) s = .next t ∧ (t.group g).enable = false ∧
      (∀ i : LineId, goesOff i → (s.line i).state = .ringing ∨ (s.line i).state = .answering ∨
          (s.line i).state = .speed ∨ (s.line i).state = .signOn →
        (t.line i).state = .hangup ∧ (t.line i).phaseTimer = some 20 ∧ (t.line i).signOn = none ∧
          (t.line i).session = none ∧ (t.line i).reserved = false ∧ ∀ e ∈ t.checkQueue, e.line ≠ i) ∧
      (∀ (i : LineId) (x : Session), goesOff i → (s.line i).state = .session → s.session i = some x →
        x.state.isOpen = true →
        (t.line i).state = .closing ∧ (t.line i).buffer = [] ∧
          t.session i = some { x with
            state := .closing, heldFrom := none, grace := none, closeReason := some .lineDisabled
            closeStamp := some s.clock.stamp, work := some .pending }) ∧
      (∀ i : LineId, ¬ goesOff i → t.session i = s.session i) ∧
      t.input = s.input ++ closing.filterMap (fun i =>
        (s.session i).map fun x => .closeMark i x.serial .lineDisabled) ∧
      t.engine = { s.engine with closeWork := s.engine.closeWork ++ closing } ∧ t.accounts = s.accounts)

/-- R21 to R23: a reported stuck carrier or stuck ring takes a line to FAULTED and latches LINE_FAULT; CLEAR FAULT takes
it out by its enable and readiness, and is refused with LINE_STATE elsewhere. No other line changes. The model's
form in it: log entry 6. -/
def Obligations.FaultsAreEnteredAndCleared : Prop :=
  (∀ (i : LineId) (s : State), s.mainPower = true → s.tPort.starting = false →
    ((s.line i).reports.stuckCarrier = true → (s.line i).state = .idle ∨ (s.line i).state = .busied →
      ∃ t : State, exec (.stuckCarrier i) s = .next t ∧ (t.line i).state = .faulted ∧
        (t.line i).fault = .stuckCarrier ∧ s.sameLinesBut t i ∧
        t.tPort = { s.tPort with latches := s.tPort.latches ||| bitWord TCause.lineFault.bit }) ∧
    ((s.line i).reports.stuckRing = true →
      (s.line i).state = .idle ∨ (s.line i).state = .busied ∨ (s.line i).state = .ringing →
      ∃ t : State, exec (.ringStuck i) s = .next t ∧ (t.line i).state = .faulted ∧
        (t.line i).fault = .ringStuck ∧ (t.line i).ringCount = 0 ∧ (t.line i).ringGap = none ∧
        s.sameLinesBut t i ∧
        t.tPort = { s.tPort with latches := s.tPort.latches ||| bitWord TCause.lineFault.bit })) ∧
  (∀ (p : PortId) (n : Word) (s : State), s.running p (.clearFault p n) →
    (∀ i : LineId, i.val = n.toNat → (s.line i).state = .faulted →
      exec (.clearFault p n) s = .next (complete p .ok false [] (s.setLine i
        { s.line i with
          fault := .none, carrierRun := 0, activeRun := 0
          reports := { (s.line i).reports with stuckCarrier := false, stuckRing := false }
          state := if s.effEnable i = false then .disabled else if s.ready i then .idle else .busied }))) ∧
    (∀ i : LineId, i.val = n.toNat → (s.line i).state ≠ .faulted →
      exec (.clearFault p n) s = .next (complete p .lineState false [] s)) ∧
    (32 ≤ n.toNat → exec (.clearFault p n) s = .next (complete p .badArgument false [] s)))

/-- R24 and R25: LINE TEST on a line in DISABLED, IDLE, BUSIED or FAULTED puts it in TEST and sends the first character
of slot 14 (an empty slot ends the test at once); the port stays BUSY. When the looped copy of the last character has
been judged, LINE_TEST_END completes the command with the two counts, and the line leaves TEST; so it does while a
RESTART waits for its access at the A port (log entry 40). A line or a speed out of range is refused with BAD_ARGUMENT
(R24). The model's form in it: log entry 24. -/
def Obligations.LineTestRunsSlotFourteen : Prop :=
  (∀ (n sp : Word) (i : LineId) (k : Fin 8) (s : State), i.val = n.toNat → k.val = sp.toNat →
    s.running .t (.lineTest .t n sp) →
    (∀ (c : Byte) (rest : List Byte), s.slots.get 14 = c :: rest → (s.line i).state.acceptsTest = true →
      ∃ t : State, exec (.lineTest .t n sp) s = .next t ∧ (t.line i).state = .test ∧
        (t.line i).test = some ⟨(s.line i).state, k, 1, 0, [c]⟩ ∧ (t.line i).txChar = some c ∧
        t.tPort.state = .busy ∧ t.tPort.job = some ⟨.testing, .lineTest .t n sp⟩ ∧ s.sameLinesBut t i) ∧
    (s.slots.get 14 = [] → (s.line i).state.acceptsTest = true →
      ∃ t : State, exec (.lineTest .t n sp) s = .next t ∧ t.tPort.answered .t .ok false [0, 0] ∧
        (t.line i).test = none ∧ s.sameLinesBut t i ∧
        (t.line i).state =
          if (s.line i).state = .faulted then .faulted else restState (s.effEnable i) (s.ready i)) ∧
    ((s.line i).state.acceptsTest = false →
      exec (.lineTest .t n sp) s = .next (complete .t .lineState false [] s))) ∧
  (∀ (i : LineId) (q : TestPart) (s : State), s.mainPower = true → s.tPort.starting = false →
    (s.line i).state = .test → (s.line i).test = some q → q.awaiting = [] → s.continued (s.line i) = none →
    ∃ t : State, exec (.lineTestEnd i) s = .next t ∧
      t.tPort.answered .t .ok false [w16 q.sent, w16 q.mismatches] ∧ (t.line i).test = none ∧ s.sameLinesBut t i ∧
      (t.line i).state =
        if q.earlier = .faulted ∧ (q.sent = 0 ∨ q.mismatches ≠ 0) then .faulted
        else restState (s.effEnable i) (s.ready i)) ∧
  (∀ (n sp : Word) (s : State), s.running .t (.lineTest .t n sp) → 32 ≤ n.toNat ∨ 8 ≤ sp.toNat →
    exec (.lineTest .t n sp) s = .next (complete .t .badArgument false [] s))

/-- R10 to R12 and R169: a qualified ring is counted in IDLE and RINGING and restarts the ring-gap timer; at the group
ring count the line asks for a reservation, and is in ANSWERING on a grant and BUSIED on a refusal; an expiry of the
ring-gap timer returns it to IDLE. Elsewhere a qualified ring is ignored. The model's forms in it: log entries 5 and
6. -/
def Obligations.RingsCountAndAnswer : Prop :=
  ∀ (i : LineId) (s : State), s.mainPower = true →
    let count := if (s.line i).state = .ringing then (s.line i).ringCount + 1 else 1
    let quiet := { s.line i with reports := { (s.line i).reports with ring := false } }
    ((s.line i).reports.ring = true → (s.line i).state = .idle ∨ (s.line i).state = .ringing →
      (count < (s.lineGroup i).ringCount →
        exec (.qualifiedRing i) s =
          .next (s.setLine i { quiet with state := .ringing, ringCount := count, ringGap := some 80 })) ∧
      ((s.lineGroup i).ringCount ≤ count → s.billing.records.length + s.billing.reservations < 96 →
        ∃ t : State, exec (.qualifiedRing i) s = .next t ∧
          t.line i = { quiet with
            state := .answering, reserved := true, ringCount := 0, ringGap := none, lossCounter := 0
            speedAttempts := 0, phaseTimer := some ((s.lineGroup i).carrierWait * 10) } ∧
          t.billing = { s.billing with reservations := s.billing.reservations + 1 } ∧
          (∀ j : LineId, j ≠ i → t.line j = (s.line j).rejudge (t.effEnable j) (t.ready j)) ∧
          t = { s with lines := t.lines, billing := t.billing }) ∧
      ((s.lineGroup i).ringCount ≤ count → 96 ≤ s.billing.records.length + s.billing.reservations →
        exec (.qualifiedRing i) s =
          .next (s.setLine i { quiet with state := .busied, ringCount := 0, ringGap := none }))) ∧
    ((s.line i).reports.ring = true → (s.line i).state ≠ .idle → (s.line i).state ≠ .ringing →
      exec (.qualifiedRing i) s = .next (s.setLine i quiet)) ∧
    ((s.line i).state = .ringing → (s.line i).ringGap = some 0 →
      exec (.ringGapExpiry i) s = .next (s.setLine i { s.line i with state := .idle, ringGap := none, ringCount := 0 }))

/-- R13, R15 to R17: the first scan with carrier starts the speed wait; a measurement that matches no speed is a failed
attempt, the third of which ends the call; one that matches fixes the speed and opens the dialog of R48 with the group
sign-on limit, GREETING and ID_PROMPT on its output list, of which the transmitter begins the first that is not empty
(an empty slot sends nothing, log entry 37); the receiver listens again after 100 ms of mark. A measurement matches a
speed of the set exactly when it lies in the speed's band of Table 1-4, so the bands are disjoint. The model's forms in
it: log entries 6 and 7. -/
def Obligations.SpeedIsMeasured : Prop :=
  (∀ (i : LineId) (s : State), s.mainPower = true →
    ((s.line i).state = .answering → (s.line i).reports.present = true →
      exec (.carrierPresent i) s = .next (s.setLine i
        { s.line i with
          state := .speed, phaseTimer := some 300, speedAttempts := 0, lossCounter := 0, markWait := false
          reports := { (s.line i).reports with present := false } })) ∧
    exec (.speedMarkWaitEnd i) s = .next (s.setLine i { s.line i with markWait := false }) ∧
    ((s.line i).state = .speed → (s.line i).markWait = false → ∀ m : Nat,
      (matchSpeed (s.lineGroup i).speedSet (min m 4095) = none → (s.line i).speedAttempts < 2 →
        exec (.speedMeasurement i m) s = .next (s.setLine i
          { s.line i with speedAttempts := (s.line i).speedAttempts + 1, markWait := true })) ∧
      (matchSpeed (s.lineGroup i).speedSet (min m 4095) = none → 2 ≤ (s.line i).speedAttempts →
        ∃ t : State, exec (.speedMeasurement i m) s = .next t ∧ (t.line i).state = .hangup ∧
          (t.line i).reserved = false) ∧
      (∀ k : Fin 8, matchSpeed (s.lineGroup i).speedSet (min m 4095) = some k →
        let sent := ([0, 1] : List (Fin 16)).dropWhile fun j => (s.slots.get j).isEmpty
        exec (.speedMeasurement i m) s = .next (s.setLine i
          { s.line i with
            state := .signOn, speed := some k, phaseTimer := none, markWait := true
            txChar := sent.head?.bind fun j => (s.slots.get j).head?
            txItem := none
            signOn := some
              { phase := .idEntry, entry := [], user := none, check := none, attempts := 0
                timer := (s.lineGroup i).signOnLimit * 10, output := sent.map fun j => .slot j.val
                outPos := if sent = [] then 0 else 1 } })))) ∧
  (∀ (set : BitVec 8) (m : Nat) (k : Fin 8),
    (matchSpeed set m = some k ↔
      set.getLsbD k.val = true ∧
        ([(2444, 3142), (1792, 2304), (896, 1152), (448, 576), (224, 288), (112, 144), (56, 72), (28, 36)]
          : List (Nat × Nat))[k.val]?.any (fun b => decide (b.1 ≤ m) && decide (m ≤ b.2)) = true))

/-- R20, R170, with R13, R17 and R49: the expiry of the carrier wait, of the speed wait or of the sign-on timer takes
the line to HANGUP: the guard of 2 s runs, nothing is left to send, the line is off the check request queue (the
request made for it stands, R57), and a held reservation goes back to the store. No input entry, account or other
line's call changes. When the guard expires, the line goes by its effective enable and its readiness. The model's forms
in it: log entries 5 and 41. -/
def Obligations.ExpiriesEndCalls : Prop :=
  (∀ (i : LineId) (c : Instr) (s : State), s.mainPower = true →
    (c = .carrierWaitExpiry i ∧ (s.line i).state = .answering ∧ (s.line i).phaseTimer = some 0) ∨
      (c = .speedWaitExpiry i ∧ (s.line i).state = .speed ∧ (s.line i).phaseTimer = some 0) ∨
      (c = .signOnTimerExpiry i ∧ (s.line i).state = .signOn ∧ (s.line i).signOn.any (·.timer == 0) = true) →
    ∃ t : State, exec c s = .next t ∧
      t.line i = { s.line i with
        state := .hangup, ringGap := none, ringCount := 0, signOn := none, speed := none, phaseTimer := some 20
        session := none, markWait := false, buffer := [], notice := false, messages := [], txChar := none
        txItem := none, closingSlot := none, reserved := false } ∧
      t.billing = { s.billing with
        reservations := if (s.line i).reserved then s.billing.reservations - 1 else s.billing.reservations } ∧
      t.checkQueue = s.checkQueue.filter (fun e => e.line != i) ∧
      (∀ j : LineId, j ≠ i → t.line j = (s.line j).rejudge (t.effEnable j) (t.ready j)) ∧
      t.arbiter = { s.arbiter with
        checkerAsked := s.arbiter.checkerAsked || (s.checkQueue.any (fun e => e.line == i) && s.asks .checker) } ∧
      t = { s with lines := t.lines, billing := t.billing, checkQueue := t.checkQueue, arbiter := t.arbiter }) ∧
  (∀ (i : LineId) (s : State), s.mainPower = true → (s.line i).state = .hangup → (s.line i).phaseTimer = some 0 →
    exec (.hangupGuardExpiry i) s = .next (s.setLine i
      { s.line i with
        phaseTimer := none
        state := if s.effEnable i = false then .disabled else if s.ready i then .idle else .busied }))

/-- R9, R13, R14, R21 and R22: what one scan leaves in each line's samplers, what it reports, and that a tenth of a
second is taken from every running timer of the operating plane; every line state and session, and everything outside
the lines and the timers, stands. The model's forms in it: log entries 5 and 6. -/
def Obligations.ScanFeedsTheSamplers : Prop :=
  ∀ (ring carrier : BitVec 32) (s : State), s.mainPower = true →
    let tenth := fun timer : Timer => timer.map fun n => n - 1
    ∃ t : State, exec (.scan ring carrier) s = .next t ∧
      (∀ i : LineId,
        let l := s.line i
        let u := t.line i
        u.activeRun = (if ring.getLsbD i.val then min (l.activeRun + 1) 80 else 0) ∧
        u.inactiveRun = (if ring.getLsbD i.val then 0 else min (l.inactiveRun + 1) 5) ∧
        (u.reports.ring = true ↔ ring.getLsbD i.val = true ∧ l.armed = true ∧ l.activeRun = 1) ∧
        u.armed = (if ring.getLsbD i.val then l.armed && !u.reports.ring else l.armed || decide (4 ≤ l.inactiveRun)) ∧
        u.carrierRun = (if carrier.getLsbD i.val = true ∧ (l.state = .idle ∨ l.state = .busied) then
          min (l.carrierRun + 1) 100 else 0) ∧
        (u.reports.stuckCarrier = true ↔ u.carrierRun = 100) ∧
        (u.reports.stuckRing = true ↔
          (l.state = .idle ∨ l.state = .busied ∨ l.state = .ringing) ∧ u.activeRun = 80) ∧
        (u.reports.present = true ↔ l.state = .answering ∧ carrier.getLsbD i.val = true) ∧
        (if l.state = .speed ∨ l.state = .signOn ∨ l.state = .session ∨ l.state = .closing then
          (carrier.getLsbD i.val = true → u.lossCounter = 0 ∧ u.reports.loss = false) ∧
          (carrier.getLsbD i.val = false →
            ((s.lineGroup i).lossCount ≤ l.lossCounter + 1 → u.lossCounter = 0 ∧ u.reports.loss = true) ∧
            (l.lossCounter + 1 < (s.lineGroup i).lossCount →
              u.lossCounter = l.lossCounter + 1 ∧ u.reports.loss = false))
        else u.lossCounter = l.lossCounter ∧ u.reports.loss = false) ∧
        u = { l with
          activeRun := u.activeRun, inactiveRun := u.inactiveRun, armed := u.armed, carrierRun := u.carrierRun
          lossCounter := u.lossCounter, reports := u.reports, ringGap := tenth l.ringGap
          phaseTimer := tenth l.phaseTimer, signOn := l.signOn.map fun q => { q with timer := q.timer - 1 } }) ∧
      t = { s with
        lines := t.lines, hold := { s.hold with timer := tenth s.hold.timer }
        watch := { s.watch with
          timer := tenth s.watch.timer, holdDownTimer := tenth s.watch.holdDownTimer } }

/-- R14: a carrier loss in SPEED or SIGNON ends the call at once; in SESSION it is a close decision with reason CARRIER
whose account work is PENDING, and the line stays where it is; in SESSION with the session already in CLOSING it changes
nothing (R147); in CLOSING it ends the message, and the line enters HANGUP if the account work is made, or waits for the
end of that work (R146). The model's form in it: log entry 6. -/
def Obligations.CarrierLossEndsCallOrSession : Prop :=
  ∀ (i : LineId) (s : State), s.mainPower = true → (s.line i).reports.loss = true →
    ∃ t : State, exec (.carrierLoss i) s = .next t ∧
      ((s.line i).state = .speed ∨ (s.line i).state = .signOn →
        (t.line i).state = .hangup ∧ (t.line i).reserved = false ∧ t.input = s.input) ∧
      (∀ x : Session, (s.line i).state = .session → (s.line i).session = some x → x.state.isOpen = true →
        (t.line i).state = .session ∧
          (t.line i).session = some { x with
            state := .closing, heldFrom := none, grace := none, closeReason := some .carrier
            closeStamp := some s.clock.stamp, work := some .pending } ∧
          t.input = s.input ++ [.closeMark i x.serial .carrier] ∧ s.sameLinesBut t i ∧
          t.engine = { s.engine with closeWork := s.engine.closeWork ++ [i] } ∧
          (t.line i).buffer = [] ∧ (t.line i).messages = [] ∧ t.accounts = s.accounts ∧ t.billing = s.billing) ∧
      (∀ x : Session, (s.line i).state = .session → (s.line i).session = some x → x.state = .closing →
        t = s.setLine i { s.line i with reports := { (s.line i).reports with loss := false } }) ∧
      ((s.line i).state = .closing → (s.line i).session.any (·.work == some .pending) = false →
        (t.line i).state = .hangup ∧ (t.line i).session = none ∧ t.input = s.input) ∧
      ((s.line i).state = .closing → (s.line i).session.any (·.work == some .pending) = true →
        t = s.setLine i { s.line i with
          reports := { (s.line i).reports with loss := false }, txChar := none, txItem := none, buffer := []
          messages := [], notice := false, closingSlot := none })


/-! ### Character transport (chapter 2) -/

/-- R35, R39 and R58: TAKE INPUT removes up to the maximum from the head of the input queue, returns them oldest first
with their number, and clears every waiting-for-room mark if it took any, at which a free table may be granted to the
checker (R57, R94); READ SPACE returns the space set in ascending line order and empties it. The model's form in it:
log entry 2. -/
def Obligations.TakeInputAndReadSpaceDrain : Prop :=
  (∀ (p : PortId) (m : Word) (s : State), s.running p (.takeInput p m) →
    (1 ≤ m.toNat → m.toNat ≤ 32 →
      exec (.takeInput p m) s = .next (complete p .ok false
        (w16 (min m.toNat s.input.length) :: (s.input.take m.toNat).flatMap InputEntry.words)
        (if s.input = [] then s else arbitrate { s with
          input := s.input.drop m.toNat
          checkQueue := s.checkQueue.map fun e => { e with waiting := false } }))) ∧
    (m.toNat = 0 ∨ 32 < m.toNat → exec (.takeInput p m) s = .next (complete p .badArgument false [] s))) ∧
  (∀ (p : PortId) (s : State), s.running p (.readSpace p) →
    ∃ (members : List LineId) (lines : Bank LineRec 32), members.Pairwise (· < ·) ∧
      (∀ i : LineId, i ∈ members ↔ (s.line i).inSpaceSet = true) ∧
      (∀ i : LineId, lines.get i = { s.line i with inSpaceSet := false }) ∧
      exec (.readSpace p) s = .next (complete p .ok false
        (w16 members.length :: members.map fun i => w16 i.val) { s with lines := lines }))

/-- R37 and R42: SEND appends what fits to the buffer of the session whose serial it names, and answers the accepted
count; what does not fit is discarded, with CLAMPED and the notice armed. While a character is in progress that is all
it changes; an idle transmitter with nothing else to send takes the first character at once (log entry 7). SEND is
refused with STALE without such a session, and with BAD_ARGUMENT for a line or a count out of range. -/
def Obligations.SendAppendsWhatFits : Prop :=
  ∀ (p : PortId) (n sr c : Word) (cs : List Byte) (s : State), s.running p (.send p n sr c cs) →
    (∀ (i : LineId) (x : Session), i.val = n.toNat → 1 ≤ c.toNat → c.toNat ≤ 32 → cs.length = c.toNat →
      (s.line i).state = .session → (s.line i).session = some x → x.state = .metered ∨ x.state = .grace →
      x.serial = sr.toNat → sr ≠ 0 →
      let free := 128 - (s.line i).buffer.length
      let more := { s.line i with
        buffer := (s.line i).buffer ++ cs.take free, notice := (s.line i).notice || decide (free < c.toNat) }
      ((s.line i).txChar ≠ none →
        exec (.send p n sr c cs) s = .next (complete p .ok (decide (free < c.toNat)) [w16 (min free c.toNat)]
          (s.setLine i more))) ∧
      ((s.line i).txChar = none → (s.line i).txItem = none → (s.line i).messages = [] → (s.line i).buffer = [] →
        ∃ t : State, exec (.send p n sr c cs) s = .next (complete p .ok false [c] t) ∧
          (t.line i).txChar = cs.head? ∧ (t.line i).buffer = cs.tail ∧ s.sameLinesBut t i ∧
          t.input = s.input ∧ s.sameTables t)) ∧
    (∀ i : LineId, i.val = n.toNat → 1 ≤ c.toNat → c.toNat ≤ 32 →
      (s.line i).state ≠ .session ∨ sr = 0 ∨
        (∀ x : Session, (s.line i).session = some x → x.state.isCharged = false ∨ x.serial ≠ sr.toNat) →
      exec (.send p n sr c cs) s = .next (complete p .stale false [] s)) ∧
    (32 ≤ n.toNat ∨ c.toNat = 0 ∨ 32 < c.toNat →
      exec (.send p n sr c cs) s = .next (complete p .badArgument false [] s))

/-- R41: WRITE MESSAGE starts the staging area anew at offset 0, appends to it at the offset that continues it, refuses
any other offset and empties it, and installs the slot whole at the final part. -/
def Obligations.WriteMessageStagesAndInstalls : Prop :=
  ∀ (p : PortId) (sl : Byte) (fin : Bool) (o c : Word) (cs : List Byte) (s : State),
    s.running p (.writeMessage p sl fin o c cs) →
    (∀ k : Fin 16, k.val = sl.toNat → c.toNat ≤ 32 → o.toNat + c.toNat ≤ 128 →
      let accepted := fun (text : List Byte) =>
        if fin then { s with slots := s.slots.set k text, stagingSlot := none, staged := [] }
        else { s with stagingSlot := some k.val, staged := text }
      (o = 0 → exec (.writeMessage p sl fin o c cs) s = .next (complete p .ok false [] (accepted cs))) ∧
      (o ≠ 0 → s.stagingSlot = some k.val → s.staged.length = o.toNat →
        exec (.writeMessage p sl fin o c cs) s = .next (complete p .ok false [] (accepted (s.staged ++ cs)))) ∧
      (o ≠ 0 → s.stagingSlot ≠ some k.val ∨ s.staged.length ≠ o.toNat →
        exec (.writeMessage p sl fin o c cs) s =
          .next (complete p .badArgument false [] { s with stagingSlot := none, staged := [] }))) ∧
    (16 ≤ sl.toNat ∨ 32 < c.toNat ∨ 128 < o.toNat + c.toNat →
      exec (.writeMessage p sl fin o c cs) s = .next (complete p .badArgument false [] s))

/-- R29, R31, R32 and R34: in a METERED or GRACE session a character or a break is an idle event and is placed at the tail
of the input queue if S + 8 entries stay free, a CHAR carrying and clearing the overrun flag; else, and for a HELD
session, it is lost and the overrun flag is set. A session that is closed discards it. -/
def Obligations.ReceivedCharactersAreOffered : Prop :=
  ∀ (i : LineId) (d : Byte) (stop : Bool) (x : Session) (s : State), s.mainPower = true →
    (s.line i).state = .session → (s.line i).session = some x →
    let room := s.input.length + 1 + s.openCount + 8 ≤ 256
    let active := { s.line i with session := some { x with activity := true } }
    let input := s.tPort.latch TCause.input.bit
    (x.state = .metered ∨ x.state = .grace →
      (room →
        exec (.characterReceived i d stop) s = .next { s.setLine i { active with overrun := false } with
          input := s.input ++ [.char i d (s.line i).overrun (!stop)], tPort := input } ∧
        exec (.breakReceived i) s = .next { s.setLine i active with input := s.input ++ [.brk i], tPort := input }) ∧
      (¬ room →
        exec (.characterReceived i d stop) s = .next (s.setLine i { active with overrun := true }) ∧
        exec (.breakReceived i) s = .next (s.setLine i { active with overrun := true }))) ∧
    (x.state = .held →
      exec (.characterReceived i d stop) s = .next (s.setLine i { s.line i with overrun := true }) ∧
      exec (.breakReceived i) s = .next (s.setLine i { s.line i with overrun := true })) ∧
    (x.state = .closing →
      exec (.characterReceived i d stop) s = .next s ∧ exec (.breakReceived i) s = .next s)

/-- R38, R42 to R46, R50, R67 and R24: when a character ends, the transmitter of a line in SESSION goes on with the
item in progress, then takes the oldest message of the list, then the oldest buffer character (which may join the line
to the space set at a free space of 64), and is else idle. In CLOSING it completes a part message that LOGOFF left in
progress, sends the buffer and the closing message, and with nothing left, an empty closing slot included, the line
enters HANGUP once the account work of the close is made (R19). In SIGNON it sends the output list, item by item, and
with nothing left in REFUSING the line enters HANGUP. In TEST it sends slot 14 and counts, and each looped character is
judged against the oldest one sent. The model's forms in it: log entries 8, 24 and 37. -/
def Obligations.TransmitterChoosesInOrder : Prop :=
  (∀ (i : LineId) (s : State), s.mainPower = true → (s.line i).txChar ≠ none →
    let l := s.line i
    let text : OutItem → List Byte := fun it =>
      match it with
      | .slot k => s.slotText k
      | .echo c => [c]
      | .erase => [0x08, 0x20, 0x08]
    (l.state = .session →
      (∀ (c : Byte) (it : OutItem) (n : Nat), s.continued l = some (c, it, n) →
        exec (.characterSent i) s = .next (s.setLine i { l with txChar := some c, txItem := some (it, n + 1) })) ∧
      (∀ (c : Byte) (text : List Byte) (k : Fin 16) (rest : List Nat), s.continued l = none →
        l.messages = k.val :: rest → s.slots.get k = c :: text →
        exec (.characterSent i) s =
          .next (s.setLine i { l with txChar := some c, txItem := some (.slot k.val, 1), messages := rest })) ∧
      (∀ (c : Byte) (rest : List Byte), s.continued l = none → l.messages = [] → l.buffer = c :: rest →
        let joins := l.notice && decide (rest.length = 64)
        ∃ t : State, exec (.characterSent i) s = .next t ∧ s.sameLinesBut t i ∧ t.input = s.input ∧
          t.line i = { l with
            txChar := some c, txItem := none, buffer := rest, notice := l.notice && !joins
            inSpaceSet := l.inSpaceSet || joins
            session := l.session.map fun x => { x with activity := x.activity || (s.lineGroup i).idleTx } } ∧
          t.tPort = if joins then s.tPort.latch TCause.space.bit else s.tPort) ∧
      (s.continued l = none → l.messages = [] → l.buffer = [] →
        exec (.characterSent i) s = .next (s.setLine i { l with txChar := none, txItem := none }))) ∧
    (l.state = .closing → ∀ (c : Byte) (it : OutItem) (n : Nat), s.continued l = some (c, it, n) →
      exec (.characterSent i) s = .next (s.setLine i { l with txChar := some c, txItem := some (it, n + 1) })) ∧
    (l.state = .closing → s.continued l = none →
      (∀ (c : Byte) (rest : List Byte), l.buffer = c :: rest →
        exec (.characterSent i) s = .next (s.setLine i { l with txChar := some c, txItem := none, buffer := rest })) ∧
      (∀ (c : Byte) (text : List Byte) (k : Fin 16), l.buffer = [] → l.closingSlot = some k.val →
        s.slots.get k = c :: text →
        exec (.characterSent i) s =
          .next (s.setLine i { l with txChar := some c, txItem := some (.slot k.val, 1), closingSlot := none })) ∧
      (l.buffer = [] →
        l.closingSlot = none ∨ (∃ k : Fin 16, l.closingSlot = some k.val ∧ s.slots.get k = []) →
        ∃ t : State, exec (.characterSent i) s = .next t ∧ (t.line i).txChar = none ∧ (t.line i).closingSlot = none ∧
          (l.session.any (·.work == some .pending) = true → (t.line i).state = .closing ∧ s.sameLinesBut t i) ∧
          (l.session.any (·.work == some .pending) = false → (t.line i).state = .hangup ∧
            (t.line i).phaseTimer = some 20 ∧ (t.line i).session = none))) ∧
    (∀ q : SignOnPart, l.state = .signOn → l.signOn = some q →
      (∀ (c : Byte) (it : OutItem) (rest : List OutItem), q.output = it :: rest → (text it)[q.outPos]? = some c →
        exec (.characterSent i) s = .next (s.setLine i
          { l with txChar := some c, txItem := none, signOn := some { q with outPos := q.outPos + 1 } })) ∧
      (∀ (c : Byte) (cs : List Byte) (it jt : OutItem) (rest : List OutItem), q.output = it :: jt :: rest →
        (text it).length ≤ q.outPos → text jt = c :: cs →
        exec (.characterSent i) s = .next (s.setLine i
          { l with txChar := some c, txItem := none, signOn := some { q with output := jt :: rest, outPos := 1 } })) ∧
      (q.output = [] ∨ (∃ it : OutItem, q.output = [it] ∧ (text it).length ≤ q.outPos) →
        (q.phase ≠ .refusing → exec (.characterSent i) s = .next (s.setLine i
          { l with txChar := none, txItem := none, signOn := some { q with output := [], outPos := 0 } })) ∧
        (q.phase = .refusing → ∃ t : State, exec (.characterSent i) s = .next t ∧ (t.line i).state = .hangup ∧
          (t.line i).phaseTimer = some 20 ∧ (t.line i).signOn = none ∧ (t.line i).reserved = false))) ∧
    (∀ q : TestPart, l.state = .test → l.test = some q →
      (∀ (c : Byte) (it : OutItem) (n : Nat), s.continued l = some (c, it, n) →
        exec (.characterSent i) s = .next (s.setLine i
          { l with
            txChar := some c, txItem := some (it, n + 1)
            test := some { q with sent := q.sent + 1, awaiting := q.awaiting ++ [c] } })) ∧
      (s.continued l = none → exec (.characterSent i) s = .next (s.setLine i { l with txChar := none })))) ∧
  (∀ (i : LineId) (d : Byte) (stop : Bool) (q : TestPart) (s : State), s.mainPower = true →
    (s.line i).state = .test → (s.line i).test = some q →
    (q.awaiting = [] → exec (.characterReceived i d stop) s = .next s) ∧
    (∀ (c : Byte) (rest : List Byte), q.awaiting = c :: rest →
      exec (.characterReceived i d stop) s = .next (s.setLine i
        { s.line i with
          test := some { q with
            awaiting := rest
            mismatches := if stop = false ∨ d ≠ c then q.mismatches + 1 else q.mismatches } })))

/-! ### Sign-on (chapter 3) -/

/-- R51 to R55 and R66: what each character does to the entry, the phase and the user number; a passcode that passes
the local checks forms the check word and puts the line at the tail of the check request queue, at which a free table
may be granted to the checker (R57, R94), and one that does not is a bad attempt, the third of which enters REFUSING.
What each places on the sign-on output list (the echo of a digit, the erase echo, PASS_PROMPT, BAD_SIGNON and
ID_PROMPT; an echo only below 48 items, R50) is stated while a character is in progress. In CHECK_WAIT and REFUSING,
and with a framing error, the character changes nothing. The model's forms in it: log entries 2, 7, 21 and 22. -/
def Obligations.DialogEditsEntries : Prop :=
  ∀ (i : LineId) (d : Byte) (q : SignOnPart) (s : State), s.mainPower = true → (s.line i).state = .signOn →
    (s.line i).markWait = false → (s.line i).signOn = some q →
    let c := d &&& 0x7F
    let answer := fun (phase : Phase) (entry : List Byte) (user check : Option Nat) (attempts : Nat) =>
      ∃ (t : State) (r : SignOnPart), exec (.characterReceived i d true) s = .next t ∧ (t.line i).signOn = some r ∧
        (t.line i).state = .signOn ∧ r.phase = phase ∧ r.entry = entry ∧ r.user = user ∧ r.check = check ∧
        r.attempts = attempts ∧ r.timer = q.timer ∧ s.sameLinesBut t i ∧ t = { s with lines := t.lines }
    exec (.characterReceived i d false) s = .next s ∧
    (q.phase = .checkWait ∨ q.phase = .refusing → exec (.characterReceived i d true) s = .next s) ∧
    (q.phase = .idEntry →
      (0x30 ≤ c.toNat → c.toNat ≤ 0x39 →
        answer .idEntry (if q.entry.length < 6 then q.entry ++ [c] else q.entry) q.user q.check q.attempts) ∧
      (c = 0x08 ∨ c = 0x7F → answer .idEntry q.entry.dropLast q.user q.check q.attempts) ∧
      (c = 0x0D → answer .passEntry []
        (some (q.entry.foldl (fun n b => n * 10 + (b.toNat - 0x30)) 0)) q.check q.attempts) ∧
      (¬ (0x30 ≤ c.toNat ∧ c.toNat ≤ 0x39) → c ≠ 0x08 → c ≠ 0x7F → c ≠ 0x0D →
        answer .idEntry q.entry q.user q.check q.attempts)) ∧
    (q.phase = .passEntry →
      (0x21 ≤ c.toNat → c.toNat ≤ 0x7E →
        answer .passEntry (if q.entry.length < 12 then q.entry ++ [c] else q.entry) q.user q.check q.attempts) ∧
      (c = 0x08 ∨ c = 0x7F → answer .passEntry q.entry.dropLast q.user q.check q.attempts) ∧
      (¬ (0x21 ≤ c.toNat ∧ c.toNat ≤ 0x7E) → c ≠ 0x08 → c ≠ 0x7F → c ≠ 0x0D →
        answer .passEntry q.entry q.user q.check q.attempts) ∧
      (∀ u : Nat, c = 0x0D → q.user = some u →
        (u ≠ 0 → 4 ≤ q.entry.length →
          exec (.characterReceived i d true) s = .next (arbitrate { s.setLine i { s.line i with
            signOn := some { q with
              check := some (q.entry.foldl (fun h b => (h * 33 + b.toNat) % 16777216) u), entry := []
              phase := .checkWait } } with
            checkQueue := s.checkQueue ++ [⟨i, false⟩] })) ∧
        (u = 0 ∨ q.entry.length < 4 → q.attempts < 2 → answer .idEntry [] none none (q.attempts + 1)))) ∧
    -- with a character in progress nothing but the sign-on part changes: its output list too
    ((s.line i).txChar ≠ none →
      let gives := fun r : SignOnPart =>
        exec (.characterReceived i d true) s = .next (s.setLine i { s.line i with signOn := some r })
      let echo := fun it : OutItem => if q.output.length < 48 then q.output ++ [it] else q.output
      (q.phase = .idEntry →
        (0x30 ≤ c.toNat → c.toNat ≤ 0x39 →
          (q.entry.length < 6 → gives { q with entry := q.entry ++ [c], output := echo (.echo c) }) ∧
          (6 ≤ q.entry.length → gives q)) ∧
        (c = 0x08 ∨ c = 0x7F →
          (q.entry ≠ [] → gives { q with entry := q.entry.dropLast, output := echo .erase }) ∧
          (q.entry = [] → gives q)) ∧
        (¬ (0x30 ≤ c.toNat ∧ c.toNat ≤ 0x39) → c ≠ 0x08 → c ≠ 0x7F → c ≠ 0x0D → gives q) ∧
        (c = 0x0D → gives { q with
          user := some (q.entry.foldl (fun n b => n * 10 + (b.toNat - 0x30)) 0), entry := [], phase := .passEntry
          output := q.output ++ [.slot 2] })) ∧
      (q.phase = .passEntry →
        (c ≠ 0x0D → ∃ entry : List Byte, gives { q with entry := entry }) ∧
        (∀ u : Nat, c = 0x0D → q.user = some u → u = 0 ∨ q.entry.length < 4 →
          (q.attempts < 2 → gives { q with
            attempts := q.attempts + 1, user := none, check := none, entry := [], phase := .idEntry
            output := q.output ++ [.slot 3, .slot 1] }) ∧
          (2 ≤ q.attempts → gives { q with phase := .refusing, entry := [], output := q.output ++ [.slot 3] }))))

/-- R57, R60 to R63, R66 and R67: the verdict for the oldest line whose waiting-for-room mark is clear, when it does
not admit. A check word that does not match is a bad attempt, counted on an ACTIVE account alone, which is LOCKED_OUT
with LOCKOUT latched at its class's fail limit; a SUSPENDED account, and a lockout that has not passed, refuse the
caller and change no account; a lockout that has passed ends; the three tests of R62 refuse in their order; and a
verdict without room for the OPEN mark sets the waiting-for-room mark alone. The messages join the sign-on output list
while a character is in progress; an idle transmitter, whose list is empty, chooses the first character of the first of
them that is not empty at once (log entries 7 and 37), and in REFUSING with nothing to send the line enters HANGUP at
once (R67). The model's forms in it: log entries 2 and 49. -/
def Obligations.VerdictCountsAndRefuses : Prop :=
  ∀ (e : CheckEntry) (q : SignOnPart) (u h : Nat) (s : State), s.mainPower = true →
    s.nextGrant = some .checker → s.checkQueue.find? (fun e => !e.waiting) = some e →
    (s.line e.line).state = .signOn → (s.line e.line).signOn = some q → q.user = some u → q.check = some h →
    q.phase = .checkWait →
    let c := fun (a : Account) => s.classRec a.cls
    let left := s.checkQueue.filter fun f => f.line != e.line
    let l := s.line e.line
    -- the account table that the verdict leaves, the messages it places, and the sign-on part but for its output
    let gives := fun (accounts : List Account) (slots : List (Fin 16)) (r : SignOnPart) =>
      let sent := slots.dropWhile fun k => (s.slots.get k).isEmpty
      ∃ t : State, exec .verdict s = .next t ∧ t.accounts = accounts ∧ t.checkQueue = left ∧ t.input = s.input ∧
        (l.txChar ≠ none → s.sameLinesBut t e.line ∧ t.line e.line =
          { l with signOn := some { r with output := q.output ++ slots.map fun k => .slot k.val } }) ∧
        (l.txChar = none → q.output = [] → q.outPos = 0 →
          (∀ k : Fin 16, sent.head? = some k → s.sameLinesBut t e.line ∧ t.line e.line =
            { l with
              txChar := (s.slots.get k).head?, txItem := none
              signOn := some { r with output := sent.map fun k => .slot k.val, outPos := 1 } }) ∧
          (sent = [] → r.phase ≠ .refusing → s.sameLinesBut t e.line ∧ t.line e.line =
            { l with txItem := none, signOn := some { r with output := [], outPos := 0 } }) ∧
          (sent = [] → r.phase = .refusing → (t.line e.line).state = .hangup ∧ (t.line e.line).signOn = none ∧
            (t.line e.line).reserved = false))
    let bad := fun (accounts : List Account) =>
      (q.attempts < 2 → gives accounts [3, 1] { q with
        phase := .idEntry, entry := [], user := none, check := none, attempts := q.attempts + 1 }) ∧
      (2 ≤ q.attempts → gives accounts [3] { q with phase := .refusing, entry := [] })
    let refused := fun (accounts : List Account) (slot : Fin 16) => gives accounts [slot] { q with phase := .refusing }
    let counted := fun (a : Account) => s.accounts.map fun b =>
      if b.user = a.user then
        { b with
          failCount := a.failCount + 1
          state := if (c a).failLimit ≤ a.failCount + 1 then .lockedOut else b.state
          lockedUntil := if (c a).failLimit ≤ a.failCount + 1 then some (s.clock.stamp.addMinutes (c a).lockout)
            else b.lockedUntil }
      else b
    (s.account u = none → bad s.accounts) ∧
    (∀ a : Account, s.account u = some a →
      (a.check ≠ h → a.state = .active → bad (counted a) ∧
        ∃ t : State, exec .verdict s = .next t ∧ (s.hold.state = .granted ∨
          t.aPort = if (c a).failLimit ≤ a.failCount + 1 then s.aPort.latch ACause.lockout.bit else s.aPort)) ∧
      (a.check ≠ h → a.state ≠ .active → bad s.accounts) ∧
      (a.check = h → a.state = .suspended → refused s.accounts 4) ∧
      (a.check = h → a.state = .lockedOut → a.lockedUntil.any (·.le s.clock.stamp) = false → refused s.accounts 4) ∧
      (a.check = h → a.state = .active ∨ (a.state = .lockedOut ∧ a.lockedUntil.any (·.le s.clock.stamp) = true) →
        let kept := if a.state = .active then s.accounts else s.accounts.map fun b =>
          if b.user = a.user then { b with state := .active, failCount := 0, lockedUntil := none } else b
        let closed := s.tPort.vote = .closed ∨ s.aPort.vote = .closed
        let atLimit := a.limit ≤ a.openCount
        let short := a.balance - ((c a).setup : Int) ≤ -((c a).floor : Int)
        (closed → refused kept 7) ∧ (¬ closed → atLimit → refused kept 5) ∧
        (¬ closed → ¬ atLimit → short → refused kept 6) ∧
        (¬ closed → ¬ atLimit → ¬ short → 256 < s.input.length + s.openCount + 2 →
          ∃ t : State, exec .verdict s = .next t ∧ t.accounts = kept ∧ t.lines = s.lines ∧
            t.input = s.input ∧ t.checkQueue = s.checkQueue.map fun f =>
              if f.line = e.line then { f with waiting := true } else f)))

/-- R61 to R65 and R148: a verdict that admits. The line is in SESSION with a new METERED session whose serial no other
session part carries, at the rate of its class now, the line is off the check request queue and keeps its reservation;
the account changes in its fail count, last sign-on stamp and open count (and a passed lockout ends), and by the
posting of a setup charge above 0, stated where the posting exhausts no class; and the OPEN mark joins the tail of the
input queue. The model's forms in it: log entries 2, 11, 30 and 49. -/
def Obligations.VerdictAdmitsACaller : Prop :=
  ∀ (e : CheckEntry) (q : SignOnPart) (a : Account) (s : State), s.mainPower = true →
    s.nextGrant = some .checker → s.checkQueue.find? (fun e => !e.waiting) = some e →
    (s.line e.line).state = .signOn → (s.line e.line).signOn = some q → (s.line e.line).session = none →
    q.user = some a.user →
    q.check = some a.check → s.account a.user = some a →
    a.state = .active ∨ (a.state = .lockedOut ∧ a.lockedUntil.any (·.le s.clock.stamp) = true) →
    s.tPort.vote = .opened → s.aPort.vote = .opened → a.openCount < a.limit →
    -((s.classRec a.cls).floor : Int) < a.balance - ((s.classRec a.cls).setup : Int) →
    s.input.length + s.openCount + 2 ≤ 256 →
    ∃ (t : State) (n : Nat) (y : Session), exec .verdict s = .next t ∧
      (t.line e.line).state = .session ∧ (t.line e.line).session = some y ∧ (t.line e.line).signOn = none ∧
      (t.line e.line).reserved = (s.line e.line).reserved ∧ (t.line e.line).speed = (s.line e.line).speed ∧
      y.serial = n ∧ y.user = a.user ∧ y.cls = a.cls ∧ y.state = .metered ∧ y.openStamp = s.clock.stamp ∧
      y.lastMetered = s.clock.stamp ∧ y.rate = s.rateAt e.line a.cls s.clock ∧ y.residue = 0 ∧
      y.connectSeconds = 0 ∧ y.connectUnits = 0 ∧ y.heldSeconds = 0 ∧ y.resourceUnits = 0 ∧ y.unpostedUnits = 0 ∧
      y.unpostedSeconds = 0 ∧ y.setupUnits = (s.classRec a.cls).setup ∧ y.closeReason = none ∧
      t.serialCounter = nextCounter n ∧
      (∀ (j : LineId) (z : Session), j ≠ e.line → t.session j = some z → z.serial ≠ n) ∧
      (∀ f ∈ t.checkQueue, f.line ≠ e.line) ∧
      (let setup := (s.classRec a.cls).setup
      setup = 0 ∨ (∀ c : Fin 4, -((s.classRec c).floor : Int) < max (-8388608) (a.balance - setup)) →
        t.input = s.input ++ [.openMark e.line n a.user] ∧
        t.accounts = s.accounts.map fun b =>
          if b.user = a.user then
            { b with
              state := if a.state = .lockedOut then .active else b.state
              lockedUntil := if a.state = .lockedOut then none else b.lockedUntil
              failCount := 0
              lastSignOn := some s.clock.stamp, openCount := b.openCount + 1
              balance := if setup = 0 then b.balance else max (-8388608) (b.balance - setup)
              periodUnits := if setup = 0 then b.periodUnits else min (b.periodUnits + setup) 4294967295 }
          else b)

/-! ### Reading without change (sections 1.11, 5.7, 6.2, 7.7, 8.4, 9.5) -/

/-- R26, R110, R118, R144, R155, R176: each of the six reads completes with the words of section 11.4 and changes
nothing else; a line out of range is refused with BAD_ARGUMENT, a line with no session part with NOT_FOUND, and an
empty billing store answers EMPTY with the three counts. The model's forms in it: log entries 23 and 44. -/
def Obligations.ReadsAnswerAndChangeNothing : Prop :=
  ∀ (p : PortId) (s : State),
    (∀ n : Word, s.running p (.readLine p n) →
      (∀ i : LineId, i.val = n.toNat → exec (.readLine p n) s = .next (complete p .ok false
        [w16 (s.line i).state.code,
          w16 (wBit (s.line i).enable 0 + wBit (s.lineGroup i).enable 1 + wBit (s.line i).reserved 2),
          ((s.line i).speed.map fun k => w16 k.val).getD 0xFFFF,
          w16 ((s.line i).fault.code * 256 + (s.line i).ringCount),
          ((s.line i).signOn.map fun q => w16 q.phase.code).getD 0xFFFF,
          ((s.session i).map fun x => w16 x.serial).getD 0xFFFF,
          ((s.session i).map fun x => w16 x.state.code).getD 0xFFFF] s)) ∧
      (32 ≤ n.toNat → exec (.readLine p n) s = .next (complete p .badArgument false [] s))) ∧
    (∀ n : Word, s.running p (.readSession p n) →
      (∀ (i : LineId) (x : Session), i.val = n.toNat → s.session i = some x →
        exec (.readSession p n) s = .next (complete p .ok false (sessionWords x) s)) ∧
      (∀ i : LineId, i.val = n.toNat → s.session i = none →
        exec (.readSession p n) s = .next (complete p .notFound false [] s)) ∧
      (32 ≤ n.toNat → exec (.readSession p n) s = .next (complete p .badArgument false [] s))) ∧
    (s.running p (.readClock p) → exec (.readClock p) s = .next (complete p .ok false
      [w16 (s.clock.year * 256 + s.clock.month), w16 (s.clock.day * 256 + s.clock.hour),
        w16 (s.clock.minute * 256 + s.clock.second), w16 (s.clock.weekday + if s.clockInvalid then 32768 else 0)] s)) ∧
    (s.running p (.holdStatus p) → exec (.holdStatus p) s = .next (complete p .ok false
      [w16 s.hold.state.code,
        if s.hold.state = .granted then w16 s.hold.timer.secondsLeft
          else if s.hold.state = .requested then w16 (s.hold.limit.getD 0) else 0,
        w16 s.deferred.length, w16 (s.deferred.filter (·.origin == .tCharge)).length,
        w16 (allLines.filter fun i => (s.session i).any fun x => decide (0 < x.unpostedUnits)).length] s)) ∧
    (s.running p (.watchStatus p) → exec (.watchStatus p) s = .next (complete p .ok false
      [w16 s.watch.window, w16 s.watch.holdDownLimit, if s.watch.down then 1 else 0, w16 s.watch.timer.secondsLeft,
        w16 s.watch.holdDownTimer.secondsLeft,
        w16 (allLines.filter fun i => (s.session i).any (·.state == .held)).length] s)) ∧
    (s.running p (.peekBilling p) →
      let counts := [w16 s.billing.records.length, w16 s.billing.reservations, w16 s.billing.sequence]
      (s.billing.records = [] → exec (.peekBilling p) s = .next (complete p .empty false counts s)) ∧
      (∀ (r : BillingRecord) (rest : List BillingRecord), s.billing.records = r :: rest →
        exec (.peekBilling p) s = .next (complete p .ok false (counts ++ r.words) s)))

/-! ### Accounts (chapter 4) -/

/-- R70 and R75: ACCOUNT ADD inserts one new ACTIVE record, in ascending order where the table stood in it; an account that
exists is refused with EXISTS and a full table with TABLE_FULL. -/
def Obligations.AccountAddInserts : Prop :=
  ∀ (p : PortId) (u h b : DWord) (k l : Word) (cls : Fin 4) (s : State),
    s.grantedNext p (.accountAdd p u k h l b) → cls.val = k.toNat →
    let g := granted (.unit p) s
    let new : Account :=
      { user := u.toNat, cls := cls, check := h.toNat, balance := b.toInt, state := .active, failCount := 0
        lockedUntil := none, limit := l.toNat, openCount := 0, periodSeconds := 0, periodUnits := 0
        lastSignOn := none }
    (s.account u.toNat ≠ none → exec (.accountAdd p u k h l b) s = .next (giveBack (complete p .exists_ false [] g))) ∧
    (s.account u.toNat = none → 1024 ≤ s.accounts.length →
      exec (.accountAdd p u k h l b) s = .next (giveBack (complete p .tableFull false [] g))) ∧
    (s.account u.toNat = none → s.accounts.length < 1024 →
      ∃ table : List Account,
        exec (.accountAdd p u k h l b) s = .next (giveBack (complete p .ok false [] { g with accounts := table })) ∧
        table.Perm (new :: s.accounts) ∧
        (s.accounts.Pairwise (fun x y => x.user < y.user) → table.Pairwise (fun x y => x.user < y.user)))

/-- R76 and R77: ACCOUNT SET replaces the class, check word and session limit alone; ACCOUNT DELETE removes the record
and discards what the seconds-due list holds for it (R134), and refuses with IN_USE one that an open count, a session
part or a deferred entry still names. -/
def Obligations.AccountSetAndDelete : Prop :=
  (∀ (p : PortId) (u h : DWord) (k l : Word) (cls : Fin 4) (s : State),
    s.grantedNext p (.accountSet p u k h l) → cls.val = k.toNat →
    let g := granted (.unit p) s
    (s.account u.toNat = none → exec (.accountSet p u k h l) s = .next (giveBack (complete p .notFound false [] g))) ∧
    (s.account u.toNat ≠ none → exec (.accountSet p u k h l) s = .next (giveBack (complete p .ok false []
      { g with accounts := s.accounts.map fun a =>
          if a.user = u.toNat then { a with cls := cls, check := h.toNat, limit := l.toNat } else a })))) ∧
  (∀ (p : PortId) (u : DWord) (s : State), s.grantedNext p (.accountDelete p u) →
    let g := granted (.unit p) s
    (s.account u.toNat = none → exec (.accountDelete p u) s = .next (giveBack (complete p .notFound false [] g))) ∧
    (∀ a : Account, s.account u.toNat = some a →
      let used := 0 < a.openCount ∨ (∃ (i : LineId) (x : Session), s.session i = some x ∧ x.user = u.toNat) ∨
        ∃ e ∈ s.deferred, e.user = u.toNat
      (used → exec (.accountDelete p u) s = .next (giveBack (complete p .inUse false [] g))) ∧
      (¬ used → exec (.accountDelete p u) s = .next (giveBack (complete p .ok false []
        { g with
          accounts := s.accounts.filter fun b => b.user ≠ u.toNat
          engine := { s.engine with secondsDue := s.engine.secondsDue.filter fun e => e.user ≠ u.toNat } })))))

/-- R78 and R90: CREDIT raises the balance, held at +8,388,607 with CLAMPED, leaves the period units, and brings back to
METERED the account's sessions whose floor the balance now exceeds. -/
def Obligations.CreditRaisesAndRelieves : Prop :=
  ∀ (p : PortId) (u n : DWord) (s : State), s.grantedNext p (.credit p u n) →
    let g := granted (.unit p) s
    (s.account u.toNat = none → exec (.credit p u n) s = .next (giveBack (complete p .notFound false [] g))) ∧
    (∀ a : Account, s.account u.toNat = some a →
      let balance := min 8388607 (a.balance + n.toNat)
      ∃ t : State,
        exec (.credit p u n) s =
          .next (giveBack (complete p .ok (decide (8388607 < a.balance + n.toNat)) (wBalance balance) t)) ∧
        t.accounts = s.accounts.map (fun b =>
          if b.user = u.toNat then { b with balance := min 8388607 (b.balance + n.toNat) } else b) ∧
        (∀ i : LineId, t.line i = { s.line i with
          session := (s.session i).map fun x =>
            if x.user = u.toNat ∧ -((s.classRec x.cls).floor : Int) < balance then
              if x.state = .grace then { x with state := .metered, grace := none }
              else if x.state = .held ∧ x.heldFrom = some .grace then { x with heldFrom := some .metered, grace := none }
              else x
            else x }) ∧
        t = { g with accounts := t.accounts, lines := t.lines })

/-- R79, R86, R87 and R89: DEBIT lowers the balance, held at −8,388,608 with CLAMPED, raises the period units by the whole
amount, moves the account's METERED sessions at or below minus their floor to GRACE, and warns once each open session at
or below its warn level: FUNDS_WARN (slot 9) joins the line's message list, once (R43), and an idle transmitter with
nothing else to send begins it at once (log entry 7). Stated where no session it moves has a grace of 0 (those close at once:
`FundsCloseAtThePosting`). -/
def Obligations.DebitLowersAndExhausts : Prop :=
  ∀ (p : PortId) (u n : DWord) (s : State), s.grantedNext p (.debit p u n) → s.lineLaw →
    1 ≤ n.toNat →
    let g := granted (.unit p) s
    (s.account u.toNat = none → exec (.debit p u n) s = .next (giveBack (complete p .notFound false [] g))) ∧
    (∀ a : Account, s.account u.toNat = some a →
      let balance := max (-8388608) (a.balance - n.toNat)
      let exhausted := fun x : Session => x.state = .metered ∧ x.user = u.toNat ∧
        balance ≤ -((s.classRec x.cls).floor : Int)
      (∀ (i : LineId) (x : Session), s.session i = some x → exhausted x → 0 < (s.classRec x.cls).grace) →
      ∃ t : State,
        exec (.debit p u n) s =
          .next (giveBack (complete p .ok (decide (a.balance - n.toNat < -8388608)) (wBalance balance) t)) ∧
        t.accounts = s.accounts.map (fun b =>
          if b.user = u.toNat then
            { b with
              balance := max (-8388608) (b.balance - n.toNat)
              periodUnits := min (b.periodUnits + n.toNat) 4294967295 }
          else b) ∧
        (∀ i : LineId, (t.line i).state = (s.line i).state ∧ (s.session i = none → t.session i = none)) ∧
        (∀ (i : LineId) (x : Session), s.session i = some x → ∃ y : Session, t.session i = some y ∧
          (exhausted x → y.state = .grace ∧ y.grace = some (s.classRec x.cls).grace) ∧
          (¬ exhausted x → y.state = x.state ∧ y.grace = x.grace) ∧
          y.fundsWarned = (x.fundsWarned || (x.state.isOpen && x.user == u.toNat &&
            decide (balance ≤ ((s.classRec x.cls).warn : Int)))) ∧
          y.serial = x.serial ∧ y.connectUnits = x.connectUnits ∧ y.unpostedUnits = x.unpostedUnits) ∧
        (∀ i : LineId,
          let l := s.line i
          let warned := (s.session i).any fun x => x.state.isOpen && x.user == u.toNat && !x.fundsWarned &&
            decide (balance ≤ ((s.classRec x.cls).warn : Int))
          (warned = false → t.line i = { l with session := t.session i }) ∧
          (warned = true → l.txChar ≠ none → t.line i = { l with
            session := t.session i, messages := if 9 ∈ l.messages then l.messages else l.messages ++ [9] }) ∧
          (warned = true → l.txChar = none → l.txItem = none → l.messages = [] → l.buffer = [] → t.line i = { l with
            session := t.session i, txChar := (s.slots.get 9).head?
            txItem := if s.slots.get 9 = [] then none else some (.slot 9, 1) })) ∧
        t.billing = s.billing ∧ t.input = s.input ∧ t.deferred = s.deferred)

/-- R87, R88, R145, R171 and R174: a session that a debit posting exhausts with a grace of 0 has its close decision at
once, with reason FUNDS: the billing record, the CLOSE mark and the lowered open count are all made in the access. Stated
where it is the account's one session, its class truncates, and the hold is NONE. -/
def Obligations.FundsCloseAtThePosting : Prop :=
  ∀ (p : PortId) (u n : DWord) (i : LineId) (x : Session) (a : Account) (s : State),
    s.grantedNext p (.debit p u n) → 1 ≤ n.toNat → s.account u.toNat = some a → s.hold.state = .none →
    s.session i = some x → x.user = u.toNat → x.state = .metered →
    (∀ (j : LineId) (y : Session), j ≠ i → s.session j = some y → y.user ≠ u.toNat) →
    max (-8388608) (a.balance - n.toNat) ≤ -((s.classRec x.cls).floor : Int) → (s.classRec x.cls).grace = 0 →
    (s.classRec x.cls).rounding = .truncate → (s.line i).reserved = true → (s.line i).txChar ≠ none →
    ∃ t : State, exec (.debit p u n) s = .next t ∧ (t.port p).status = .ok ∧
      (t.line i).state = .closing ∧ (t.line i).reserved = false ∧ (t.line i).closingSlot = some 10 ∧
      t.session i = some { x with
        state := .closing, heldFrom := none, grace := none, closeReason := some .funds
        closeStamp := some s.clock.stamp, work := some .done } ∧
      t.input = s.input ++ [.closeMark i x.serial .funds] ∧
      t.billing =
        { records := s.billing.records ++ [
            { sequence := s.billing.sequence, serial := x.serial, line := i, user := x.user, cls := x.cls
              openStamp := x.openStamp, closeStamp := s.clock.stamp, connectSeconds := x.connectSeconds
              heldSeconds := x.heldSeconds, connectUnits := x.connectUnits, setupUnits := x.setupUnits
              resourceUnits := x.resourceUnits, reason := .funds, clockSet := x.clockSet, late := x.late
              saturated := x.saturated, roundedUp := false }]
          sequence := nextCounter s.billing.sequence
          reservations := s.billing.reservations - 1 } ∧
      t.accounts = s.accounts.map fun b =>
        if b.user = u.toNat then
          { b with
            balance := max (-8388608) (b.balance - n.toNat)
            periodUnits := min (b.periodUnits + n.toNat) 4294967295, openCount := b.openCount - 1 }
        else b

/-- R81 and R82, whole: RESUME returns a SUSPENDED account to ACTIVE with fail count 0 and else changes nothing; UNLOCK
ends a lockout, clears the fail count of an ACTIVE account, and leaves a SUSPENDED one; the response gives the state
after the command. -/
def Obligations.ResumeAndUnlockAnswerTheState : Prop :=
  (∀ (p : PortId) (u : DWord) (s : State), s.grantedNext p (.resume p u) →
    let g := granted (.unit p) s
    (s.account u.toNat = none → exec (.resume p u) s = .next (giveBack (complete p .notFound false [] g))) ∧
    (∀ a : Account, s.account u.toNat = some a →
      let state := if a.state = .lockedOut then AccountState.lockedOut else .active
      exec (.resume p u) s = .next (giveBack (complete p .ok false [w16 state.code] { g with
        accounts := s.accounts.map fun b =>
          if b.user = u.toNat ∧ b.state = .suspended then { b with state := .active, failCount := 0 } else b })))) ∧
  (∀ (p : PortId) (u : DWord) (s : State), s.grantedNext p (.unlock p u) →
    let g := granted (.unit p) s
    (s.account u.toNat = none → exec (.unlock p u) s = .next (giveBack (complete p .notFound false [] g))) ∧
    (∀ a : Account, s.account u.toNat = some a →
      let state := if a.state = .suspended then AccountState.suspended else .active
      exec (.unlock p u) s = .next (giveBack (complete p .ok false [w16 state.code] { g with
        accounts := s.accounts.map fun b =>
          if b.user = u.toNat then
            if b.state = .lockedOut then { b with state := .active, failCount := 0, lockedUntil := none }
            else if b.state = .active then { b with failCount := 0 }
            else b
          else b }))))

/-- R80: SUSPEND suspends the account and ends its lockout stamp; without logout no session changes and the count is 0;
with logout yes no session of the account stays open, and in a table whose classes all truncate the count is the number
that was open and each of them closes with SUSPENDED. -/
def Obligations.SuspendLocksAndLogsOut : Prop :=
  ∀ (p : PortId) (u : DWord) (y : Word) (s : State), s.grantedNext p (.suspend p u y) →
    let g := granted (.unit p) s
    let open_ := allLines.filter fun i => (s.openSession i).any (·.user == u.toNat)
    (s.account u.toNat = none → exec (.suspend p u y) s = .next (giveBack (complete p .notFound false [] g))) ∧
    (s.account u.toNat ≠ none → y = 0 → exec (.suspend p u y) s = .next (giveBack (complete p .ok false [0] { g with
      accounts := s.accounts.map fun b =>
        if b.user = u.toNat then { b with state := .suspended, lockedUntil := none } else b }))) ∧
    (s.account u.toNat ≠ none → y = 1 →
      ∃ (n : Word) (t : State), exec (.suspend p u y) s = .next (giveBack (complete p .ok false [n] t)) ∧
        (∀ b ∈ t.accounts, b.user = u.toNat → b.state = .suspended ∧ b.lockedUntil = none) ∧
        (∀ (i : LineId) (x : Session), t.session i = some x → x.user = u.toNat → x.state = .closing) ∧
        ((∀ c : Fin 4, (s.classRec c).rounding = .truncate) → n = w16 open_.length ∧
          t.billing.records.length = s.billing.records.length + open_.length ∧
          t.input = s.input ++ open_.filterMap fun i =>
            (s.session i).map fun x => .closeMark i x.serial .suspended))

/-- R83 to R85: READ ACCOUNT gives the record as it stands, the check word as 0 at the T port; SWEEP gives the record
with the smallest user number above the one given, or EMPTY; neither changes anything. CLOSE PERIOD, only with the hold
GRANTED, sets every account's period fields to 0 and no other field. The model's form in it: log entry 44. -/
def Obligations.RecordsAreReadAndPeriodsClosed : Prop :=
  let words := fun (a : Account) (check : Nat) =>
    w32 a.user ++
    [w16 (a.cls.val + a.state.code * 16 + (if a.lockedUntil = none then 0 else 256) +
        (if a.lastSignOn = none then 0 else 512)),
      w16 (a.failCount + a.limit * 256 + a.openCount * 4096)] ++
    w32 check ++ wBalance a.balance ++ wStampOption a.lockedUntil ++ w32 a.periodSeconds ++ w32 a.periodUnits ++
    wStampOption a.lastSignOn
  ∀ (p : PortId) (u : DWord) (s : State),
    let g := granted (.unit p) s
    (s.grantedNext p (.readAccount p u) →
      (s.account u.toNat = none → exec (.readAccount p u) s = .next (giveBack (complete p .notFound false [] g))) ∧
      (∀ a : Account, s.account u.toNat = some a →
        exec (.readAccount p u) s = .next (giveBack (complete p .ok false (words a (if p = .t then 0 else a.check)) g)))) ∧
    (s.grantedNext p (.sweep p u) →
      ((∀ b ∈ s.accounts, b.user ≤ u.toNat) → exec (.sweep p u) s = .next (giveBack (complete p .empty false [] g))) ∧
      (s.accounts.Pairwise (fun x y => x.user < y.user) → ∀ a ∈ s.accounts, u.toNat < a.user →
        (∀ b ∈ s.accounts, u.toNat < b.user → a.user ≤ b.user) →
        exec (.sweep p u) s = .next (giveBack (complete p .ok false (words a a.check) g)))) ∧
    (s.grantedNext p (.closePeriod p) →
      (s.hold.state = .granted → exec (.closePeriod p) s = .next (giveBack (complete p .ok false [w16 s.accounts.length] { g with
        accounts := s.accounts.map fun a => { a with periodSeconds := 0, periodUnits := 0 } }))) ∧
      (s.hold.state ≠ .granted → exec (.closePeriod p) s = .next (giveBack (complete p .noHold false [] g))))

/-! ### The arbiter and the hold (chapter 5) -/

/-- R92, R93, R94 and R96: whom the arbiter grants next by the hold state. A free table is granted at once to the
client of the rotation whose turn it is, which then moves to the end of the order, and which holds the grant until its
access is made and the table given back; with the order checker, T, A, and T and A both waiting, T is granted and the
order becomes checker, A, T. COMMAND_TABLE_ACCESS makes the access of the command unit that holds the grant or is
granted next, as that command's own row does. A pass with a session left to charge goes first where it has asked, in
GRANTED behind the A unit; where it has not, one client of the rotation that waits, in GRANTED the T unit, is granted
before it, and the pass then asks behind that access. That a pass which starts has not asked, and that close work
leaves its request as it stands, are the model's choices (log entries 42 and 43). The checker asks while the hold is
NONE and an entry is eligible, and its request outlives the lines it was made for: a grant that then finds no eligible
entry is given back unused (R57). The model's forms in it: log entries 2 and 41. -/
def Obligations.ArbiterGrantsInItsOrder : Prop :=
  -- a free table: whom the arbiter grants next
  (∀ s : State, s.arbiter.grant = none →
    (s.hold.state = .none → s.engineAsks = false → s.passWants = false →
      s.nextGrant = s.arbiter.rotation.find? s.asks) ∧
    (s.hold.state = .requested ∨ s.hold.state = .releasing → ∀ c : Client, s.nextGrant = some c → c = .engine) ∧
    (s.hold.state = .granted → s.nextGrant ≠ some .checker) ∧
    (s.hold.state = .granted → s.engine.dueAsked = false → s.asks (.unit .a) = true →
      s.nextGrant = some (.unit .a)) ∧
    (s.hold.state ≠ .granted ∨ s.asks (.unit .a) = false → s.engineAsks = true → s.nextGrant = some .engine) ∧
    -- the request of a pass that has a session left to charge
    (s.engineAsks = false → s.passWants = true →
      (s.hold.state = .none → s.arbiter.passAsked = true → s.nextGrant = some .engine) ∧
      (s.hold.state = .none → s.arbiter.passAsked = false →
        s.nextGrant = some ((s.arbiter.rotation.find? s.asks).getD .engine)) ∧
      (s.hold.state = .requested ∨ s.hold.state = .releasing → s.nextGrant = some .engine) ∧
      (s.hold.state = .granted → s.asks (.unit .a) = false → s.nextGrant =
        if s.arbiter.passAsked = false ∧ s.asks (.unit .t) = true then some (.unit .t) else some .engine)) ∧
    (s.hold.state = .granted → s.engineAsks = false → s.passWants = false → s.asks (.unit .a) = false →
      s.nextGrant = if s.asks (.unit .t) then some (.unit .t) else none)) ∧
  (∀ s : State, s.passWants = true ↔ ∃ (p : Pass) (i : LineId) (x : Session), s.engine.pass = some p ∧
    p.next ≤ i.val ∧ s.session i = some x ∧ x.state.isCharged = true ∧ x.bornTick < p.tick.number) ∧
  (∀ s : State, s.mainPower = true →
    ∃ t : State, exec .closeAccountWork s = .next t ∧
      (t.arbiter.grant = none ∨ t.arbiter.grant = s.arbiter.grant → t.arbiter.passAsked = s.arbiter.passAsked)) ∧
  -- a free table is granted at once to the client of the rotation whose turn it is, which moves to the end
  (∀ (c : Client) (s : State), s.arbiter.grant = none → s.nextGrant = some c → c ≠ .engine →
    arbitrate s = { s with
      arbiter :=
        { grant := some c, rotation := s.arbiter.rotation.erase c ++ [c], passAsked := s.engine.pass.isSome
          checkerAsked := s.arbiter.checkerAsked && c != .checker } } ∧
    granted c s = arbitrate s) ∧
  (∀ s : State, s.arbiter.grant = none → s.nextGrant = none ∨ s.nextGrant = some .engine → arbitrate s = s) ∧
  (∀ s : State, s.arbiter.grant = none → s.hold.state = .none → s.engineAsks = false → s.passWants = false →
    s.arbiter.rotation = [.checker, .unit .t, .unit .a] → s.asks .checker = false → s.asks (.unit .t) = true →
    s.asks (.unit .a) = true →
    (arbitrate s).arbiter.grant = some (.unit .t) ∧
      (arbitrate s).arbiter.rotation = [.checker, .unit .a, .unit .t]) ∧
  -- a table held: the holder's access comes next, and nothing moves until it gives the table back
  (∀ (c : Client) (s : State), s.arbiter.grant = some c →
    s.nextGrant = some c ∧ arbitrate s = s ∧ granted c s = s) ∧
  (∀ s : State, (arbitrate s).arbiter.grant = none → ∀ c : Client, (arbitrate s).nextGrant = some c → c = .engine) ∧
  (∀ (p : PortId) (c : Instr) (s : State), s.grantedNext p c →
    exec .commandTableAccess s = .next (giveBack (commandAccess p c (granted (.unit p) s))) ∧
    (c.commandPort = some p → isTableCommand c = true → exec c s = exec .commandTableAccess s)) ∧
  (∀ (p : PortId) (s : State), s.asks (.unit p) = true ↔ s.arbiter.grant ≠ some (.unit p) ∧
    (s.port p).state = .busy ∧ ∃ c : Instr, (s.port p).job = some ⟨.waiting, c⟩) ∧
  (∀ s : State, s.asks .checker = true ↔ s.hold.state = .none ∧ s.arbiter.grant ≠ some .checker ∧
    (s.arbiter.checkerAsked = true ∨ ∃ e ∈ s.checkQueue, e.waiting = false)) ∧
  (∀ s : State, s.mainPower = true → s.nextGrant = some .checker → (∀ e ∈ s.checkQueue, e.waiting = true) →
    exec .verdict s = .next (giveBack (granted .checker s)))

/-- R98, R99, R105 and R106: HOLD REQUEST records its limit and goes to REQUESTED (a request of the checker is
withdrawn, R57), the grant starts the timer and latches HOLD_GRANTED, with a waiting request of the A port granted
first (R96), HOLD RELEASE and the limit's expiry (with HOLD_REVOKED; during an access at the end of it) begin the
release, which ends at once when nothing is set aside and no pass is in progress (R108, R134), and during an access at
the end of it (log entry 46). The model's forms in it: log entries 2, 3, 5, 41, 46 and 48. -/
def Obligations.HoldIsRequestedGrantedReleased : Prop :=
  let release := fun s : State =>
    if s.arbiter.grant = none ∧ s.engine.pass = none ∧ s.setAside = false then
      { s with hold := { s.hold with state := .none, limit := none, timer := none }
               engine := { s.engine with dueAsked := true } }
    else { s with hold := { s.hold with state := .releasing, timer := none } }
  (∀ (p : PortId) (n : Word) (s : State), s.running p (.holdRequest p n) →
    (n = 0 → exec (.holdRequest p n) s = .next (complete p .badArgument false [] s)) ∧
    (n ≠ 0 → s.hold.state = .none → exec (.holdRequest p n) s = .next (complete p .ok false []
      { s with
        hold := { s.hold with state := .requested, limit := some n.toNat }
        arbiter := { s.arbiter with checkerAsked := false } })) ∧
    (n ≠ 0 → s.hold.state ≠ .none → exec (.holdRequest p n) s = .next (complete p .holdBusy false [] s))) ∧
  (∀ (p : PortId) (s : State), s.running p (.holdRelease p) →
    (s.hold.state = .granted → exec (.holdRelease p) s = .next (complete p .ok false [] (release s))) ∧
    (s.hold.state ≠ .granted → exec (.holdRelease p) s = .next (complete p .noHold false [] s))) ∧
  (∀ s : State, s.mainPower = true →
    (∀ n : Nat, s.hold.state = .requested → s.hold.limit = some n → s.arbiter.grant = none →
      s.engine.pass = none → s.engine.remembered = none → s.engine.dueAsked = false → s.engine.closeWork = [] →
      exec .holdGrant s = .next (arbitrate { s with
        hold := { s.hold with state := .granted, timer := some (n * 10) }
        aPort := s.aPort.latch ACause.holdGranted.bit })) ∧
    -- the end of an access makes the installs taken during it (R125)
    let back := makeInstalls { s with arbiter := { s.arbiter with grant := none } }
    (s.hold.state = .granted → s.hold.timer = some 0 →
      (s.arbiter.grant = none →
        exec .holdLimitExpiry s = .next (release { s with aPort := s.aPort.latch ACause.holdRevoked.bit })) ∧
      -- an access is in progress: the expiry acts when the table is given back (R106)
      (s.arbiter.grant ≠ none → exec .holdLimitExpiry s = .next s) ∧
      giveBack s = release { back with aPort := s.aPort.latch ACause.holdRevoked.bit }) ∧
    -- a release that the access kept going ends with it (R108)
    (s.hold.state = .releasing → giveBack s =
      if s.engine.pass = none ∧ s.setAside = false then
        { back with hold := { s.hold with state := .none, limit := none }, engine := { s.engine with dueAsked := true } }
      else back) ∧
    (s.hold.state = .none ∨ s.hold.state = .requested ∨ (s.hold.state = .granted ∧ s.hold.timer ≠ some 0) →
      giveBack s = arbitrate back))

/-- R107, R108 and R134: with no pass in progress and no close work waiting, each posting of the release takes the
oldest deferred entry, else the unposted units of the lowest line that has some; when nothing is set aside the hold is
NONE and the access of R134 is asked for. That access adds the seconds due to the accounts' period seconds and empties
what was due. While close work waits no posting is made, so that its CLOSE entry stands in the queue when it is looked
at next (section 5.5, log entry 19). The postings are stated where the account posted to is not exhausted. -/
def Obligations.ReleasePostsInOrder : Prop :=
  (∀ s : State, s.mainPower = true → s.lineLaw → s.hold.state = .releasing → s.engine.pass = none → s.arbiter.grant = none →
    let safe := fun (user u : Nat) => ∀ a : Account, s.account user = some a → ∀ c : Fin 4,
      -((s.classRec c).floor : Int) < max (-8388608) (a.balance - u)
    let posted := fun (user u : Nat) => s.accounts.map fun b =>
      if b.user = user then
        { b with
          balance := max (-8388608) (b.balance - u), periodUnits := min (b.periodUnits + u) 4294967295 }
      else b
    let ends := fun t : State =>
      if t.setAside then t.hold.state = .releasing
      else t.hold.state = .none ∧ t.hold.limit = none ∧ t.engine.dueAsked = true
    (s.engine.closeWork ≠ [] → s.setAside = true → exec .releasePosting s = .next s) ∧
    (∀ (e : Deferred) (rest : List Deferred), s.engine.closeWork = [] → s.deferred = e :: rest → 0 < e.units → safe e.user e.units →
      ∃ t : State, exec .releasePosting s = .next t ∧ t.deferred = rest ∧ t.accounts = posted e.user e.units ∧
        (∀ i : LineId, (t.session i).map Session.unpostedUnits = (s.session i).map Session.unpostedUnits) ∧
        ends t) ∧
    (∀ (i : LineId) (x : Session), s.engine.closeWork = [] → s.deferred = [] → s.session i = some x →
      0 < x.unpostedUnits →
      (∀ (j : LineId) (y : Session), j < i → s.session j = some y → y.unpostedUnits = 0) →
      safe x.user x.unpostedUnits →
      ∃ t : State, exec .releasePosting s = .next t ∧ t.deferred = [] ∧ t.accounts = posted x.user x.unpostedUnits ∧
        (t.session i).map Session.unpostedUnits = some 0 ∧
        (∀ j : LineId, j ≠ i →
          (t.session j).map Session.unpostedUnits = (s.session j).map Session.unpostedUnits) ∧
        ends t)) ∧
  (∀ s : State, s.mainPower = true → s.engine.dueAsked = true → s.arbiter.grant = none →
    (∀ b ∈ s.accounts, b.periodSeconds ≤ 4294967295) →
    let due := fun user : Nat =>
      ((s.engine.secondsDue.filter fun e => e.user == user).map DueEntry.seconds).sum +
        (allLines.map fun i => (s.session i).elim 0 fun x => if x.user = user then x.unpostedSeconds else 0).sum
    ∃ t : State, exec .secondsDueAccess s = .next t ∧ t.engine.secondsDue = [] ∧ t.engine.dueAsked = false ∧
      (∀ (i : LineId) (x : Session), t.session i = some x → x.unpostedSeconds = 0) ∧
      t.accounts = s.accounts.map fun b =>
        { b with periodSeconds := min (b.periodSeconds + due b.user) 4294967295 })

/-! ### Clock, ticks and tables (chapters 6 and 7) -/

/-- R112 and Table 6-2: one advance of the clock, with main power on or off, carries through the fields, and keeps the
clock a value that SET CLOCK accepts; CLOCK_INVALID stands. With main power off it is all that happens (R113). -/
def Obligations.ClockAdvanceCarries : Prop :=
  ∀ s : State, s.clock.valid = true →
    let c := s.clock
    let length := if c.month = 2 then (if c.year % 4 = 0 then 29 else 28)
      else if c.month = 4 ∨ c.month = 6 ∨ c.month = 9 ∨ c.month = 11 then 30 else 31
    let weekday := if c.weekday = 7 then 1 else c.weekday + 1
    let midnight := fun (y m d : Nat) =>
      ({ year := y, month := m, day := d, hour := 0, minute := 0, second := 0, weekday := weekday } : Calendar)
    let next : Calendar :=
      if c.second < 59 then { c with second := c.second + 1 }
      else if c.minute < 59 then { c with second := 0, minute := c.minute + 1 }
      else if c.hour < 23 then { c with second := 0, minute := 0, hour := c.hour + 1 }
      else if c.day < length then midnight c.year c.month (c.day + 1)
      else if c.month < 12 then midnight c.year (c.month + 1) 1
      else if c.year < 99 then midnight (c.year + 1) 1 1
      else midnight 0 1 1
    (∃ t : State, exec .clockAdvance s = .next t ∧ t.clock = next ∧ t.clock.valid = true ∧
      t.clockInvalid = s.clockInvalid ∧ t.accounts = s.accounts) ∧
    (s.mainPower = false → exec .clockAdvance s = .next { s with clock := next })

/-- R113, R129, R130, R135 and R138: a tick taken with no pass in progress starts a pass, which comes to the lowest
line it must charge and counts held seconds on the way; one taken during a pass, or while the hold is RELEASING, is
remembered; one taken while a tick is remembered is lost, and every open session is LATE. A tick keeps the schedules
and day map of the installs taken before it (R125). A remembered tick starts its pass when the pass before it has
ended, at the lowest line it must charge, or to its end; so it is too where the pass in progress finds nothing left to
charge, because the sessions it was to charge have closed, and ends. A pass that starts has not asked for its first
access, unless a client holds the grant (log entry 42). The model's forms in it: log entries 9, 10, 25, 36 and 47. -/
def Obligations.TicksStartRememberOrLose : Prop :=
  (∀ s : State, s.mainPower = true → s.tPort.starting = false →
    let tick : Tick := ⟨s.clock.advance, s.engine.ticks + 1, s.installs.foldl Tariff.install s.tariff⟩
    let ticked := { s with clock := s.clock.advance, engine := { s.engine with ticks := s.engine.ticks + 1 } }
    let inPass := ∃ (p : Pass) (i : LineId) (x : Session), s.engine.pass = some p ∧ p.next = i.val ∧
      s.session i = some x ∧ x.state.isCharged = true ∧ x.bornTick < p.tick.number
    (∀ (i : LineId) (x : Session), s.engine.pass = none → s.engine.remembered = none →
      s.hold.state = .none ∨ s.hold.state = .requested ∨ s.hold.state = .granted → s.session i = some x →
      x.state.isCharged = true → x.bornTick ≤ s.engine.ticks →
      (∀ (j : LineId) (y : Session), j < i → s.session j = some y → y.state = .closing ∨
        (y.state = .held ∧ y.bornTick ≤ s.engine.ticks ∧ y.heldSeconds < 4294967295)) →
      ∃ t : State, exec .clockAdvance s = .next t ∧ t.clock = s.clock.advance ∧ t.engine.pass = some ⟨tick, i.val⟩ ∧
        t.engine.remembered = none ∧ t.hold.passInGranted = (s.hold.state == .granted) ∧
        t.accounts = s.accounts ∧
        ∀ j : LineId, t.session j = (s.session j).map fun y =>
          if j < i ∧ y.state = .held then { y with heldSeconds := y.heldSeconds + 1 } else y) ∧
    (inPass → s.engine.remembered = none →
      exec .clockAdvance s = .next { ticked with engine := { ticked.engine with remembered := some tick } }) ∧
    (s.engine.pass = none → s.engine.remembered = none → s.hold.state = .releasing → s.setAside = true →
      exec .clockAdvance s = .next { ticked with engine := { ticked.engine with remembered := some tick } }) ∧
    (inPass → s.engine.remembered ≠ none →
      ∃ t : State, exec .clockAdvance s = .next t ∧ t.engine = ticked.engine ∧ t.clock = s.clock.advance ∧
        (∀ i : LineId, t.line i = { s.line i with session := (s.session i).map fun x =>
          if x.state.isOpen then { x with late := true } else x }) ∧
        t = { ticked with lines := t.lines })) ∧
  (∀ (k : Tick) (s : State), s.mainPower = true → s.engine.remembered = some k →
    s.hold.state = .none ∨ s.hold.state = .requested ∨ s.hold.state = .granted → s.engine.dueAsked = false →
    -- a pass in progress, if there is one, has no session left to charge
    (∀ (p : Pass) (i : LineId) (x : Session), s.engine.pass = some p → p.next ≤ i.val → s.session i = some x →
      x.state.isCharged = true → p.tick.number ≤ x.bornTick) →
    -- the held seconds that the rest of that pass counts, and those that a pass of tick k counts
    let old := fun (j : LineId) (y : Session) =>
      if y.state = .held ∧ s.engine.pass.any (fun p => decide (p.next ≤ j.val ∧ y.bornTick < p.tick.number)) = true
      then 1 else 0
    let new := fun y : Session => if y.state = .held ∧ y.bornTick < k.number then 1 else 0
    let counted := fun (l : LineRec) (n : Session → Nat) =>
      { l with session := l.session.map fun y => { y with heldSeconds := y.heldSeconds + n y } }
    ((∀ (j : LineId) (y : Session), s.session j = some y →
        (y.state.isCharged = true → k.number ≤ y.bornTick) ∧ y.heldSeconds + old j y + new y ≤ 4294967295) →
      ∃ t : State, exec .rememberedTickPass s = .next t ∧
        (∀ j : LineId, t.line j = counted (s.line j) fun y => old j y + new y) ∧
        t = { s with
          lines := t.lines
          engine := { s.engine with pass := none, remembered := none }
          hold := { s.hold with passInGranted := false }
          arbiter := { s.arbiter with passAsked := false } }) ∧
    (∀ (i : LineId) (x : Session), s.session i = some x → x.state.isCharged = true → x.bornTick < k.number →
      (∀ (j : LineId) (y : Session), s.session j = some y →
        (j < i → y.state.isCharged = true → k.number ≤ y.bornTick) ∧
          y.heldSeconds + old j y + (if j < i then new y else 0) ≤ 4294967295) →
      ∃ t : State, exec .rememberedTickPass s = .next t ∧
        (∀ j : LineId, t.line j = counted (s.line j) fun y => old j y + if j < i then new y else 0) ∧
        t = { s with
          lines := t.lines
          engine := { s.engine with pass := some ⟨k, i.val⟩, remembered := none }
          hold := { s.hold with passInGranted := s.hold.state == .granted }
          arbiter := { s.arbiter with passAsked := s.arbiter.grant.isSome } }))

/-- R6, R7, R115, R116, R161 and R177: SET CLOCK, ADMISSION and RELEASE BILLING change what readiness is judged by, and
every line then stands by its enable and readiness. SET CLOCK also clears CLOCK_INVALID and marks the open sessions; it
is refused with BAD_ARGUMENT for a value no clock can hold. RELEASE BILLING removes the oldest record, and only by its
own sequence. The model's form in it: log entry 17. -/
def Obligations.ReadinessInputsAreActedOn : Prop :=
  let follows := fun (s t : State) => ∀ i : LineId, (t.line i).state =
    if (s.line i).state = .disabled ∨ (s.line i).state = .idle ∨ (s.line i).state = .busied then
      (if s.effEnable i = false then .disabled else if t.ready i then .idle else .busied)
    else if (s.line i).state = .ringing ∧ s.effEnable i = true ∧ t.ready i = false then .busied
    else (s.line i).state
  (∀ (p : PortId) (y m d h mi se : Byte) (w : Word) (s : State), s.running p (.setClock p y m d h mi se w) →
    let v : Calendar :=
      { year := y.toNat, month := m.toNat, day := d.toNat, hour := h.toNat, minute := mi.toNat, second := se.toNat
        weekday := w.toNat % 8 }
    (v.valid = true → ∃ t : State, exec (.setClock p y m d h mi se w) s = .next (complete p .ok false [] t) ∧
      t.clock = v ∧ t.clockInvalid = false ∧ follows s t ∧
      (∀ i : LineId, t.session i = (s.session i).map fun x =>
        if x.state.isOpen then { x with clockSet := true } else x) ∧
      t = { s with clock := v, clockInvalid := false, lines := t.lines }) ∧
    (v.valid = false → exec (.setClock p y m d h mi se w) s = .next (complete p .badArgument false [] s))) ∧
  (∀ (p : PortId) (w : Word) (s : State), s.running p (.admission p w) →
    (∀ v : Vote, v = .opened ∧ w = 0 ∨ v = .closed ∧ w = 1 →
      ∃ t : State, exec (.admission p w) s = .next (complete p .ok false [] t) ∧ follows s t ∧
        t = { s.setPort p { s.port p with vote := v } with lines := t.lines }) ∧
    (1 < w.toNat → exec (.admission p w) s = .next (complete p .badArgument false [] s))) ∧
  (∀ (p : PortId) (n : Word) (s : State), s.running p (.releaseBilling p n) →
    (n = 0 → exec (.releaseBilling p n) s = .next (complete p .badArgument false [] s)) ∧
    (n ≠ 0 → s.billing.records = [] → exec (.releaseBilling p n) s = .next (complete p .empty false [] s)) ∧
    (∀ (r : BillingRecord) (rest : List BillingRecord), n ≠ 0 → s.billing.records = r :: rest →
      (r.sequence ≠ n.toNat →
        exec (.releaseBilling p n) s = .next (complete p .sequence false [w16 r.sequence] s)) ∧
      (r.sequence = n.toNat →
        ∃ t : State, exec (.releaseBilling p n) s = .next (complete p .ok false [w16 rest.length] t) ∧ follows s t ∧
          t = { s with billing := { s.billing with records := rest }, lines := t.lines })))

/-- R119 to R125: TARIFF WRITE stages bands and installs a valid list whole at the final part; DAY MAP WRITE and CLASS
WRITE replace theirs whole, or refuse with BAD_ARGUMENT and change nothing; an install taken while an access is in
progress is made at the end of that access, in the order of taking, and the tables stand until then; the class rate at
a clock value is that of the last band at or before its minute in the schedule the day map names. The model's form in
it: log entry 47. -/
def Obligations.TablesAreReplacedWhole : Prop :=
  (∀ (p : PortId) (sc fb fi c : Word) (ws : List Word) (s : State), s.running p (.tariffWrite p sc fb fi c ws) →
    (1 < sc.toNat ∨ 1 < fi.toNat →
      exec (.tariffWrite p sc fb fi c ws) s = .next (complete p .badArgument false [] s)) ∧
    (sc.toNat ≤ 1 → fi.toNat ≤ 1 →
    let schedule := if sc = 0 then Schedule.a else .b
    let good := fb.toNat ≤ 7 ∧ c.toNat ≤ 3 ∧ fb.toNat + c.toNat ≤ 8 ∧ ∀ b ∈ bandsOf ws, b.start ≤ 1439
    let cleared := { s with tariff := { s.tariff with stagingSchedule := none, stagedBands := [] } }
    let accepted := fun (bands : List Band) =>
      let valid := 1 ≤ bands.length ∧ bands.length ≤ 8 ∧ (bands.head?.map Band.start = some 0) ∧
        bands.Pairwise (fun x y => x.start < y.start)
      (fi = 0 → exec (.tariffWrite p sc fb fi c ws) s = .next (complete p .ok false []
        { s with tariff := { s.tariff with stagingSchedule := some schedule, stagedBands := bands } })) ∧
      (fi = 1 → valid → s.arbiter.grant = none →
        exec (.tariffWrite p sc fb fi c ws) s = .next (complete p .ok false [] { cleared with tariff := { cleared.tariff with
          schedA := if sc = 0 then bands else s.tariff.schedA
          schedB := if sc = 0 then s.tariff.schedB else bands } })) ∧
      (fi = 1 → valid → s.arbiter.grant ≠ none →
        exec (.tariffWrite p sc fb fi c ws) s = .next (complete p .ok false [] { cleared with installs := s.installs ++ [.schedule schedule bands] })) ∧
      (fi = 1 → ¬ valid → exec (.tariffWrite p sc fb fi c ws) s = .next (complete p .badArgument false [] cleared))
    (good → fb = 0 → accepted (bandsOf ws)) ∧
    (good → fb ≠ 0 → s.tariff.stagingSchedule = some schedule → s.tariff.stagedBands.length = fb.toNat →
      accepted (s.tariff.stagedBands ++ bandsOf ws)) ∧
    (good → fb ≠ 0 → s.tariff.stagingSchedule ≠ some schedule ∨ s.tariff.stagedBands.length ≠ fb.toNat →
      exec (.tariffWrite p sc fb fi c ws) s = .next (complete p .badArgument false [] cleared)) ∧
    (¬ good → exec (.tariffWrite p sc fb fi c ws) s = .next (complete p .badArgument false [] s)))) ∧
  (∀ (p : PortId) (d : Fin 7 → Word) (s : State), s.running p (.dayMapWrite p (d 0) (d 1) (d 2) (d 3) (d 4) (d 5) (d 6)) →
    ((∀ k : Fin 7, (d k).toNat ≤ 1) → ∃ m : Bank Schedule 7,
      (∀ k : Fin 7, m.get k = if d k = 0 then .a else .b) ∧
      exec (.dayMapWrite p (d 0) (d 1) (d 2) (d 3) (d 4) (d 5) (d 6)) s =
        .next (complete p .ok false []
          (if s.arbiter.grant = none then { s with tariff := { s.tariff with dayMap := m } }
          else { s with installs := s.installs ++ [.dayMap m] }))) ∧
    ((∃ k : Fin 7, 1 < (d k).toNat) → exec (.dayMapWrite p (d 0) (d 1) (d 2) (d 3) (d 4) (d 5) (d 6)) s =
      .next (complete p .badArgument false [] s))) ∧
  (∀ (p : PortId) (k su fl wa gr iw il ro fa lo : Word) (s : State),
    s.running p (.classWrite p k su fl wa gr iw il ro fa lo) →
    let good := k.toNat ≤ 3 ∧ su.toNat ≤ 255 ∧ gr.toNat ≤ 600 ∧ iw.toNat ≤ 60 ∧ il.toNat ≤ 120 ∧ ro.toNat ≤ 2 ∧
      1 ≤ fa.toNat ∧ fa.toNat ≤ 15 ∧ 1 ≤ lo.toNat ∧ lo.toNat ≤ 1440
    let record : ClassRec :=
      { setup := su.toNat, floor := fl.toNat, warn := wa.toNat, grace := gr.toNat, idleWarn := iw.toNat
        idleLimit := il.toNat, failLimit := fa.toNat, lockout := lo.toNat
        rounding := if ro = 0 then .truncate else if ro = 1 then .halfUp else .ceiling }
    (good → s.arbiter.grant = none → ∃ classes : Bank ClassRec 4,
      exec (.classWrite p k su fl wa gr iw il ro fa lo) s =
        .next (complete p .ok false [] { s with classes := classes }) ∧
      ∀ c : Fin 4, classes.get c = if c.val = k.toNat then record else s.classRec c) ∧
    (good → s.arbiter.grant ≠ none → ∃ c : Fin 4, c.val = k.toNat ∧
      exec (.classWrite p k su fl wa gr iw il ro fa lo) s =
        .next (complete p .ok false [] { s with installs := s.installs ++ [.classRecord c record] })) ∧
    (¬ good → exec (.classWrite p k su fl wa gr iw il ro fa lo) s = .next (complete p .badArgument false [] s))) ∧
  -- the end of an access makes the installs that wait, in the order in which they were taken (R125)
  (∀ s : State,
    (s.installs = [] → (giveBack s).tariff = s.tariff ∧ (giveBack s).classes = s.classes) ∧
    (giveBack s).installs = [] ∧
    ∀ (rest : List Install) (x : Install), s.installs = rest ++ [x] →
      let t := giveBack { s with installs := rest }
      match x with
      | .schedule sc bands => giveBack s = { t with tariff := { t.tariff with
          schedA := if sc = .a then bands else t.tariff.schedA
          schedB := if sc = .a then t.tariff.schedB else bands } }
      | .dayMap m => giveBack s = { t with tariff := { t.tariff with dayMap := m } }
      | .classRecord c r => giveBack s = { t with classes := t.classes.set c r }) ∧
  (∀ (t : Tariff) (c : Fin 4) (v : Calendar) (k : Fin 7) (before after : List Band) (b : Band),
    v.weekday = k.val + 1 → (if t.dayMap.get k = .a then t.schedA else t.schedB) = before ++ b :: after →
    b.start ≤ v.hour * 60 + v.minute → (∀ e ∈ after, v.hour * 60 + v.minute < e.start) →
    t.lookup c v = b.rate c)

/-! ### Metering (chapter 7) -/

/-- R127, R128, R130, R131, R133, R136 and R137: the pass's access for a METERED session, or one in GRACE whose timer
is above 1, charges one second: the rate joins the residue, each full 6000 is a unit, the second is counted and
stamped, and at a minute-start tick the rate is then recomputed, from the schedules and day map installed when the tick
was taken (R125, log entry 36) and the rate factor as it stands (R127). A grace timer counts down by 1. The units and
the second go to the account, or, in a pass begun while the hold was GRANTED, to the session's unposted units and
seconds, which hold at 65,535. The table is then given back, and with the hold NONE the client of the rotation whose
turn it is, if one waits, is granted (R93, R94). Stated for a class without idle supervision, and for a posting that
exhausts no METERED session of the account. The model's forms in it: log entries 2, 9 and 11. -/
def Obligations.PassChargesOneSecond : Prop :=
  ∀ (k : Tick) (i : LineId) (x : Session) (s : State), s.mainPower = true → s.lineLaw →
    s.engine.pass = some ⟨k, i.val⟩ → s.session i = some x →
    x.state = .metered ∨ (x.state = .grace ∧ ∃ g : Nat, x.grace = some g ∧ 2 ≤ g) → x.bornTick < k.number →
    s.grantsPass = true → (s.classRec x.cls).idleLimit = 0 → (s.classRec x.cls).idleWarn = 0 →
    let u := (x.residue + x.rate) / 6000
    x.connectSeconds < 4294967295 → x.connectUnits + u ≤ 4294967295 →
    (u = 0 ∨ s.hold.passInGranted = true ∨ ∀ (a : Account) (j : LineId) (z : Session), s.account x.user = some a →
      s.session j = some z → z.user = x.user → z.state = .metered →
      -((s.classRec z.cls).floor : Int) < max (-8388608) (a.balance - u)) →
    let q := k.tariff.lookup x.cls k.value
    let f := (s.lineGroup i).rateFactor
    ∃ (t : State) (y : Session), exec .meteringPassAccess s = .next t ∧ t.session i = some y ∧
      y.state = x.state ∧ y.grace = (if x.state = .grace then x.grace.map (· - 1) else x.grace) ∧
      y.openStamp = x.openStamp ∧ y.heldSeconds = x.heldSeconds ∧ y.lastMetered = k.value.stamp ∧
      y.residue = (x.residue + x.rate) % 6000 ∧ y.connectSeconds = x.connectSeconds + 1 ∧
      y.connectUnits = x.connectUnits + u ∧
      -- the table is given back, and a client that waits is granted (R93, R94)
      (s.hold.state = .none → t.arbiter = match s.arbiter.rotation.find? s.asks with
        | none => { s.arbiter with grant := none, passAsked := false }
        | some c =>
          { grant := some c, rotation := s.arbiter.rotation.erase c ++ [c], passAsked := t.engine.pass.isSome
            checkerAsked := s.arbiter.checkerAsked && c != .checker }) ∧
      y.rate = (if k.value.second = 0 then min 65535 ((q * f + 4) / 8) else x.rate) ∧
      (u = 0 ∨ s.hold.passInGranted = true →
        y.activity = false ∧ y.idleSeconds = if x.activity then 0 else min (x.idleSeconds + 1) 65535) ∧
      (∀ j : LineId, j ≠ i → (t.session j).map Session.residue = (s.session j).map Session.residue ∧
        (t.session j).map Session.connectUnits = (s.session j).map Session.connectUnits) ∧
      t.billing = s.billing ∧ t.input = s.input ∧ t.deferred = s.deferred ∧
      (s.hold.passInGranted = false →
        y.unpostedUnits = x.unpostedUnits ∧ y.unpostedSeconds = x.unpostedSeconds ∧
        t.accounts = s.accounts.map fun b =>
          if b.user = x.user then
            { b with
              periodSeconds := min (b.periodSeconds + 1) 4294967295
              balance := if u = 0 then b.balance else max (-8388608) (b.balance - u)
              periodUnits := if u = 0 then b.periodUnits else min (b.periodUnits + u) 4294967295 }
          else b) ∧
      (s.hold.passInGranted = true →
        y.unpostedUnits = min (x.unpostedUnits + u) 65535 ∧ y.unpostedSeconds = min (x.unpostedSeconds + 1) 65535 ∧
        y.saturated = (x.saturated || decide (65535 < x.unpostedUnits + u)) ∧ t.accounts = s.accounts)

/-- R136 and R137: the access that finds a session at its idle limit closes it with reason IDLE; the one that counts its
grace down to 0 closes it with reason FUNDS; the one that finds it at its idle warn, not yet warned, asks for IDLE_WARN.
Each of the three event rows is that access of the pass (log entry 26). Stated for a second that forms no unit, with the
hold NONE and a class that truncates. The model's form in it: log entry 9. -/
def Obligations.PassSupervisesSessions : Prop :=
  ∀ (k : Tick) (i : LineId) (x : Session) (s : State), s.mainPower = true → s.lineLaw →
    s.engine.pass = some ⟨k, i.val⟩ → s.session i = some x → x.bornTick < k.number → s.grantsPass = true →
    x.residue + x.rate < 6000 → x.connectSeconds < 4294967295 → x.connectUnits ≤ 4294967295 →
    s.hold.state = .none → s.hold.passInGranted = false → (s.classRec x.cls).rounding = .truncate →
    let c := s.classRec x.cls
    let idle := if x.activity then 0 else min (x.idleSeconds + 1) 65535
    let closes := fun (row : Instr) (reason : CloseReason) =>
      ∃ (t : State) (r : BillingRecord), exec row s = .next t ∧ exec .meteringPassAccess s = .next t ∧
        t.billing.records = s.billing.records ++ [r] ∧ r.reason = reason ∧ r.serial = x.serial ∧
        r.sequence = s.billing.sequence ∧ r.line = i ∧ r.user = x.user ∧ r.closeStamp = s.clock.stamp ∧
        r.connectSeconds = x.connectSeconds + 1 ∧ r.connectUnits = x.connectUnits ∧ r.roundedUp = false ∧
        t.input = s.input ++ [.closeMark i x.serial reason] ∧
        (∀ y : Session, t.session i = some y → y.state = .closing) ∧
        t.accounts = s.accounts.map fun b =>
          if b.user = x.user then
            { b with periodSeconds := min (b.periodSeconds + 1) 4294967295, openCount := b.openCount - 1 }
          else b
    (x.state.isCharged = true → c.idleLimit ≠ 0 → c.idleLimit * 60 ≤ idle → closes (.idleLimit i) .idle) ∧
    (x.state = .grace → x.grace = some 1 → c.idleLimit = 0 → c.idleWarn = 0 → closes (.graceTimerExpiry i) .funds) ∧
    (x.state = .metered → c.idleLimit = 0 ∨ idle < c.idleLimit * 60 → c.idleWarn ≠ 0 → c.idleWarn * 60 ≤ idle →
      x.idleWarned = false → x.activity = false →
      ∃ (t : State) (y : Session), exec (.idleWarnThreshold i) s = .next t ∧ exec .meteringPassAccess s = .next t ∧
        t.session i = some y ∧ y.state = .metered ∧ y.idleWarned = true ∧ y.idleSeconds = idle ∧
        ((s.line i).txChar ≠ none → 11 ∈ (t.line i).messages) ∧ t.billing = s.billing ∧ t.input = s.input)

/-- R95, R102, R134, R141, R146, R171 and Table 7-3: the engine's access for the oldest close decision reached outside
any access: the class's rounding adds its unit, the billing record takes the place of the line's reservation, the open
count goes down, and a line still in SESSION enters HANGUP, its character in progress going on (R45, log entry 38).
With the hold NONE or REQUESTED the rounding unit is posted, stated for an account that it does not exhaust; with the
hold GRANTED or RELEASING the unposted units with the rounding unit, and the unposted seconds, are set aside and
nothing is posted. A hold limit that has passed by the end of the access begins the release (R106), and a release with
nothing left set aside ends (R108). The write of the record latches BILLING, and BILLING_HIGH at 80 records or more
(R179, R180). The model's forms in it: log entries 5 and 15. -/
def Obligations.CloseWorkSettlesTheSession : Prop :=
  ∀ (i : LineId) (rest : List LineId) (x : Session) (r : CloseReason) (stamp : Stamp) (s : State),
    s.mainPower = true → s.lineLaw → s.nextGrant = some .engine → s.engine.dueAsked = false →
    s.engine.closeWork = i :: rest → s.session i = some x → x.state = .closing → x.work = some .pending →
    x.closeReason = some r → x.closeStamp = some stamp → (s.line i).reserved = true →
    x.connectUnits < 4294967295 →
    let up := match (s.classRec x.cls).rounding with
      | .truncate => false
      | .halfUp => decide (3000 ≤ x.residue)
      | .ceiling => decide (0 < x.residue)
    let units := if up then x.connectUnits + 1 else x.connectUnits
    let aside := if up then min (x.unpostedUnits + 1) 65535 else x.unpostedUnits
    let full := up && decide (65535 < x.unpostedUnits + 1)
    -- the hold limit has passed: the end of the access begins the release (R106)
    let revoked := s.hold.state = .granted ∧ s.hold.timer = some 0
    -- what both cases leave, with the SATURATED flag and the session part in CLOSING
    let settled := fun (t : State) (saturated : Bool) (y : Session) => t.engine.closeWork = rest ∧
      t.billing =
        { records := s.billing.records ++ [
            { sequence := s.billing.sequence, serial := x.serial, line := i, user := x.user, cls := x.cls
              openStamp := x.openStamp, closeStamp := stamp, connectSeconds := x.connectSeconds
              heldSeconds := x.heldSeconds, connectUnits := units, setupUnits := x.setupUnits
              resourceUnits := x.resourceUnits, reason := r, clockSet := x.clockSet, late := x.late
              saturated := saturated, roundedUp := up }]
          sequence := nextCounter s.billing.sequence
          reservations := s.billing.reservations - 1 } ∧
      t.aPort = (let u := s.aPort.latch ACause.billing.bit
        let v := if 80 ≤ s.billing.records.length + 1 then u.latch ACause.billingHigh.bit else u
        if revoked then v.latch ACause.holdRevoked.bit else v) ∧
      (t.line i).reserved = false ∧ t.input = s.input ∧
      ((s.line i).state = .session → (t.line i).state = .hangup ∧ t.session i = none ∧
        (t.line i).phaseTimer = some 20 ∧ (t.line i).txChar = (s.line i).txChar) ∧
      ((s.line i).state = .closing → (s.line i).txChar ≠ none → (t.line i).state = .closing ∧ t.session i = some y)
    (s.hold.state = .none ∨ s.hold.state = .requested →
      (∀ a : Account, s.account x.user = some a → ∀ c : Fin 4,
        -((s.classRec c).floor : Int) < max (-8388608) (a.balance - 1)) →
      ∃ t : State, exec .closeAccountWork s = .next t ∧
        settled t x.saturated { x with connectUnits := units, work := some .done } ∧ t.hold = s.hold ∧
        t.deferred = s.deferred ∧
        t.accounts = s.accounts.map fun b =>
          if b.user = x.user then
            { b with
              openCount := b.openCount - 1
              balance := if up then max (-8388608) (b.balance - 1) else b.balance
              periodUnits := if up then min (b.periodUnits + 1) 4294967295 else b.periodUnits }
          else b) ∧
    (s.hold.state = .granted ∨ s.hold.state = .releasing →
      ∃ t : State, exec .closeAccountWork s = .next t ∧
        settled t (x.saturated || full)
          { x with
            connectUnits := units, work := some .done, unpostedUnits := 0, unpostedSeconds := 0
            saturated := x.saturated || full } ∧
        (s.hold.state = .granted → ¬ revoked → t.hold = s.hold) ∧
        (s.hold.state = .releasing → s.engine.pass ≠ none ∨ t.setAside = true → t.hold = s.hold) ∧
        (s.hold.state = .releasing → s.engine.pass = none → t.setAside = false →
          t.hold.state = .none ∧ t.engine.dueAsked = true) ∧
        (revoked → t.hold.state = .releasing ∨ t.hold.state = .none ∧ t.engine.dueAsked = true) ∧
        t.deferred = s.deferred ++ (if 0 < aside then [⟨x.user, aside, .close⟩] else []) ∧
        t.engine.secondsDue = s.engine.secondsDue ++
          (if 0 < x.unpostedSeconds then [⟨x.user, x.unpostedSeconds⟩] else []) ∧
        t.accounts = s.accounts.map fun b =>
          if b.user = x.user then { b with openCount := b.openCount - 1 } else b)

/-! ### Sessions, watch and power (chapter 8) -/

/-- R152 and R153: LOGOFF closes the METERED or GRACE session it names, keeping the line's buffer, and answers its connect
figures; it is refused with STALE without one; with the hold GRANTED its charges are set aside (R102, R134). SHUTDOWN
SESSIONS leaves no session open, stated with the hold NONE. Both are stated for classes that truncate. -/
def Obligations.LogoffAndShutdownClose : Prop :=
  (∀ (p : PortId) (n sr : Word) (i : LineId) (s : State), s.grantedNext p (.logoff p n sr) → i.val = n.toNat →
    (sr = 0 ∨ (∀ x : Session, s.session i = some x → x.state.isCharged = false ∨ x.serial ≠ sr.toNat) →
      exec (.logoff p n sr) s = .next (giveBack (complete p .stale false [] (granted (.unit p) s)))) ∧
    (∀ x : Session, s.lineLaw → sr ≠ 0 → s.session i = some x → x.state.isCharged = true → x.serial = sr.toNat →
      s.hold.state = .none → (s.classRec x.cls).rounding = .truncate → (s.line i).txChar ≠ none →
      ∃ (t : State) (r : BillingRecord), exec (.logoff p n sr) s = .next t ∧
        (t.port p).answered p .ok false (w32 x.connectUnits ++ w32 x.connectSeconds) ∧
        (t.line i).state = .closing ∧ (t.line i).buffer = (s.line i).buffer ∧ (t.line i).closingSlot = some 12 ∧
        t.session i = some { x with
          state := .closing, heldFrom := none, grace := none, closeReason := some .logoff
          closeStamp := some s.clock.stamp, work := some .done } ∧
        t.input = s.input ++ [.closeMark i x.serial .logoff] ∧ s.sameLinesBut t i ∧
        t.billing.records = s.billing.records ++ [r] ∧ r.reason = .logoff ∧ r.serial = x.serial ∧
        r.connectUnits = x.connectUnits ∧ r.connectSeconds = x.connectSeconds ∧ r.closeStamp = s.clock.stamp ∧
        t.accounts = s.accounts.map fun b =>
          if b.user = x.user then { b with openCount := b.openCount - 1 } else b)) ∧
  (∀ (p : PortId) (n sr : Word) (i : LineId) (x : Session) (s : State), s.grantedNext p (.logoff p n sr) →
    i.val = n.toNat → s.lineLaw → sr ≠ 0 → s.session i = some x → x.state.isCharged = true → x.serial = sr.toNat →
    s.hold.state = .granted → (s.classRec x.cls).rounding = .truncate → (s.line i).txChar ≠ none →
    ∃ t : State, exec (.logoff p n sr) s = .next t ∧
      (t.port p).answered p .ok false (w32 x.connectUnits ++ w32 x.connectSeconds) ∧
      t.session i = some { x with
        state := .closing, heldFrom := none, grace := none, closeReason := some .logoff
        closeStamp := some s.clock.stamp, work := some .done, unpostedUnits := 0, unpostedSeconds := 0 } ∧
      t.deferred = s.deferred ++ (if 0 < x.unpostedUnits then [⟨x.user, x.unpostedUnits, .close⟩] else []) ∧
      t.engine.secondsDue = s.engine.secondsDue ++
        (if 0 < x.unpostedSeconds then [⟨x.user, x.unpostedSeconds⟩] else []) ∧
      t.accounts = s.accounts.map fun b =>
        if b.user = x.user then { b with openCount := b.openCount - 1 } else b) ∧
  (∀ (p : PortId) (s : State), s.grantedNext p (.shutdownSessions p) → s.hold.state = .none →
    (∀ c : Fin 4, (s.classRec c).rounding = .truncate) →
    let open_ := allLines.filter fun i => (s.openSession i).isSome
    ∃ t : State, exec (.shutdownSessions p) s = .next (giveBack (complete p .ok false [w16 open_.length] t)) ∧
      (∀ (i : LineId) (x : Session), t.session i = some x → x.state = .closing) ∧
      t.billing.records.length = s.billing.records.length + open_.length ∧
      t.input = s.input ++ open_.filterMap fun i => (s.session i).map fun x => .closeMark i x.serial .shutdown)

/-- R103 and R154: POST CHARGE posts its units, adds them to the resource units of the session whose serial it names,
and answers the posted balance; made while the hold is GRANTED it joins the deferred queue and posts nothing, or is
refused with RETRY at 8 such entries; a serial that names no session of the user is refused with STALE. The posting is
stated where it does not exhaust the account. The model's forms in it: log entries 33 and 46. -/
def Obligations.PostChargePostsOrDefers : Prop :=
  ∀ (p : PortId) (u : DWord) (n sr : Word) (s : State), s.grantedNext p (.postCharge p u n sr) → n ≠ 0 →
    let g := granted (.unit p) s
    let named := fun x : Session => sr ≠ 0 ∧ x.state.isCharged = true ∧ x.serial = sr.toNat ∧ x.user = u.toNat
    let found := sr = 0 ∨ ∃ (i : LineId) (x : Session), s.session i = some x ∧ named x
    let charged := fun x : Session =>
      if named x then { x with resourceUnits := min (x.resourceUnits + n.toNat) 4294967295 } else x
    (s.account u.toNat = none → exec (.postCharge p u n sr) s = .next (giveBack (complete p .notFound false [] g))) ∧
    (∀ a : Account, s.account u.toNat = some a →
      (¬ found → exec (.postCharge p u n sr) s = .next (giveBack (complete p .stale false [] g))) ∧
      (found → s.hold.state = .granted → 8 ≤ (s.deferred.filter (·.origin == .tCharge)).length →
        exec (.postCharge p u n sr) s = .next (giveBack (complete p .retry false [] g))) ∧
      (found → s.hold.state = .granted → (s.deferred.filter (·.origin == .tCharge)).length < 8 →
        ∃ t : State, exec (.postCharge p u n sr) s = .next (giveBack (complete p .ok false (wBalance a.balance) t)) ∧
          (∀ i : LineId, t.line i = { s.line i with session := (s.session i).map charged }) ∧
          t = { g with lines := t.lines, deferred := s.deferred ++ [⟨u.toNat, n.toNat, .tCharge⟩] }) ∧
      (found → s.lineLaw → s.hold.state ≠ .granted →
        (∀ c : Fin 4, -((s.classRec c).floor : Int) < max (-8388608) (a.balance - n.toNat)) →
        ∃ t : State,
          exec (.postCharge p u n sr) s = .next (giveBack (complete p .ok (decide (a.balance - n.toNat < -8388608))
            (wBalance (max (-8388608) (a.balance - n.toNat))) t)) ∧
          (∀ i : LineId, (t.session i).map Session.resourceUnits =
            (s.session i).map fun x => (charged x).resourceUnits) ∧
          t.deferred = s.deferred ∧ t.billing = s.billing ∧
          t.accounts = s.accounts.map fun b =>
            if b.user = u.toNat then
              { b with
                balance := max (-8388608) (b.balance - n.toNat)
                periodUnits := min (b.periodUnits + n.toNat) 4294967295 }
            else b))

/-- R18, R151, R155, R157 and R160: SET WATCH replaces its two settings; the watch timer's expiry takes the watch DOWN:
sessions are HELD, callers short of a session are dropped or told, no line stays ready, and SYSTEM_DOWN is latched; the
hold-down timer's expiry closes every HELD session with SYSTEM_DOWN, its account work asked for. The model's form in
it: log entry 5. -/
def Obligations.WatchGoesDownAndHoldsSessions : Prop :=
  (∀ (p : PortId) (w l : Word) (s : State), s.running p (.setWatch p w l) →
    let good := (w.toNat = 0 ∨ (5 ≤ w.toNat ∧ w.toNat ≤ 60)) ∧ l.toNat ≤ 60
    (good → exec (.setWatch p w l) s = .next (complete p .ok false []
      { s with watch := { s.watch with window := w.toNat, holdDownLimit := l.toNat } })) ∧
    (¬ good → exec (.setWatch p w l) s = .next (complete p .badArgument false [] s))) ∧
  (∀ s : State, s.mainPower = true → s.lineLaw → s.watch.down = false → s.watch.timer = some 0 →
    s.tPort.state ≠ .busy →
    ∃ t : State, exec .watchTimerExpiry s = .next t ∧
      t.watch = { s.watch with
        down := true, timer := none
        holdDownTimer := if s.watch.holdDownLimit = 0 then none else some (s.watch.holdDownLimit * 600) } ∧
      t.aPort = s.aPort.latch ACause.systemDown.bit ∧ t.input = s.input ∧ t.accounts = s.accounts ∧
      t.billing.records = s.billing.records ∧
      ∀ i : LineId,
        ((s.line i).state = .session → t.session i = (s.session i).map fun x =>
          if x.state.isCharged then { x with state := .held, heldFrom := some x.state } else x) ∧
        ((s.line i).state = .idle ∨ (s.line i).state = .ringing → s.effEnable i = true →
          (t.line i).state = .busied) ∧
        ((s.line i).state = .answering ∨ (s.line i).state = .speed →
          (t.line i).state = .hangup ∧ (t.line i).reserved = false) ∧
        ((s.line i).state = .signOn → (s.line i).txChar ≠ none →
          (t.line i).state = .closing ∧ (t.line i).signOn = none ∧ (t.line i).closingSlot = some 8 ∧
          (t.line i).reserved = (s.line i).reserved ∧ ∀ e ∈ t.checkQueue, e.line ≠ i)) ∧
  (∀ s : State, s.mainPower = true → s.lineLaw → s.watch.down = true → s.watch.holdDownTimer = some 0 →
    let held := allLines.filter fun i => (s.session i).any (·.state == .held)
    ∃ t : State, exec .holdDownExpiry s = .next t ∧ t.watch = { s.watch with holdDownTimer := none } ∧
      (∀ i : LineId, t.session i = (s.session i).map fun x =>
        if x.state = .held then
          { x with
            state := .closing, heldFrom := none, grace := none, closeReason := some .systemDown
            closeStamp := some s.clock.stamp, work := some .pending }
        else x) ∧
      (∀ i : LineId, (t.line i).state = (s.line i).state) ∧
      t.engine = { s.engine with closeWork := s.engine.closeWork ++ held } ∧
      t.input = s.input ++ held.filterMap fun i => (s.session i).map fun x => .closeMark i x.serial .systemDown)

/-- R156 and R159: a T command taken while the watch is DOWN brings it UP first: the timers stop, SYSTEM_UP is latched,
a session held from GRACE resumes in GRACE with its timer, one held from METERED resumes in METERED, or in GRACE when
its account is exhausted by its class, and the lines act on their readiness. A grace of 0 then gives a close decision
with reason FUNDS, its account work asked for, and the line is in CLOSING (R146; in line order, log entry 34). Then the
command is executed on the resumed state, as `GoStartsTheCommand` gives it, whatever T command it is: the first part says
it whole for a command without table work, the second for every command, RESTART (R194) and those with table work too. -/
def Obligations.CommandBringsTheWatchUp : Prop :=
  (∀ (c : Instr) (s : State), s.live .t → s.tPort.state = .building → s.tPort.overflow = false →
    decodeRecord .t s.tPort.record = some c → roleOk .t c = true → isRestart c = false → isTableCommand c = false →
    s.restarting .a = false → s.watch.down = true →
    (∀ (i : LineId) (x : Session), s.session i = some x → 0 < (s.classRec x.cls).grace) →
    ∃ t : State, exec (.go .t) s = .next t ∧
      t.watch = { s.watch with down := false, timer := none, holdDownTimer := none } ∧
      t.tPort = { s.tPort with state := .busy, job := some ⟨.started, c⟩ } ∧
      t.aPort = s.aPort.latch ACause.systemUp.bit ∧
      (∀ i : LineId, t.session i = (s.session i).map fun x =>
        if x.state ≠ .held then x
        else if x.heldFrom = some .grace then { x with state := .grace, heldFrom := none }
        else if s.exhausted x then
          { x with state := .grace, heldFrom := none, grace := some (s.classRec x.cls).grace }
        else { x with state := .metered, heldFrom := none }) ∧
      (∀ i : LineId, (s.line i).state = .busied → s.effEnable i = true →
        ((t.line i).state = .idle ↔ t.ready i = true)) ∧
      t.accounts = s.accounts ∧ t.input = s.input ∧ t.billing = s.billing) ∧
  (∀ (c : Instr) (s : State), s.live .t → s.tPort.state = .building → s.tPort.overflow = false →
    decodeRecord .t s.tPort.record = some c → roleOk .t c = true → s.watch.down = true →
    -- a session held from METERED whose account is exhausted and whose class gives no grace closes with FUNDS
    let ends := fun x : Session => x.state = .held ∧ x.heldFrom ≠ some .grace ∧ s.exhausted x = true ∧
      (s.classRec x.cls).grace = 0
    let ending := allLines.filter fun i => (s.session i).any fun x => decide (ends x)
    ∃ u : State, exec (.go .t) s = exec (.go .t) u ∧ u.live .t ∧
      u.watch = { s.watch with down := false, timer := none, holdDownTimer := none } ∧
      u.tPort = { s.tPort with latches := u.tPort.latches } ∧ u.aPort = s.aPort.latch ACause.systemUp.bit ∧
      (∀ i : LineId, u.session i = (s.session i).map fun x =>
        if x.state ≠ .held then x
        else if ends x then
          { x with
            state := .closing, heldFrom := none, grace := none, closeReason := some .funds
            closeStamp := some s.clock.stamp, work := some .pending }
        else if x.heldFrom = some .grace then { x with state := .grace, heldFrom := none }
        else if s.exhausted x then
          { x with state := .grace, heldFrom := none, grace := some (s.classRec x.cls).grace }
        else { x with state := .metered, heldFrom := none }) ∧
      (∀ i ∈ ending, (u.line i).state = .closing ∧ (u.line i).buffer = [] ∧
        ((s.line i).txChar ≠ none → (u.line i).closingSlot = some 10)) ∧
      u.input = s.input ++ ending.filterMap (fun i => (s.session i).map fun x => .closeMark i x.serial .funds) ∧
      u.engine = { s.engine with closeWork := s.engine.closeWork ++ ending } ∧
      (∀ i : LineId, i ∉ ending →
        u.line i = ({ s.line i with session := u.session i }).rejudge (u.effEnable i) (u.ready i)) ∧
      u = { s with
        watch := u.watch, tPort := u.tPort, aPort := u.aPort, lines := u.lines, input := u.input, engine := u.engine })

/-- R27, R47, R165, R166, R196: RESTART, in its access, leaves no session part, account work that is PENDING made first
(log entry 45), answers the number it closed, empties the transport blocks and the check request queue, takes every
call to HANGUP, sets the watch UP and latches RESTARTED at both ports; enables, settings, fault kinds, clock and, in
NONE or REQUESTED, the hold stand, and so do classes and tariffs but for the installs taken since the grant (R125). A
line in TEST leaves it by its earlier state, FAULTED staying FAULTED without a new LINE_FAULT, and the LINE TEST at the
T port completes with RESTARTED (R25, R194); a line in DISABLED, IDLE or BUSIED goes by its enable and readiness. The
count and the records it leaves are stated for classes that truncate, and so are the RINGING lines, where no account
work is PENDING. The model's form in it: log entry 32. -/
def Obligations.RestartClosesEverything : Prop :=
  ∀ (p : PortId) (s : State), s.grantedNext p (.restart p) → s.lineLaw →
    ∃ (n : Word) (t : State), exec (.restart p) s = .next t ∧ (t.port p).answered p .ok false [n] ∧
      (s.tPort.starting = false → t.tPort.latches.getLsbD TCause.restarted.bit = true) ∧
      (s.aPort.starting = false → t.aPort.latches.getLsbD ACause.restarted.bit = true) ∧
      t.input = [] ∧ t.checkQueue = [] ∧ t.arbiter.checkerAsked = false ∧ t.stagingSlot = none ∧ t.staged = [] ∧
      t.tariff = { s.installs.foldl Tariff.install s.tariff with stagingSchedule := none, stagedBands := [] } ∧
      t.watch.down = false ∧ t.watch.holdDownTimer = none ∧ t.watch.window = s.watch.window ∧
      t.watch.timer = (if s.watch.window = 0 then s.watch.timer else some (s.watch.window * 10)) ∧
      t.groups = s.groups ∧ t.slots = s.slots ∧ t.classes = s.installs.foldl installClass s.classes ∧
      t.installs = [] ∧ t.clock = s.clock ∧ (s.hold.state = .none ∨ s.hold.state = .requested → t.hold = s.hold) ∧
      t.tPort.latches.getLsbD TCause.lineFault.bit = s.tPort.latches.getLsbD TCause.lineFault.bit ∧
      (∀ (n sp : Word) (i : LineId), p = .a → s.tPort.starting = false → (s.line i).state = .test →
        s.tPort.state = .busy → s.tPort.job = some ⟨.testing, .lineTest .t n sp⟩ →
        t.tPort.answered .t .restarted false []) ∧
      (∀ (i : LineId) (q : TestPart), (s.line i).test = some q →
        (t.line i).state = if q.earlier = .faulted then .faulted else restState (t.effEnable i) (t.ready i)) ∧
      (∀ i : LineId, t.session i = none ∧ (t.line i).signOn = none ∧ (t.line i).buffer = [] ∧
        (t.line i).messages = [] ∧ (t.line i).notice = false ∧ (t.line i).inSpaceSet = false ∧
        (t.line i).overrun = false ∧ (t.line i).test = none ∧ (t.line i).enable = (s.line i).enable ∧
        (t.line i).fault = (s.line i).fault ∧
        ((s.line i).state = .disabled ∨ (s.line i).state = .idle ∨ (s.line i).state = .busied →
          (t.line i).state = restState (t.effEnable i) (t.ready i)) ∧
        ((s.line i).state = .answering ∨ (s.line i).state = .speed ∨ (s.line i).state = .signOn ∨
            (s.line i).state = .session ∨ (s.line i).state = .closing → (t.line i).state = .hangup) ∧
        ((s.line i).state = .hangup ∨ (s.line i).state = .faulted → (t.line i).state = (s.line i).state)) ∧
      ((∀ c : Fin 4, (s.classRec c).rounding = .truncate) →
        let open_ := allLines.filter fun i => (s.openSession i).isSome
        -- account work still PENDING is made first
        let pending := allLines.filter fun i => decide (i ∈ s.engine.closeWork) && (s.session i).any (·.work == some .pending)
        n = w16 open_.length ∧
          t.billing.records.length = s.billing.records.length + pending.length + open_.length ∧
          (pending = [] → ∀ i : LineId, (s.line i).state = .ringing → (t.line i).state = .hangup))

/-- R162 to R164, R167, R172, R173, R182 and R189, with the defaults of R1, R3, R28, R40, R56, R92, R119, R129 and
R155: with no access in progress, a failure of main power leaves the retained plane as it stands and sets the operating
plane to its defaults; main power-up, and RESET while powered, run the recovery sweep: every open session has a billing
record with reason POWER and its last metered stamp, pending account work one with its own reason and stamp, the
deferred entries, unposted units and rounding units are posted to the accounts, the seconds due and unposted are added,
the open counts go down, nothing stays set aside, and the ports take writes, with the level causes that hold latched.
Either way every other part of the operating plane is at its defaults, and the schedules and day map, the classes, the
clock and the serial counter stand; the records of the sweep join the store in line order, with the sequences that
follow. A POWER record shows the exact sum of R175 where the session's own seconds lead to its last metered stamp (log
entry 39 names the sessions whose do not). An access in progress is carried to its end first, with the installs taken
during it (R92, R125): a failure, a power-up or RESET during an access answers what it answers after it. Retained
power-up leaves the state of `State.reset`, with the model's own queue and free index kept (log entry 12). The model's
forms in it: log entries 2, 13, 14 and 39. -/
def Obligations.PowerEventsKeepTheRetainedPlane : Prop :=
  (∀ s : State, s.arbiter.grant = none → ∃ t : State, exec .mainPowerFailure s = .next t ∧ t.mainPower = false ∧ s.sameTables t ∧
    t.deferred = s.deferred ∧ t.billing = { s.billing with reservations := 0 } ∧ t.hold = { s.hold with timer := none } ∧
    t.engine =
      { s.engine with pass := none, remembered := none, dueAsked := false, closeWork := [] } ∧
    t.tariff = { s.tariff with stagingSchedule := none, stagedBands := [] } ∧ t.stagingSlot = none ∧ t.staged = [] ∧
    t.arbiter = ⟨none, [.checker, .unit .t, .unit .a], false, false⟩ ∧
    t.tPort = PortUnit.initial ∧ t.aPort = PortUnit.initial ∧ t.watch = Watch.initial ∧ t.input = [] ∧
    t.installs = [] ∧ t.checkQueue = [] ∧ (∀ g : Fin 4, t.group g = GroupRec.initial) ∧
    (∀ k : Fin 16, t.slots.get k = []) ∧
    ∀ i : LineId, t.line i = { LineRec.initial with session := s.session i }) ∧
  (∀ s : State, s.arbiter.grant = none →
    let bills := fun x : Session => x.state.isOpen || x.work == some .pending
    let up := fun x : Session =>
      match (s.classRec x.cls).rounding with
      | .truncate => 0
      | .halfUp => if 3000 ≤ x.residue then 1 else 0
      | .ceiling => if 0 < x.residue then 1 else 0
    let total := fun (user : Nat) (f : Session → Nat) =>
      (allLines.map fun i => (s.session i).elim 0 fun x => if x.user = user then f x else 0).sum
    let units := fun user : Nat => ((s.deferred.filter fun e => e.user == user).map Deferred.units).sum +
      total user fun x => if bills x then x.unpostedUnits + up x else 0
    let due := fun user : Nat => ((s.engine.secondsDue.filter fun e => e.user == user).map DueEntry.seconds).sum +
      total user Session.unpostedSeconds
    ∃ t : State, exec .mainPowerUp s = .next t ∧ t.mainPower = true ∧ t.pending = s.pending ∧
      t.tPort = { PortUnit.initial with starting := false } ∧
      t.aPort = { PortUnit.initial with
        starting := false
        latches := (if t.billing.records = [] then 0 else bitWord ACause.billing.bit) |||
          (if 80 ≤ t.billing.records.length then bitWord ACause.billingHigh.bit else 0) |||
          (if s.clockInvalid then bitWord ACause.clockInvalid.bit else 0) } ∧
      t.deferred = [] ∧ t.hold = Hold.initial ∧
      t.engine = ⟨none, none, [], false, [], s.engine.ticks⟩ ∧
      t.tariff = { s.tariff with stagingSchedule := none, stagedBands := [] } ∧ t.stagingSlot = none ∧ t.staged = [] ∧
      t.arbiter = ⟨none, [.checker, .unit .t, .unit .a], false, false⟩ ∧ t.watch = Watch.initial ∧ t.input = [] ∧
      t.installs = [] ∧ t.checkQueue = [] ∧ (∀ g : Fin 4, t.group g = GroupRec.initial) ∧ (∀ k : Fin 16, t.slots.get k = []) ∧
      t.billing.reservations = 0 ∧ t.classes = s.classes ∧ t.clock = s.clock ∧ t.clockInvalid = s.clockInvalid ∧
      t.serialCounter = s.serialCounter ∧ (∀ i : LineId, t.line i = LineRec.initial) ∧
      ((∀ b ∈ s.accounts, -8388608 ≤ b.balance ∧ b.periodUnits ≤ 4294967295 ∧ b.periodSeconds ≤ 4294967295) →
        t.accounts = s.accounts.map fun b =>
          { b with
            balance := max (-8388608) (b.balance - units b.user)
            periodUnits := min (b.periodUnits + units b.user) 4294967295
            periodSeconds := min (b.periodSeconds + due b.user) 4294967295
            openCount := b.openCount - total b.user fun x => if bills x then 1 else 0 }) ∧
      t.billing.records.take s.billing.records.length = s.billing.records ∧
      t.billing.records.length = s.billing.records.length +
        (allLines.filter fun i => (s.session i).any bills).length ∧
      (t.billing.records.drop s.billing.records.length).map (·.line) =
        (allLines.filter fun i => (s.session i).any bills) ∧
      (∀ (k : Nat) (r : BillingRecord), t.billing.records[s.billing.records.length + k]? = some r →
        r.sequence = nextCounter^[k] s.billing.sequence) ∧
      t.billing.sequence =
        nextCounter^[(allLines.filter fun i => (s.session i).any bills).length] s.billing.sequence ∧
      (∀ (i : LineId) (x : Session), s.session i = some x → bills x = true →
        ∃ r ∈ t.billing.records.drop s.billing.records.length, r.line = i ∧ r.serial = x.serial ∧ r.user = x.user ∧
          r.connectSeconds = x.connectSeconds ∧ r.heldSeconds = x.heldSeconds ∧
          (x.connectUnits < 4294967295 → r.connectUnits = x.connectUnits + up x) ∧ r.roundedUp = decide (up x = 1) ∧
          r.openStamp = x.openStamp ∧
          (x.state.isOpen = true → r.reason = .power ∧ r.closeStamp = x.lastMetered ∧
            (x.openStamp.distance x.lastMetered = x.connectSeconds + x.heldSeconds → r.stampsAgree = true)) ∧
          (x.state.isOpen = false → ∀ (why : CloseReason) (at_ : Stamp), x.closeReason = some why →
            x.closeStamp = some at_ → r.reason = why ∧ r.closeStamp = at_)) ∧
      (s.mainPower = true → exec .reset s = .next t)) ∧
  -- an access in progress is carried to its end first (R92): a power event during it is one after it
  (∀ (c : Instr) (s t : State), s.mainPower = true →
    (c = .verdict ∧ s.arbiter.grant = some .checker) ∨
      (c = .commandTableAccess ∧ ∃ p : PortId, s.arbiter.grant = some (.unit p)) →
    exec c s = .next t →
    let u := { t with arbiter := { t.arbiter with grant := none } }
    exec .mainPowerUp s = exec .mainPowerUp u ∧ exec .reset s = exec .reset u ∧
      (s.hold.state ≠ .releasing → s.hold.state ≠ .granted ∨ s.hold.timer ≠ some 0 →
        exec .mainPowerFailure s = exec .mainPowerFailure u)) ∧
  (∀ s : State, s.mainPower = false → exec .reset s = .next s) ∧
  (∀ s : State, exec .retainedPowerUp s = .next { State.reset with pending := s.pending, freeIndex := s.freeIndex }) ∧
  State.reset.accounts = [] ∧ State.reset.clockInvalid = true ∧ State.reset.clock = ⟨0, 1, 1, 0, 0, 0, 1⟩ ∧
    State.reset.serialCounter = 1 ∧ State.reset.billing = ⟨[], 1, 0⟩ ∧ State.reset.deferred = [] ∧
    ∀ i : LineId, State.reset.line i = LineRec.initial

/-! ### Laws that every step keeps -/

/-- The state after reset meets every law stated below: with nothing listed in any table or queue, each holds there.
The model's form in it: log entry 12. -/
def Obligations.ResetMeetsTheLaws : Prop :=
  State.reset.accountsOrdered ∧ State.reset.openCountLaw ∧ State.reset.inputLaw ∧ State.reset.holdLaw ∧
    State.reset.sequenceLaw ∧
    State.reset.serialLaw ∧ State.reset.lineLaw ∧ State.reset.watchLaw ∧ State.reset.storeLaw

/-- R70 and R75: every step keeps the account table in ascending order of user number and at most 1024 records. -/
def Obligations.EveryStepKeepsTheAccountsOrdered : Prop :=
  ∀ s t : State, s.accountsOrdered → step s = .next t → t.accountsOrdered

/-- R30, the law of the input queue: every step keeps the free entries at least the sessions METERED, GRACE or HELD. -/
def Obligations.EveryStepKeepsTheInputLaw : Prop :=
  ∀ s t : State, s.inputLaw → step s = .next t → t.inputLaw

/-- R108, the law of the hold: every step keeps it that with the hold NONE, or only REQUESTED, nothing is set aside and no
pass begun in GRANTED is in progress. -/
def Obligations.EveryStepKeepsTheHoldLaw : Prop :=
  ∀ s t : State, s.holdLaw → step s = .next t → t.holdLaw

/-- R149, R173 and R148: every step keeps the session serials distinct, the billing sequences rising by one from record to
record with the counter next after them, and both counters within 1 to 65,535; and it keeps the law of the open count,
with each line in agreement with its state (Table 1-1) and each account in the table once. -/
def Obligations.EveryStepKeepsSerialsAndSequences : Prop :=
  (∀ s t : State, s.serialLaw → s.sequenceLaw → step s = .next t → t.serialLaw ∧ t.sequenceLaw) ∧
  (∀ s t : State, s.lineLaw → s.accountsOrdered → s.openCountLaw → step s = .next t → t.openCountLaw)

/-- R168, the law of the billing store, with Table 1-1: every step keeps the parts of each line in agreement with its
state, the reservation count the number of lines that hold one, a reservation on every line answered and not yet
billed, and records and reservations together at most 96. -/
def Obligations.EveryStepKeepsTheBillingStoreLaw : Prop :=
  ∀ s t : State, s.lineLaw → s.storeLaw → step s = .next t → t.lineLaw ∧ t.storeLaw

/-- R157, the law of the watch: every step keeps it that while the watch is DOWN no session is METERED or GRACE and no
line is IDLE or in a call short of a session. -/
def Obligations.EveryStepKeepsTheWatchLaw : Prop :=
  ∀ s t : State, s.lineLaw → s.watchLaw → step s = .next t → t.watchLaw
end

