-- ==== Sys2Proof/Laws/State.lean ====
section
/-! SUPPORT. The small lemmas of the state: banks, and one lemma per field for each named update of a part of the
state, so that no later proof unfolds a record update. -/

namespace Sys2Proof

/-! ### Banks -/

@[simp] theorem Bank.get_set_self {α : Type} {n : Nat} (b : Bank α n) (i : Fin n) (x : α) : (b.set i x).get i = x := by
  simp [Bank.get, Bank.set]

theorem Bank.get_set_ne {α : Type} {n : Nat} (b : Bank α n) {i j : Fin n} (x : α) (h : i ≠ j) :
    (b.set i x).get j = b.get j := by
  have : i.val ≠ j.val := fun e => h (Fin.ext e)
  simp [Bank.get, Bank.set, List.getElem_set_ne this]

theorem Bank.get_set {α : Type} {n : Nat} (b : Bank α n) (i j : Fin n) (x : α) :
    (b.set i x).get j = if i = j then x else b.get j := by
  by_cases h : i = j
  · subst h; simp
  · simp [h, Bank.get_set_ne b x h]

@[simp] theorem Bank.get_ofFn {α : Type} {n : Nat} (f : Fin n → α) (i : Fin n) : (Bank.ofFn f).get i = f i := by
  simp [Bank.get, Bank.ofFn]

@[simp] theorem Bank.get_replicate {α : Type} (n : Nat) (x : α) (i : Fin n) : (Bank.replicate n x).get i = x := by
  simp [Bank.get, Bank.replicate]

theorem Bank.ext_get {α : Type} {n : Nat} {b c : Bank α n} (h : ∀ i, b.get i = c.get i) : b = c := by
  obtain ⟨xs, hx⟩ := b
  obtain ⟨ys, hy⟩ := c
  have : xs = ys := by
    apply List.ext_getElem (by rw [hx, hy])
    intro k h1 h2
    have := h ⟨k, by omega⟩
    simpa [Bank.get] using this
  subst this; rfl

@[simp] theorem Bank.set_get_self {α : Type} {n : Nat} (b : Bank α n) (i : Fin n) : b.set i (b.get i) = b := by
  apply Bank.ext_get
  intro j
  rw [Bank.get_set]
  split <;> simp_all

namespace Machine

/-! ### Ports -/

@[simp] theorem State.port_setPort (s : State) (p : PortId) (u : PortUnit) : (s.setPort p u).port p = u := by
  cases p <;> rfl

theorem State.port_setPort_ne (s : State) {p q : PortId} (u : PortUnit) (h : q ≠ p) :
    (s.setPort p u).port q = s.port q := by
  cases p <;> cases q <;> first | rfl | exact absurd rfl h

@[simp] theorem State.port_setPort_other (s : State) (p : PortId) (u : PortUnit) :
    (s.setPort p u).port p.other = s.port p.other := by
  cases p <;> rfl

@[simp] theorem State.port_modPort (s : State) (p : PortId) (f : PortUnit → PortUnit) :
    (s.modPort p f).port p = f (s.port p) := by
  simp [State.modPort]

@[simp] theorem State.port_modPort_other (s : State) (p : PortId) (f : PortUnit → PortUnit) :
    (s.modPort p f).port p.other = s.port p.other := by
  simp [State.modPort]

@[simp] theorem PortId.other_ne (p : PortId) : p.other ≠ p := by cases p <;> decide

@[simp] theorem PortId.other_other (p : PortId) : p.other.other = p := by cases p <;> rfl

@[simp] theorem State.setPort_mainPower (s : State) (p : PortId) (u : PortUnit) : (s.setPort p u).mainPower = s.mainPower := by
  cases p <;> rfl

@[simp] theorem State.setPort_lines (s : State) (p : PortId) (u : PortUnit) : (s.setPort p u).lines = s.lines := by
  cases p <;> rfl

@[simp] theorem State.setPort_groups (s : State) (p : PortId) (u : PortUnit) : (s.setPort p u).groups = s.groups := by
  cases p <;> rfl

@[simp] theorem State.setPort_slots (s : State) (p : PortId) (u : PortUnit) : (s.setPort p u).slots = s.slots := by
  cases p <;> rfl

@[simp] theorem State.setPort_stagingSlot (s : State) (p : PortId) (u : PortUnit) : (s.setPort p u).stagingSlot = s.stagingSlot := by
  cases p <;> rfl

@[simp] theorem State.setPort_staged (s : State) (p : PortId) (u : PortUnit) : (s.setPort p u).staged = s.staged := by
  cases p <;> rfl

@[simp] theorem State.setPort_input (s : State) (p : PortId) (u : PortUnit) : (s.setPort p u).input = s.input := by
  cases p <;> rfl

@[simp] theorem State.setPort_checkQueue (s : State) (p : PortId) (u : PortUnit) : (s.setPort p u).checkQueue = s.checkQueue := by
  cases p <;> rfl

@[simp] theorem State.setPort_accounts (s : State) (p : PortId) (u : PortUnit) : (s.setPort p u).accounts = s.accounts := by
  cases p <;> rfl

@[simp] theorem State.setPort_classes (s : State) (p : PortId) (u : PortUnit) : (s.setPort p u).classes = s.classes := by
  cases p <;> rfl

@[simp] theorem State.setPort_arbiter (s : State) (p : PortId) (u : PortUnit) : (s.setPort p u).arbiter = s.arbiter := by
  cases p <;> rfl

@[simp] theorem State.setPort_hold (s : State) (p : PortId) (u : PortUnit) : (s.setPort p u).hold = s.hold := by
  cases p <;> rfl

@[simp] theorem State.setPort_deferred (s : State) (p : PortId) (u : PortUnit) : (s.setPort p u).deferred = s.deferred := by
  cases p <;> rfl

@[simp] theorem State.setPort_clock (s : State) (p : PortId) (u : PortUnit) : (s.setPort p u).clock = s.clock := by
  cases p <;> rfl

@[simp] theorem State.setPort_clockInvalid (s : State) (p : PortId) (u : PortUnit) : (s.setPort p u).clockInvalid = s.clockInvalid := by
  cases p <;> rfl

@[simp] theorem State.setPort_tariff (s : State) (p : PortId) (u : PortUnit) : (s.setPort p u).tariff = s.tariff := by
  cases p <;> rfl

@[simp] theorem State.setPort_installs (s : State) (p : PortId) (u : PortUnit) : (s.setPort p u).installs = s.installs := by
  cases p <;> rfl

@[simp] theorem State.setPort_engine (s : State) (p : PortId) (u : PortUnit) : (s.setPort p u).engine = s.engine := by
  cases p <;> rfl

@[simp] theorem State.setPort_serialCounter (s : State) (p : PortId) (u : PortUnit) : (s.setPort p u).serialCounter = s.serialCounter := by
  cases p <;> rfl

@[simp] theorem State.setPort_billing (s : State) (p : PortId) (u : PortUnit) : (s.setPort p u).billing = s.billing := by
  cases p <;> rfl

@[simp] theorem State.setPort_watch (s : State) (p : PortId) (u : PortUnit) : (s.setPort p u).watch = s.watch := by
  cases p <;> rfl

@[simp] theorem State.setPort_freeIndex (s : State) (p : PortId) (u : PortUnit) : (s.setPort p u).freeIndex = s.freeIndex := by
  cases p <;> rfl

@[simp] theorem State.setPort_pending (s : State) (p : PortId) (u : PortUnit) : (s.setPort p u).pending = s.pending := by
  cases p <;> rfl

@[simp] theorem State.modPort_mainPower (s : State) (p : PortId) (f : PortUnit → PortUnit) :
    (s.modPort p f).mainPower = s.mainPower := by
  simp [State.modPort]

@[simp] theorem State.modPort_lines (s : State) (p : PortId) (f : PortUnit → PortUnit) :
    (s.modPort p f).lines = s.lines := by
  simp [State.modPort]

@[simp] theorem State.modPort_groups (s : State) (p : PortId) (f : PortUnit → PortUnit) :
    (s.modPort p f).groups = s.groups := by
  simp [State.modPort]

@[simp] theorem State.modPort_slots (s : State) (p : PortId) (f : PortUnit → PortUnit) :
    (s.modPort p f).slots = s.slots := by
  simp [State.modPort]

@[simp] theorem State.modPort_stagingSlot (s : State) (p : PortId) (f : PortUnit → PortUnit) :
    (s.modPort p f).stagingSlot = s.stagingSlot := by
  simp [State.modPort]

@[simp] theorem State.modPort_staged (s : State) (p : PortId) (f : PortUnit → PortUnit) :
    (s.modPort p f).staged = s.staged := by
  simp [State.modPort]

@[simp] theorem State.modPort_input (s : State) (p : PortId) (f : PortUnit → PortUnit) :
    (s.modPort p f).input = s.input := by
  simp [State.modPort]

@[simp] theorem State.modPort_checkQueue (s : State) (p : PortId) (f : PortUnit → PortUnit) :
    (s.modPort p f).checkQueue = s.checkQueue := by
  simp [State.modPort]

@[simp] theorem State.modPort_accounts (s : State) (p : PortId) (f : PortUnit → PortUnit) :
    (s.modPort p f).accounts = s.accounts := by
  simp [State.modPort]

@[simp] theorem State.modPort_classes (s : State) (p : PortId) (f : PortUnit → PortUnit) :
    (s.modPort p f).classes = s.classes := by
  simp [State.modPort]

@[simp] theorem State.modPort_arbiter (s : State) (p : PortId) (f : PortUnit → PortUnit) :
    (s.modPort p f).arbiter = s.arbiter := by
  simp [State.modPort]

@[simp] theorem State.modPort_hold (s : State) (p : PortId) (f : PortUnit → PortUnit) :
    (s.modPort p f).hold = s.hold := by
  simp [State.modPort]

@[simp] theorem State.modPort_deferred (s : State) (p : PortId) (f : PortUnit → PortUnit) :
    (s.modPort p f).deferred = s.deferred := by
  simp [State.modPort]

@[simp] theorem State.modPort_clock (s : State) (p : PortId) (f : PortUnit → PortUnit) :
    (s.modPort p f).clock = s.clock := by
  simp [State.modPort]

@[simp] theorem State.modPort_clockInvalid (s : State) (p : PortId) (f : PortUnit → PortUnit) :
    (s.modPort p f).clockInvalid = s.clockInvalid := by
  simp [State.modPort]

@[simp] theorem State.modPort_tariff (s : State) (p : PortId) (f : PortUnit → PortUnit) :
    (s.modPort p f).tariff = s.tariff := by
  simp [State.modPort]

@[simp] theorem State.modPort_installs (s : State) (p : PortId) (f : PortUnit → PortUnit) :
    (s.modPort p f).installs = s.installs := by
  simp [State.modPort]

@[simp] theorem State.modPort_engine (s : State) (p : PortId) (f : PortUnit → PortUnit) :
    (s.modPort p f).engine = s.engine := by
  simp [State.modPort]

@[simp] theorem State.modPort_serialCounter (s : State) (p : PortId) (f : PortUnit → PortUnit) :
    (s.modPort p f).serialCounter = s.serialCounter := by
  simp [State.modPort]

@[simp] theorem State.modPort_billing (s : State) (p : PortId) (f : PortUnit → PortUnit) :
    (s.modPort p f).billing = s.billing := by
  simp [State.modPort]

@[simp] theorem State.modPort_watch (s : State) (p : PortId) (f : PortUnit → PortUnit) :
    (s.modPort p f).watch = s.watch := by
  simp [State.modPort]

@[simp] theorem State.modPort_freeIndex (s : State) (p : PortId) (f : PortUnit → PortUnit) :
    (s.modPort p f).freeIndex = s.freeIndex := by
  simp [State.modPort]

@[simp] theorem State.modPort_pending (s : State) (p : PortId) (f : PortUnit → PortUnit) :
    (s.modPort p f).pending = s.pending := by
  simp [State.modPort]

@[simp] theorem State.setPort_line (s : State) (p : PortId) (u : PortUnit) (i : LineId) :
    (s.setPort p u).line i = s.line i := by
  simp [State.line]

@[simp] theorem State.modPort_line (s : State) (p : PortId) (f : PortUnit → PortUnit) (i : LineId) :
    (s.modPort p f).line i = s.line i := by
  simp [State.line]

/-! ### Lines -/

@[simp] theorem State.line_setLine (s : State) (i : LineId) (l : LineRec) : (s.setLine i l).line i = l := by
  simp [State.line, State.setLine]

theorem State.line_setLine_ne (s : State) {i j : LineId} (l : LineRec) (h : i ≠ j) :
    (s.setLine i l).line j = s.line j := by
  simp [State.line, State.setLine, Bank.get_set_ne _ _ h]

@[simp] theorem State.line_modLine (s : State) (i : LineId) (f : LineRec → LineRec) :
    (s.modLine i f).line i = f (s.line i) := by
  simp [State.modLine]

theorem State.line_modLine_ne (s : State) {i j : LineId} (f : LineRec → LineRec) (h : i ≠ j) :
    (s.modLine i f).line j = s.line j := by
  simp [State.modLine, State.line_setLine_ne _ _ h]

@[simp] theorem State.line_mapLines (s : State) (f : LineId → LineRec → LineRec) (i : LineId) :
    (s.mapLines f).line i = f i (s.line i) := by
  simp [State.line, State.mapLines]

@[simp] theorem State.modLine_port (s : State) (i : LineId) (f : LineRec → LineRec) (p : PortId) :
    (s.modLine i f).port p = s.port p := by
  cases p <;> rfl

@[simp] theorem State.mapLines_port (s : State) (f : LineId → LineRec → LineRec) (p : PortId) :
    (s.mapLines f).port p = s.port p := by
  cases p <;> rfl

@[simp] theorem State.setLine_mainPower (s : State) (i : LineId) (l : LineRec) : (s.setLine i l).mainPower = s.mainPower := rfl

@[simp] theorem State.setLine_tPort (s : State) (i : LineId) (l : LineRec) : (s.setLine i l).tPort = s.tPort := rfl

@[simp] theorem State.setLine_aPort (s : State) (i : LineId) (l : LineRec) : (s.setLine i l).aPort = s.aPort := rfl

@[simp] theorem State.setLine_groups (s : State) (i : LineId) (l : LineRec) : (s.setLine i l).groups = s.groups := rfl

@[simp] theorem State.setLine_slots (s : State) (i : LineId) (l : LineRec) : (s.setLine i l).slots = s.slots := rfl

@[simp] theorem State.setLine_stagingSlot (s : State) (i : LineId) (l : LineRec) : (s.setLine i l).stagingSlot = s.stagingSlot := rfl

@[simp] theorem State.setLine_staged (s : State) (i : LineId) (l : LineRec) : (s.setLine i l).staged = s.staged := rfl

@[simp] theorem State.setLine_input (s : State) (i : LineId) (l : LineRec) : (s.setLine i l).input = s.input := rfl

@[simp] theorem State.setLine_checkQueue (s : State) (i : LineId) (l : LineRec) : (s.setLine i l).checkQueue = s.checkQueue := rfl

@[simp] theorem State.setLine_accounts (s : State) (i : LineId) (l : LineRec) : (s.setLine i l).accounts = s.accounts := rfl

@[simp] theorem State.setLine_classes (s : State) (i : LineId) (l : LineRec) : (s.setLine i l).classes = s.classes := rfl

@[simp] theorem State.setLine_arbiter (s : State) (i : LineId) (l : LineRec) : (s.setLine i l).arbiter = s.arbiter := rfl

@[simp] theorem State.setLine_hold (s : State) (i : LineId) (l : LineRec) : (s.setLine i l).hold = s.hold := rfl

@[simp] theorem State.setLine_deferred (s : State) (i : LineId) (l : LineRec) : (s.setLine i l).deferred = s.deferred := rfl

@[simp] theorem State.setLine_clock (s : State) (i : LineId) (l : LineRec) : (s.setLine i l).clock = s.clock := rfl

@[simp] theorem State.setLine_clockInvalid (s : State) (i : LineId) (l : LineRec) : (s.setLine i l).clockInvalid = s.clockInvalid := rfl

@[simp] theorem State.setLine_tariff (s : State) (i : LineId) (l : LineRec) : (s.setLine i l).tariff = s.tariff := rfl

@[simp] theorem State.setLine_installs (s : State) (i : LineId) (l : LineRec) : (s.setLine i l).installs = s.installs := rfl

@[simp] theorem State.setLine_engine (s : State) (i : LineId) (l : LineRec) : (s.setLine i l).engine = s.engine := rfl

@[simp] theorem State.setLine_serialCounter (s : State) (i : LineId) (l : LineRec) : (s.setLine i l).serialCounter = s.serialCounter := rfl

@[simp] theorem State.setLine_billing (s : State) (i : LineId) (l : LineRec) : (s.setLine i l).billing = s.billing := rfl

@[simp] theorem State.setLine_watch (s : State) (i : LineId) (l : LineRec) : (s.setLine i l).watch = s.watch := rfl

@[simp] theorem State.setLine_freeIndex (s : State) (i : LineId) (l : LineRec) : (s.setLine i l).freeIndex = s.freeIndex := rfl

@[simp] theorem State.setLine_pending (s : State) (i : LineId) (l : LineRec) : (s.setLine i l).pending = s.pending := rfl

@[simp] theorem State.modLine_mainPower (s : State) (i : LineId) (f : LineRec → LineRec) : (s.modLine i f).mainPower = s.mainPower := rfl

@[simp] theorem State.modLine_tPort (s : State) (i : LineId) (f : LineRec → LineRec) : (s.modLine i f).tPort = s.tPort := rfl

@[simp] theorem State.modLine_aPort (s : State) (i : LineId) (f : LineRec → LineRec) : (s.modLine i f).aPort = s.aPort := rfl

@[simp] theorem State.modLine_groups (s : State) (i : LineId) (f : LineRec → LineRec) : (s.modLine i f).groups = s.groups := rfl

@[simp] theorem State.modLine_slots (s : State) (i : LineId) (f : LineRec → LineRec) : (s.modLine i f).slots = s.slots := rfl

@[simp] theorem State.modLine_stagingSlot (s : State) (i : LineId) (f : LineRec → LineRec) : (s.modLine i f).stagingSlot = s.stagingSlot := rfl

@[simp] theorem State.modLine_staged (s : State) (i : LineId) (f : LineRec → LineRec) : (s.modLine i f).staged = s.staged := rfl

@[simp] theorem State.modLine_input (s : State) (i : LineId) (f : LineRec → LineRec) : (s.modLine i f).input = s.input := rfl

@[simp] theorem State.modLine_checkQueue (s : State) (i : LineId) (f : LineRec → LineRec) : (s.modLine i f).checkQueue = s.checkQueue := rfl

@[simp] theorem State.modLine_accounts (s : State) (i : LineId) (f : LineRec → LineRec) : (s.modLine i f).accounts = s.accounts := rfl

@[simp] theorem State.modLine_classes (s : State) (i : LineId) (f : LineRec → LineRec) : (s.modLine i f).classes = s.classes := rfl

@[simp] theorem State.modLine_arbiter (s : State) (i : LineId) (f : LineRec → LineRec) : (s.modLine i f).arbiter = s.arbiter := rfl

@[simp] theorem State.modLine_hold (s : State) (i : LineId) (f : LineRec → LineRec) : (s.modLine i f).hold = s.hold := rfl

@[simp] theorem State.modLine_deferred (s : State) (i : LineId) (f : LineRec → LineRec) : (s.modLine i f).deferred = s.deferred := rfl

@[simp] theorem State.modLine_clock (s : State) (i : LineId) (f : LineRec → LineRec) : (s.modLine i f).clock = s.clock := rfl

@[simp] theorem State.modLine_clockInvalid (s : State) (i : LineId) (f : LineRec → LineRec) : (s.modLine i f).clockInvalid = s.clockInvalid := rfl

@[simp] theorem State.modLine_tariff (s : State) (i : LineId) (f : LineRec → LineRec) : (s.modLine i f).tariff = s.tariff := rfl

@[simp] theorem State.modLine_installs (s : State) (i : LineId) (f : LineRec → LineRec) : (s.modLine i f).installs = s.installs := rfl

@[simp] theorem State.modLine_engine (s : State) (i : LineId) (f : LineRec → LineRec) : (s.modLine i f).engine = s.engine := rfl

@[simp] theorem State.modLine_serialCounter (s : State) (i : LineId) (f : LineRec → LineRec) : (s.modLine i f).serialCounter = s.serialCounter := rfl

@[simp] theorem State.modLine_billing (s : State) (i : LineId) (f : LineRec → LineRec) : (s.modLine i f).billing = s.billing := rfl

@[simp] theorem State.modLine_watch (s : State) (i : LineId) (f : LineRec → LineRec) : (s.modLine i f).watch = s.watch := rfl

@[simp] theorem State.modLine_freeIndex (s : State) (i : LineId) (f : LineRec → LineRec) : (s.modLine i f).freeIndex = s.freeIndex := rfl

@[simp] theorem State.modLine_pending (s : State) (i : LineId) (f : LineRec → LineRec) : (s.modLine i f).pending = s.pending := rfl

@[simp] theorem State.mapLines_mainPower (s : State) (f : LineId → LineRec → LineRec) : (s.mapLines f).mainPower = s.mainPower := rfl

@[simp] theorem State.mapLines_tPort (s : State) (f : LineId → LineRec → LineRec) : (s.mapLines f).tPort = s.tPort := rfl

@[simp] theorem State.mapLines_aPort (s : State) (f : LineId → LineRec → LineRec) : (s.mapLines f).aPort = s.aPort := rfl

@[simp] theorem State.mapLines_groups (s : State) (f : LineId → LineRec → LineRec) : (s.mapLines f).groups = s.groups := rfl

@[simp] theorem State.mapLines_slots (s : State) (f : LineId → LineRec → LineRec) : (s.mapLines f).slots = s.slots := rfl

@[simp] theorem State.mapLines_stagingSlot (s : State) (f : LineId → LineRec → LineRec) : (s.mapLines f).stagingSlot = s.stagingSlot := rfl

@[simp] theorem State.mapLines_staged (s : State) (f : LineId → LineRec → LineRec) : (s.mapLines f).staged = s.staged := rfl

@[simp] theorem State.mapLines_input (s : State) (f : LineId → LineRec → LineRec) : (s.mapLines f).input = s.input := rfl

@[simp] theorem State.mapLines_checkQueue (s : State) (f : LineId → LineRec → LineRec) : (s.mapLines f).checkQueue = s.checkQueue := rfl

@[simp] theorem State.mapLines_accounts (s : State) (f : LineId → LineRec → LineRec) : (s.mapLines f).accounts = s.accounts := rfl

@[simp] theorem State.mapLines_classes (s : State) (f : LineId → LineRec → LineRec) : (s.mapLines f).classes = s.classes := rfl

@[simp] theorem State.mapLines_arbiter (s : State) (f : LineId → LineRec → LineRec) : (s.mapLines f).arbiter = s.arbiter := rfl

@[simp] theorem State.mapLines_hold (s : State) (f : LineId → LineRec → LineRec) : (s.mapLines f).hold = s.hold := rfl

@[simp] theorem State.mapLines_deferred (s : State) (f : LineId → LineRec → LineRec) : (s.mapLines f).deferred = s.deferred := rfl

@[simp] theorem State.mapLines_clock (s : State) (f : LineId → LineRec → LineRec) : (s.mapLines f).clock = s.clock := rfl

@[simp] theorem State.mapLines_clockInvalid (s : State) (f : LineId → LineRec → LineRec) : (s.mapLines f).clockInvalid = s.clockInvalid := rfl

@[simp] theorem State.mapLines_tariff (s : State) (f : LineId → LineRec → LineRec) : (s.mapLines f).tariff = s.tariff := rfl

@[simp] theorem State.mapLines_installs (s : State) (f : LineId → LineRec → LineRec) : (s.mapLines f).installs = s.installs := rfl

@[simp] theorem State.mapLines_engine (s : State) (f : LineId → LineRec → LineRec) : (s.mapLines f).engine = s.engine := rfl

@[simp] theorem State.mapLines_serialCounter (s : State) (f : LineId → LineRec → LineRec) : (s.mapLines f).serialCounter = s.serialCounter := rfl

@[simp] theorem State.mapLines_billing (s : State) (f : LineId → LineRec → LineRec) : (s.mapLines f).billing = s.billing := rfl

@[simp] theorem State.mapLines_watch (s : State) (f : LineId → LineRec → LineRec) : (s.mapLines f).watch = s.watch := rfl

@[simp] theorem State.mapLines_freeIndex (s : State) (f : LineId → LineRec → LineRec) : (s.mapLines f).freeIndex = s.freeIndex := rfl

@[simp] theorem State.mapLines_pending (s : State) (f : LineId → LineRec → LineRec) : (s.mapLines f).pending = s.pending := rfl

/-! ### Accounts -/

@[simp] theorem State.modAccount_mainPower (s : State) (user : Nat) (f : Account → Account) :
    (s.modAccount user f).mainPower = s.mainPower := rfl

@[simp] theorem State.modAccount_tPort (s : State) (user : Nat) (f : Account → Account) :
    (s.modAccount user f).tPort = s.tPort := rfl

@[simp] theorem State.modAccount_aPort (s : State) (user : Nat) (f : Account → Account) :
    (s.modAccount user f).aPort = s.aPort := rfl

@[simp] theorem State.modAccount_lines (s : State) (user : Nat) (f : Account → Account) :
    (s.modAccount user f).lines = s.lines := rfl

@[simp] theorem State.modAccount_groups (s : State) (user : Nat) (f : Account → Account) :
    (s.modAccount user f).groups = s.groups := rfl

@[simp] theorem State.modAccount_slots (s : State) (user : Nat) (f : Account → Account) :
    (s.modAccount user f).slots = s.slots := rfl

@[simp] theorem State.modAccount_stagingSlot (s : State) (user : Nat) (f : Account → Account) :
    (s.modAccount user f).stagingSlot = s.stagingSlot := rfl

@[simp] theorem State.modAccount_staged (s : State) (user : Nat) (f : Account → Account) :
    (s.modAccount user f).staged = s.staged := rfl

@[simp] theorem State.modAccount_input (s : State) (user : Nat) (f : Account → Account) :
    (s.modAccount user f).input = s.input := rfl

@[simp] theorem State.modAccount_checkQueue (s : State) (user : Nat) (f : Account → Account) :
    (s.modAccount user f).checkQueue = s.checkQueue := rfl

@[simp] theorem State.modAccount_classes (s : State) (user : Nat) (f : Account → Account) :
    (s.modAccount user f).classes = s.classes := rfl

@[simp] theorem State.modAccount_arbiter (s : State) (user : Nat) (f : Account → Account) :
    (s.modAccount user f).arbiter = s.arbiter := rfl

@[simp] theorem State.modAccount_hold (s : State) (user : Nat) (f : Account → Account) :
    (s.modAccount user f).hold = s.hold := rfl

@[simp] theorem State.modAccount_deferred (s : State) (user : Nat) (f : Account → Account) :
    (s.modAccount user f).deferred = s.deferred := rfl

@[simp] theorem State.modAccount_clock (s : State) (user : Nat) (f : Account → Account) :
    (s.modAccount user f).clock = s.clock := rfl

@[simp] theorem State.modAccount_clockInvalid (s : State) (user : Nat) (f : Account → Account) :
    (s.modAccount user f).clockInvalid = s.clockInvalid := rfl

@[simp] theorem State.modAccount_tariff (s : State) (user : Nat) (f : Account → Account) :
    (s.modAccount user f).tariff = s.tariff := rfl

@[simp] theorem State.modAccount_installs (s : State) (user : Nat) (f : Account → Account) :
    (s.modAccount user f).installs = s.installs := rfl

@[simp] theorem State.modAccount_engine (s : State) (user : Nat) (f : Account → Account) :
    (s.modAccount user f).engine = s.engine := rfl

@[simp] theorem State.modAccount_serialCounter (s : State) (user : Nat) (f : Account → Account) :
    (s.modAccount user f).serialCounter = s.serialCounter := rfl

@[simp] theorem State.modAccount_billing (s : State) (user : Nat) (f : Account → Account) :
    (s.modAccount user f).billing = s.billing := rfl

@[simp] theorem State.modAccount_watch (s : State) (user : Nat) (f : Account → Account) :
    (s.modAccount user f).watch = s.watch := rfl

@[simp] theorem State.modAccount_freeIndex (s : State) (user : Nat) (f : Account → Account) :
    (s.modAccount user f).freeIndex = s.freeIndex := rfl

@[simp] theorem State.modAccount_pending (s : State) (user : Nat) (f : Account → Account) :
    (s.modAccount user f).pending = s.pending := rfl

@[simp] theorem State.modAccount_line (s : State) (user : Nat) (f : Account → Account) (i : LineId) :
    (s.modAccount user f).line i = s.line i := rfl

@[simp] theorem State.modAccount_port (s : State) (user : Nat) (f : Account → Account) (p : PortId) :
    (s.modAccount user f).port p = s.port p := by
  cases p <;> rfl

end Machine

end Sys2Proof
end

