-- ==== Sys2Proof/Laws/Rows.lean ====
section
/-! SUPPORT. What a command row does once its port is BUSY with it, and the small lemmas of completion. -/

namespace Sys2Proof.Machine

@[simp] theorem whenPowered_on {s : State} (h : s.mainPower = true) (f : State → State) : whenPowered s f = f s := by
  simp [whenPowered, h]

@[simp] theorem whenPowered_off {s : State} (h : s.mainPower = false) (f : State → State) : whenPowered s f = s := by
  simp [whenPowered, h]

/-- A port BUSY with a command that is with its owning block goes on to the command's work. -/
theorem give_running {s : State} {p : PortId} {c : Instr} (h : s.running p c) (work : State → State) :
    whenPowered s (give p c work) = work s := by
  obtain ⟨⟨hp, hs⟩, hb, hj⟩ := h
  simp [whenPowered, hp, give, hs, hb, State.carries, hj]

/-- A port BUSY with a command whose access is granted next makes the access and gives the table back. -/
theorem give_grantedNext {s : State} {p : PortId} {c : Instr} (h : s.grantedNext p c) :
    whenPowered s (give p c (serveNext p)) = giveBack (commandAccess p c (granted (.unit p) s)) := by
  obtain ⟨⟨hp, hs⟩, hb, hj, hg⟩ := h
  have hw : s.waitingCommand p = some c := by simp [State.waitingCommand, hb, hj]
  simp [whenPowered, hp, give, hs, hb, State.carries, hj, serveNext, hg, serve, hw]

/-- A port BUSY with another command ignores the row and latches COLLISION (R183, R184). -/
theorem give_busy {s : State} {p : PortId} {c : Instr} (hl : s.live p) (hb : (s.port p).state = .busy)
    (hc : s.carries p c = false) (work : State → State) :
    whenPowered s (give p c work) = latchCollision p s := by
  obtain ⟨hp, hs⟩ := hl
  simp [whenPowered, hp, give, hs, hb, hc]

/-- A row given at a port that is not BUSY is its record, GO, and its work (log entry 1). -/
theorem give_free {s : State} {p : PortId} {c : Instr} (hl : s.live p) (hb : (s.port p).state ≠ .busy)
    (work : State → State) :
    whenPowered s (give p c work) =
      let t := goAt p (writeRecordAt p (encodeRecord c) s)
      if t.carries p c then work t else t := by
  obtain ⟨hp, hs⟩ := hl
  simp [whenPowered, hp, give, hs, hb]

/-! ### Completion (R186) -/

@[simp] theorem PortUnit.latch_state (u : PortUnit) (n : Nat) : (u.latch n).state = u.state := by
  unfold PortUnit.latch; split <;> rfl

@[simp] theorem PortUnit.latch_starting (u : PortUnit) (n : Nat) : (u.latch n).starting = u.starting := by
  unfold PortUnit.latch; split <;> rfl

@[simp] theorem PortUnit.latch_vote (u : PortUnit) (n : Nat) : (u.latch n).vote = u.vote := by
  unfold PortUnit.latch; split <;> rfl

@[simp] theorem PortUnit.latch_job (u : PortUnit) (n : Nat) : (u.latch n).job = u.job := by
  unfold PortUnit.latch; split <;> rfl

@[simp] theorem PortUnit.latch_mask (u : PortUnit) (n : Nat) : (u.latch n).mask = u.mask := by
  unfold PortUnit.latch; split <;> rfl

@[simp] theorem PortUnit.completed_starting (u : PortUnit) (p : PortId) (st : Status) (cl : Bool) (f : List Word) :
    (u.completed p st cl f).starting = u.starting := by
  simp [PortUnit.completed]

@[simp] theorem PortUnit.completed_vote (u : PortUnit) (p : PortId) (st : Status) (cl : Bool) (f : List Word) :
    (u.completed p st cl f).vote = u.vote := by
  simp [PortUnit.completed]

theorem PortUnit.completed_answered (u : PortUnit) (p : PortId) (st : Status) (cl : Bool) (f : List Word)
    (h : u.starting = false) : (u.completed p st cl f).answered p st cl f := by
  cases p <;>
    simp [PortUnit.completed, PortUnit.latch, h, PortUnit.answered, bitWord, doneBit, TCause.bit, ACause.bit]

/-- What a completion does (R186): the port is answered; the other port stands; at the T port the watch timer starts at
the window, if the window is above 0. -/
theorem complete_eq (p : PortId) (st : Status) (cl : Bool) (f : List Word) (s : State) :
    complete p st cl f s =
      { s.setPort p ((s.port p).completed p st cl f) with
        watch := { s.watch with
          timer := if p = .t ∧ 0 < s.watch.window then Timer.seconds s.watch.window else s.watch.timer } } := by
  cases p
  · by_cases h : 0 < s.watch.window <;>
      simp [complete, startWatchTimer, State.modPort, State.setPort, h]
  · simp [complete, State.modPort, State.setPort]

@[simp] theorem complete_port (p : PortId) (st : Status) (cl : Bool) (f : List Word) (s : State) :
    (complete p st cl f s).port p = (s.port p).completed p st cl f := by
  rw [complete_eq]; cases p <;> rfl

@[simp] theorem complete_line (p : PortId) (st : Status) (cl : Bool) (f : List Word) (s : State) (i : LineId) :
    (complete p st cl f s).line i = s.line i := by
  rw [complete_eq]; cases p <;> rfl

end Sys2Proof.Machine
end

