-- ==== Sys2Proof/Laws/Lines.lean ====
section
/-! SUPPORT. Lines: what changing one line leaves of the rest, arguments that name a line or a group, readiness, and
what the operations on lines do. -/

namespace Sys2Proof.Machine

/-! ### The lines -/

/-- Every line is visited. -/
@[simp] theorem mem_allLines (i : LineId) : i ∈ allLines := by revert i; decide

/-! ### Arguments -/

theorem lineArg_val {n : Word} {i : LineId} (h : i.val = n.toNat) : lineArg n = some i := by
  have := i.isLt
  have hn : n.toNat < 32 := by omega
  simp only [lineArg, hn, dif_pos]
  congr 1
  exact Fin.ext h.symm

theorem lineArg_none {n : Word} (h : 32 ≤ n.toNat) : lineArg n = none := by
  simp [lineArg, Nat.not_lt.mpr h]

theorem groupArg_val {n : Word} {i : Fin 4} (h : i.val = n.toNat) : groupArg n = some i := by
  have := i.isLt
  have hn : n.toNat < 4 := by omega
  simp only [groupArg, hn, dif_pos]
  congr 1
  exact Fin.ext h.symm

theorem groupArg_none {n : Word} (h : 4 ≤ n.toNat) : groupArg n = none := by
  simp [groupArg, Nat.not_lt.mpr h]

theorem word_le_one {n : Word} (h : n.toNat ≤ 1) : n = 0 ∨ n = 1 := by
  rcases Nat.le_one_iff_eq_zero_or_eq_one.mp h with h | h
  · exact .inl (BitVec.eq_of_toNat_eq (by simpa using h))
  · exact .inr (BitVec.eq_of_toNat_eq (by simpa using h))

theorem flagArg_some {n : Word} (h : n.toNat ≤ 1) : flagArg n = some (n == 1) := by
  rcases word_le_one h with rfl | rfl <;> rfl

theorem flagArg_none {n : Word} (h : 1 < n.toNat) : flagArg n = none := by
  unfold flagArg
  split
  · next e => subst e; simp at h
  · split
    · next e => subst e; simp at h
    · rfl

/-! ### Lines of a changed state -/

@[simp] theorem State.setLine_setLine (s : State) (i : LineId) (l m : LineRec) :
    (s.setLine i l).setLine i m = s.setLine i m := by
  simp [State.setLine, Bank.set]

@[simp] theorem State.setLine_group (s : State) (i : LineId) (l : LineRec) (g : Fin 4) :
    (s.setLine i l).group g = s.group g := rfl

@[simp] theorem State.setLine_lineGroup (s : State) (i j : LineId) (l : LineRec) :
    (s.setLine i l).lineGroup j = s.lineGroup j := rfl

@[simp] theorem State.setLine_sharedReady (s : State) (i : LineId) (l : LineRec) :
    (s.setLine i l).sharedReady = s.sharedReady := rfl

@[simp] theorem State.setLine_effEnable (s : State) (i : LineId) (l : LineRec) :
    (s.setLine i l).effEnable i = (l.enable && (s.lineGroup i).enable) := by
  simp [State.effEnable]

theorem State.setLine_effEnable_same (s : State) (i j : LineId) (l : LineRec) (h : l.enable = (s.line i).enable) :
    (s.setLine i l).effEnable j = s.effEnable j := by
  by_cases e : i = j
  · subst e; simp [h, State.effEnable]
  · simp [State.effEnable, State.line_setLine_ne s l e]

theorem State.setLine_ready_same (s : State) (i j : LineId) (l : LineRec) (h : l.enable = (s.line i).enable) :
    (s.setLine i l).ready j = s.ready j := by
  simp [State.ready, s.setLine_effEnable_same i j l h]

/-- A line in no call, gone to rest: one change of one line. -/
theorem goRest_eq (i : LineId) (s : State) :
    goRest i s = s.setLine i { s.line i with state := restState (s.effEnable i) (s.ready i) } := rfl

/-- Going to rest after a change of the line that keeps its enable. -/
theorem goRest_setLine (i : LineId) (s : State) (l : LineRec) (h : l.enable = (s.line i).enable) :
    goRest i (s.setLine i l) = s.setLine i { l with state := restState (s.effEnable i) (s.ready i) } := by
  rw [goRest_eq, s.setLine_effEnable_same i i l h, s.setLine_ready_same i i l h]
  simp

/-! ### Re-judging -/

theorem rejudge_eq (s : State) : rejudge s = { s with lines := (rejudge s).lines } := rfl

@[simp] theorem rejudge_line (s : State) (i : LineId) :
    (rejudge s).line i = (s.line i).rejudge (s.effEnable i) (s.ready i) := by
  simp [rejudge]

@[simp] theorem LineRec.rejudge_enable (l : LineRec) (e r : Bool) : (l.rejudge e r).enable = l.enable := by
  unfold LineRec.rejudge; repeat' split
  all_goals rfl

@[simp] theorem rejudge_effEnable (s : State) (i : LineId) : (rejudge s).effEnable i = s.effEnable i := by
  rw [State.effEnable, rejudge_line, LineRec.rejudge_enable]; rfl

@[simp] theorem rejudge_ready (s : State) (i : LineId) : (rejudge s).ready i = s.ready i := by
  rw [State.ready, rejudge_effEnable]; rfl

/-! ### Reservations and HANGUP -/

/-- Giving up a reservation: the line's flag and the store's count (R170, R171). -/
theorem dropReservation_eq (i : LineId) (s : State) :
    dropReservation i s =
      { s.setLine i { s.line i with reserved := false } with
        billing := { s.billing with
          reservations := if (s.line i).reserved then s.billing.reservations - 1 else s.billing.reservations } } := by
  unfold dropReservation
  split
  · rfl
  · next h =>
    have h : (s.line i).reserved = false := by simpa using h
    rw [show { s.line i with reserved := false } = s.line i by rw [← h]]
    simp only [State.setLine, State.line, Bank.set_get_self]

/-- Entry to HANGUP without the re-judging (R20). -/
theorem enterHangup_eq (i : LineId) (s : State) :
    enterHangup i s =
      { s.setLine i { (s.line i).hungUp with reserved := false } with
        checkQueue := s.checkQueue.filter (·.line != i)
        arbiter := { s.arbiter with
          checkerAsked := s.arbiter.checkerAsked || (s.checkQueue.any (·.line == i) && s.checkerAsks) }
        billing := { s.billing with
          reservations := if (s.line i).reserved then s.billing.reservations - 1 else s.billing.reservations } } := by
  have h : (quitCheckQueue i (dropReservation i s)).line i = { s.line i with reserved := false } := by
    rw [dropReservation_eq]
    exact State.line_setLine s i _
  rw [enterHangup, State.modLine, h, dropReservation_eq]
  simp [quitCheckQueue, leaveCheckQueue, State.checkerAsks, State.eligibleCheck, State.setLine, LineRec.hungUp, Bank.set]

end Sys2Proof.Machine
end

