-- ==== Sys2Proof/Laws/Frames.lean ====
section
/-! SUPPORT. Frames: what the shared operations on lines, accounts and passes can change at all. Each operation has one
lemma, so that a later proof about a part of the state need not unfold it. -/

namespace Sys2Proof.Machine

/-! ### The frames -/

/-- Line work changes the lines, the check request queue with the checker's request, the reservation count, and latches of
the T port. -/
def State.lineFrame (s t : State) : Prop :=
  t = { s with
    lines := t.lines, checkQueue := t.checkQueue, tPort := { s.tPort with latches := t.tPort.latches }
    arbiter := { s.arbiter with checkerAsked := t.arbiter.checkerAsked }
    billing := { s.billing with reservations := t.billing.reservations } }

/-- Account work also changes accounts, records, the input queue, what is set aside or due, latches of the A port, and
the free index. -/
def State.workFrame (s t : State) : Prop :=
  t = { s with
    lines := t.lines, checkQueue := t.checkQueue, tPort := { s.tPort with latches := t.tPort.latches }
    aPort := { s.aPort with latches := t.aPort.latches }, billing := t.billing, accounts := t.accounts
    input := t.input, deferred := t.deferred, freeIndex := t.freeIndex
    arbiter := { s.arbiter with checkerAsked := t.arbiter.checkerAsked }
    engine := { s.engine with secondsDue := t.engine.secondsDue, closeWork := t.engine.closeWork } }

/-- A pass also changes the engine, the hold and the arbiter. -/
def State.passFrame (s t : State) : Prop :=
  t = { s with
    lines := t.lines, checkQueue := t.checkQueue, tPort := { s.tPort with latches := t.tPort.latches }
    aPort := { s.aPort with latches := t.aPort.latches }, billing := t.billing, accounts := t.accounts
    input := t.input, deferred := t.deferred, freeIndex := t.freeIndex
    engine := t.engine, hold := t.hold, arbiter := t.arbiter }

theorem State.lineFrame.refl (s : State) : s.lineFrame s := rfl
theorem State.workFrame.refl (s : State) : s.workFrame s := rfl
theorem State.passFrame.refl (s : State) : s.passFrame s := rfl

theorem State.lineFrame.trans {s t u : State} (h : s.lineFrame t) (k : t.lineFrame u) : s.lineFrame u := by
  unfold State.lineFrame at *; rw [k, h]

theorem State.workFrame.trans {s t u : State} (h : s.workFrame t) (k : t.workFrame u) : s.workFrame u := by
  unfold State.workFrame at *; rw [k, h]

theorem State.passFrame.trans {s t u : State} (h : s.passFrame t) (k : t.passFrame u) : s.passFrame u := by
  unfold State.passFrame at *; rw [k, h]

theorem State.lineFrame.work {s t : State} (h : s.lineFrame t) : s.workFrame t := by
  unfold State.lineFrame at h; unfold State.workFrame; rw [h]

theorem State.workFrame.pass {s t : State} (h : s.workFrame t) : s.passFrame t := by
  unfold State.workFrame at h; unfold State.passFrame; rw [h]

/-- What every pass, posting and close leaves: settings, tables without balances, clock, counters, watch, queue. -/
theorem State.passFrame.fixed {s t : State} (h : s.passFrame t) :
    t.mainPower = s.mainPower ∧ t.groups = s.groups ∧ t.slots = s.slots ∧ t.classes = s.classes ∧ t.clock = s.clock ∧
      t.clockInvalid = s.clockInvalid ∧ t.tariff = s.tariff ∧ t.serialCounter = s.serialCounter ∧ t.watch = s.watch ∧
      t.stagingSlot = s.stagingSlot ∧ t.staged = s.staged ∧ t.pending = s.pending := by
  unfold State.passFrame at h; rw [h]; simp

theorem lineFrame_fold {α : Type} {f : State → α → State} (hf : ∀ (s : State) a, s.lineFrame (f s a)) (l : List α) (s : State) :
    s.lineFrame (l.foldl f s) := by
  induction l generalizing s with
  | nil => exact .refl s
  | cons a l ih => exact (hf s a).trans (ih _)

theorem workFrame_fold {α : Type} {f : State → α → State} (hf : ∀ (s : State) a, s.workFrame (f s a)) (l : List α) (s : State) :
    s.workFrame (l.foldl f s) := by
  induction l generalizing s with
  | nil => exact .refl s
  | cons a l ih => exact (hf s a).trans (ih _)

theorem passFrame_fold {α : Type} {f : State → α → State} (hf : ∀ (s : State) a, s.passFrame (f s a)) (l : List α) (s : State) :
    s.passFrame (l.foldl f s) := by
  induction l generalizing s with
  | nil => exact .refl s
  | cons a l ih => exact (hf s a).trans (ih _)

theorem lineFrame_forLines {f : LineId → State → State} (hf : ∀ i (s : State), s.lineFrame (f i s)) (s : State) :
    s.lineFrame (s.forLines f) := lineFrame_fold (fun s i => hf i s) _ s

theorem workFrame_forLines {f : LineId → State → State} (hf : ∀ i (s : State), s.workFrame (f i s)) (s : State) :
    s.workFrame (s.forLines f) := workFrame_fold (fun s i => hf i s) _ s

/-! ### Changes of lines, latches and queues -/

theorem lineFrame_setLine (s : State) (i : LineId) (l : LineRec) : s.lineFrame (s.setLine i l) := rfl
theorem lineFrame_modLine (s : State) (i : LineId) (f : LineRec → LineRec) : s.lineFrame (s.modLine i f) := rfl
theorem lineFrame_mapLines (s : State) (f : LineId → LineRec → LineRec) : s.lineFrame (s.mapLines f) := rfl
theorem lineFrame_modSession (s : State) (i : LineId) (f : Session → Session) : s.lineFrame (s.modSession i f) := rfl
theorem lineFrame_mapSessions (s : State) (f : LineId → Session → Session) : s.lineFrame (s.mapSessions f) := rfl
theorem lineFrame_rejudge (s : State) : s.lineFrame (rejudge s) := rfl
theorem lineFrame_leaveCheckQueue (s : State) (i : LineId) : s.lineFrame (leaveCheckQueue i s) := rfl
theorem lineFrame_quitCheckQueue (s : State) (i : LineId) : s.lineFrame (quitCheckQueue i s) := rfl

theorem PortUnit.latch_eq (u : PortUnit) (n : Nat) : u.latch n = { u with latches := (u.latch n).latches } := by
  unfold PortUnit.latch; split <;> rfl

theorem lineFrame_latchT (s : State) (c : TCause) : s.lineFrame (latchT c s) := by
  show { s with tPort := s.tPort.latch c.bit } = _
  rw [PortUnit.latch_eq]; rfl

theorem workFrame_latchA (s : State) (c : ACause) : s.workFrame (latchA c s) := by
  show { s with aPort := s.aPort.latch c.bit } = _
  rw [PortUnit.latch_eq]; rfl

theorem lineFrame_dropReservation (s : State) (i : LineId) : s.lineFrame (dropReservation i s) := by
  rw [dropReservation_eq]; rfl

theorem lineFrame_enterHangup (s : State) (i : LineId) : s.lineFrame (enterHangup i s) := by
  rw [enterHangup_eq]; rfl

theorem lineFrame_hangup (s : State) (i : LineId) : s.lineFrame (hangup i s) :=
  (lineFrame_enterHangup s i).trans (lineFrame_rejudge _)

theorem lineFrame_idleEvent (s : State) (i : LineId) : s.lineFrame (idleEvent i s) := rfl

theorem lineFrame_ite {s t u : State} {c : Prop} [Decidable c] (ht : s.lineFrame t) (hu : s.lineFrame u) :
    s.lineFrame (if c then t else u) := by split <;> assumption

theorem workFrame_ite {s t u : State} {c : Prop} [Decidable c] (ht : s.workFrame t) (hu : s.workFrame u) :
    s.workFrame (if c then t else u) := by split <;> assumption

/-! ### The transmitter -/

theorem lineFrame_takeBuffered (s : State) (i : LineId) (c : Byte) (rest : List Byte) :
    s.lineFrame (takeBuffered i c rest s) := by
  unfold takeBuffered
  dsimp only
  split <;> split
  · exact (lineFrame_modLine s i _).trans ((lineFrame_latchT _ _).trans (lineFrame_idleEvent _ i))
  · exact (lineFrame_modLine s i _).trans (lineFrame_latchT _ _)
  · exact (lineFrame_modLine s i _).trans (lineFrame_idleEvent _ i)
  · exact lineFrame_modLine s i _

theorem lineFrame_endClosing (s : State) (i : LineId) : s.lineFrame (endClosing i s) :=
  lineFrame_ite (.refl s) (lineFrame_hangup s i)

theorem lineFrame_choose (s : State) (i : LineId) : s.lineFrame (choose i s) := by
  unfold choose
  split
  · unfold chooseSignOn
    split
    · exact lineFrame_modLine _ _ _
    · exact (lineFrame_modLine s i _).trans (lineFrame_ite (lineFrame_hangup _ i) (.refl _))
  · unfold chooseSession
    split
    · exact lineFrame_modLine _ _ _
    · split
      · exact lineFrame_modLine _ _ _
      · split
        · exact lineFrame_takeBuffered _ _ _ _
        · exact lineFrame_modLine _ _ _
  · unfold chooseClosing
    split
    · exact lineFrame_modLine _ _ _
    · split
      · exact lineFrame_modLine _ _ _
      · split
        · exact lineFrame_modLine _ _ _
        · exact (lineFrame_modLine s i _).trans (lineFrame_endClosing _ i)
  · unfold chooseTest; split <;> exact lineFrame_modLine _ _ _
  all_goals exact lineFrame_modLine _ _ _

theorem lineFrame_kick (s : State) (i : LineId) : s.lineFrame (kick i s) :=
  lineFrame_ite (.refl s) (lineFrame_choose s i)

theorem lineFrame_requestMessage (s : State) (i : LineId) (k : Nat) : s.lineFrame (requestMessage i k s) :=
  (lineFrame_modLine s i _).trans (lineFrame_kick _ i)

theorem lineFrame_enterClosing (s : State) (i : LineId) : s.lineFrame (enterClosing i s) :=
  (lineFrame_modLine s i _).trans (lineFrame_kick _ i)

/-! ### Postings and close decisions -/

theorem workFrame_modAccount (s : State) (user : Nat) (f : Account → Account) : s.workFrame (s.modAccount user f) := rfl

theorem workFrame_billing (s : State) (b : Billing) : s.workFrame { s with billing := b } := rfl
theorem workFrame_deferred (s : State) (d : List Deferred) : s.workFrame { s with deferred := d } := rfl
theorem workFrame_secondsDue (s : State) (d : List DueEntry) :
    s.workFrame { s with engine := { s.engine with secondsDue := d } } := rfl
theorem workFrame_closeWork (s : State) (w : List LineId) :
    s.workFrame { s with engine := { s.engine with closeWork := w } } := rfl

theorem workFrame_placeInput (s : State) (e : InputEntry) : s.workFrame (placeInput e s) :=
  State.workFrame.trans (t := { s with input := s.input ++ [e] }) rfl (lineFrame_latchT _ _).work

theorem lineFrame_fundsWarning (s : State) (spared : List LineId) (user : Nat) :
    s.lineFrame (fundsWarning spared user s) := by
  refine lineFrame_forLines (fun i s => ?_) s
  unfold warnLine
  split
  · exact lineFrame_ite ((lineFrame_modSession s i _).trans (lineFrame_requestMessage _ i 9)) (.refl s)
  · exact .refl s

theorem workFrame_writeRecord (s : State) (r : Nat → BillingRecord) : s.workFrame (writeRecord r s) := by
  unfold writeRecord
  dsimp only
  split
  · exact ((workFrame_billing s _).trans (workFrame_latchA _ _)).trans (workFrame_latchA _ _)
  · exact (workFrame_billing s _).trans (workFrame_latchA _ _)

theorem workFrame_closeDecision (s : State) (r : CloseReason) (t : Stamp) (i : LineId) :
    s.workFrame (closeDecision r t i s) := by
  unfold closeDecision
  split
  · dsimp only
    split
    · exact (lineFrame_modSession s i _).work.trans
        ((workFrame_placeInput _ _).trans (lineFrame_modLine _ i _).work)
    · exact (lineFrame_modSession s i _).work.trans (lineFrame_modLine _ i _).work
  · exact .refl s

theorem workFrame_addStated (k : Config.Unstated) (x y : Nat) (s : State) : s.workFrame (addStated k x y s).2 := by
  unfold addStated; split <;> rfl

theorem workFrame_divertClose (x : Session) (s : State) : s.workFrame (divertClose x s) := by
  unfold divertClose
  dsimp only
  split <;> split <;> rfl

theorem workFrame_lowerOpenCount (s : State) (user : Nat) : s.workFrame (lowerOpenCount user s) := rfl

/-- The account work of a close, given the frame of the posting it may make. -/
theorem workFrame_accountWork {post : Nat → Nat → State → State}
    (hp : ∀ (user u : Nat) (s : State), s.workFrame (post user u s)) (i : LineId) (s : State) :
    s.workFrame (accountWork post i s) := by
  unfold accountWork
  split
  · exact .refl s
  · extract_lets up cu s1 x1 x2 kept s2 s3 s4 s5
    have h1 : s.workFrame s1 := by
      show s.workFrame cu.2
      unfold cu
      split
      · exact workFrame_addStated _ _ _ s
      · exact .refl s
    have h2 : s1.workFrame s2 := workFrame_ite (workFrame_divertClose _ _) (.refl _)
    have h4 : s2.workFrame s4 :=
      ((lineFrame_modSession s2 i _).work.trans (workFrame_writeRecord _ _)).trans (lineFrame_dropReservation _ i).work
    have h5 : s.workFrame s5 := ((h1.trans h2).trans h4).trans (workFrame_lowerOpenCount _ _)
    exact workFrame_ite (h5.trans (hp _ _ _)) h5

theorem workFrame_closeInAccess {post : Nat → Nat → State → State}
    (hp : ∀ (user u : Nat) (s : State), s.workFrame (post user u s)) (r : CloseReason) (i : LineId) (s : State) :
    s.workFrame (closeInAccess post r i s) := by
  unfold closeInAccess
  split
  · exact .refl s
  · have h := (workFrame_closeDecision s r s.clock.stamp i).trans (workFrame_accountWork hp i _)
    exact workFrame_ite (h.trans (lineFrame_enterClosing _ i).work) h

theorem workFrame_debitBalance (s : State) (user u : Nat) : s.workFrame (debitBalance user u s) := rfl
theorem lineFrame_exhaust (s : State) (user : Nat) : s.lineFrame (exhaust user s) := rfl

theorem workFrame_postLevels (n : Nat) (spared : List LineId) (user u : Nat) (s : State) :
    s.workFrame (postLevels n spared user u s) := by
  induction n generalizing spared user u s with
  | zero => exact (workFrame_debitBalance s user u).trans (lineFrame_fundsWarning _ spared user).work
  | succ n ih =>
    unfold postLevels
    split
    · exact .refl s
    · refine State.workFrame.trans ?_ (lineFrame_fundsWarning _ spared user).work
      refine State.workFrame.trans ?_ (workFrame_fold (fun s i => workFrame_closeInAccess (ih _) .funds i s) _ _)
      exact (workFrame_debitBalance s user u).trans (lineFrame_exhaust _ user).work

/-- A debit posting with all it brings about (R86 to R89). -/
theorem workFrame_post (s : State) (user u : Nat) : s.workFrame (post user u s) := workFrame_postLevels 33 [] user u s

/-- A close decision in an access (R145). -/
theorem workFrame_closeNow (s : State) (r : CloseReason) (i : LineId) : s.workFrame (closeNow r i s) :=
  workFrame_closeInAccess (fun user u s => workFrame_post s user u) r i s

/-- A close decision outside any access (R146). -/
theorem workFrame_closeOutside (s : State) (r : CloseReason) (i : LineId) : s.workFrame (closeOutside r i s) := by
  unfold closeOutside
  split
  · exact .refl s
  · extract_lets s1 s2 e s3
    have h : s.workFrame s3 := ((workFrame_closeDecision s r s.clock.stamp i).trans
      (lineFrame_modSession s1 i _).work).trans (workFrame_closeWork s2 _)
    exact workFrame_ite (h.trans (lineFrame_enterClosing _ i).work) h

theorem workFrame_creditPosting (s : State) (user u : Nat) : s.workFrame (creditPosting user u s) := rfl

/-- The sessions a command closes in its access, in line order. -/
theorem workFrame_closeMatching (r : CloseReason) (covers : Session → Bool) (s : State) :
    s.workFrame (closeMatching r covers s).1 := by
  unfold closeMatching
  have : ∀ (l : List LineId) (acc : State × Nat), s.workFrame acc.1 →
      s.workFrame (l.foldl (fun acc i =>
        match acc.1.openSession i with
        | some x => if covers x then (closeNow r i acc.1, acc.2 + 1) else acc
        | none => acc) acc).1 := by
    intro l
    induction l with
    | nil => intro acc h; exact h
    | cons i l ih =>
      intro acc h
      refine ih _ ?_
      dsimp only
      split
      · split
        · exact h.trans (workFrame_closeNow _ r i)
        · exact h
      · exact h
  exact this _ _ (.refl s)

/-! ### Metering -/

theorem workFrame_chargeSecond (i : LineId) (t : Stamp) (s : State) : s.workFrame (chargeSecond i t s) := by
  unfold chargeSecond
  split
  · exact .refl s
  · extract_lets total u cs cu s1 x1 s2 s3
    have h1 : s.workFrame s1 := (workFrame_addStated _ _ _ s).trans (workFrame_addStated _ _ _ _)
    refine workFrame_ite (h1.trans (lineFrame_modSession _ i _).work) ?_
    exact ((h1.trans (lineFrame_modSession _ i _).work).trans (workFrame_modAccount _ _ _)).trans (workFrame_post _ _ _)

theorem workFrame_judgeIdle (i : LineId) (s : State) : s.workFrame (judgeIdle i s).1 := by
  unfold judgeIdle
  split
  · exact .refl s
  · extract_lets x1 s1 c
    have h1 : s.workFrame s1 := (lineFrame_modSession s i _).work
    split
    · exact h1.trans (workFrame_closeNow _ _ i)
    · split
      · exact (h1.trans (lineFrame_modSession _ i _).work).trans (lineFrame_requestMessage _ i 11).work
      · exact h1

theorem workFrame_countGrace (i : LineId) (s : State) : s.workFrame (countGrace i s).1 := by
  unfold countGrace
  split
  · exact .refl s
  · extract_lets g s1
    have h1 : s.workFrame s1 := (lineFrame_modSession s i _).work
    split
    · exact h1.trans (workFrame_closeNow _ _ i)
    · exact h1

theorem lineFrame_recompute (i : LineId) (t : Tick) (s : State) : s.lineFrame (recompute i t s) := by
  unfold recompute
  split
  · exact lineFrame_ite (lineFrame_modSession s i _) (.refl s)
  · exact .refl s

/-- The access of a pass for one session and one second (R131, R136, R137). -/
theorem workFrame_passAccess (i : LineId) (t : Tick) (s : State) : s.workFrame (passAccess i t s).1 := by
  unfold passAccess
  extract_lets inGrace s1 j g
  have h1 : s.workFrame j.1 := (workFrame_chargeSecond i t.value.stamp s).trans (workFrame_judgeIdle i s1)
  refine State.workFrame.trans ?_ (lineFrame_recompute i t _).work
  show s.workFrame g.1
  unfold g
  split
  · exact h1.trans (workFrame_countGrace i _)
  · exact h1

theorem workFrame_heldSecond (i : LineId) (s : State) : s.workFrame (heldSecond i s) := by
  unfold heldSecond
  split
  · exact .refl s
  · exact (workFrame_addStated _ _ _ s).trans (lineFrame_modSession _ i _).work

theorem passFrame_visitLines (t : Tick) (l : List LineId) (s : State) : s.passFrame (visitLines t l s) := by
  induction l generalizing s with
  | nil => rfl
  | cons i l ih =>
    unfold visitLines
    split
    · split
      · rfl
      · split
        · exact (workFrame_heldSecond i s).pass.trans (ih _)
        · exact ih s
    · exact ih s

theorem passFrame_endPass (s : State) : s.passFrame (endPass s) := by unfold endPass; split <;> rfl

theorem passFrame_visit (s : State) : s.passFrame (visit s) := by
  unfold visit
  split
  · exact .refl s
  · exact (passFrame_visitLines _ _ s).trans (passFrame_endPass _)

theorem passFrame_engine (s : State) (e : Engine) (h : Hold) (a : Arbiter) :
    s.passFrame { s with engine := e, hold := h, arbiter := a } := rfl

theorem passFrame_startPass (t : Tick) (s : State) : s.passFrame (startPass t s) :=
  (passFrame_engine s _ _ _).trans (passFrame_visit _)

theorem passFrame_startRemembered (s : State) : s.passFrame (startRemembered s) := by
  unfold startRemembered
  split
  · split
    · exact .refl s
    · exact (passFrame_engine s _ s.hold s.arbiter).trans (passFrame_startPass _ _)
  · exact .refl s

/-- A pass going on by itself, a remembered tick after it, and the end of a release (R108, R129, R130). -/
theorem passFrame_passOn (s : State) : s.passFrame (passOn s) := by
  have : s.passFrame (goOn s) := (passFrame_visit s).trans (passFrame_startRemembered _)
  refine this.trans ?_
  show (goOn s).passFrame (settleRelease (goOn s))
  unfold settleRelease
  split <;> rfl

theorem passFrame_takeTick (s : State) : s.passFrame (takeTick s) := by
  unfold takeTick
  extract_lets t e s1
  have h : s.passFrame s1 := rfl
  refine h.trans ?_
  split
  · exact (lineFrame_mapSessions s1 _).work.pass
  · split
    · rfl
    · exact passFrame_startPass _ _

end Sys2Proof.Machine
end

