-- ==== Sys2Proof/Laws/Arbiter.lean ====
section
/-! SUPPORT. The arbiter: all that a grant, an asking of the arbiter, an install and a giving back of the table can do
(R92 to R94, R106, R125). -/

namespace Sys2Proof.Machine

/-! ### A grant -/

@[simp] theorem granted_held {c : Client} {s : State} (h : s.arbiter.grant = some c) : granted c s = s := by
  simp [granted, h]

@[simp] theorem granted_free {s : State} (c : Client) (h : s.arbiter.grant = none) : granted c s = grantTo c s := by
  simp [granted, h]

/-- A grant changes the arbiter alone. -/
theorem granted_eq (c : Client) (s : State) : granted c s = { s with arbiter := (granted c s).arbiter } := by
  unfold granted; split <;> rfl

/-- The client in whose access the state stands holds the grant. -/
@[simp] theorem granted_grant (c : Client) (s : State) : (granted c s).arbiter.grant = some c := by
  unfold granted; split
  · assumption
  · rfl

/-! ### The arbiter is asked -/

theorem arbitrate_held {s : State} (h : s.arbiter.grant ≠ none) : arbitrate s = s := by simp [arbitrate, h]

/-- What the arbiter does at a row: it grants the client of the rotation that it chooses, or nothing changes. -/
theorem arbitrate_cases (s : State) :
    (∃ c : Client, c ≠ .engine ∧ s.arbiter.grant = none ∧ s.chosen = some c ∧ arbitrate s = grantTo c s) ∨
      (arbitrate s = s ∧ (s.arbiter.grant ≠ none ∨ s.chosen = none ∨ s.chosen = some .engine)) := by
  unfold arbitrate
  by_cases h : s.arbiter.grant = none
  · rw [if_pos h]
    match e : s.chosen with
    | none => exact .inr ⟨rfl, .inr (.inl rfl)⟩
    | some .engine => exact .inr ⟨rfl, .inr (.inr rfl)⟩
    | some .checker => exact .inl ⟨.checker, by simp, h, rfl, rfl⟩
    | some (.unit p) => exact .inl ⟨.unit p, by simp, h, rfl, rfl⟩
  · rw [if_neg h]; exact .inr ⟨rfl, .inl h⟩

/-- The arbiter changes its own state alone. -/
theorem arbitrate_eq (s : State) : arbitrate s = { s with arbiter := (arbitrate s).arbiter } := by
  rcases arbitrate_cases s with ⟨c, -, -, -, h⟩ | ⟨h, -⟩ <;> rw [h]
  rfl

@[simp] theorem arbitrate_line (s : State) (i : LineId) : (arbitrate s).line i = s.line i := by rw [arbitrate_eq]; rfl
@[simp] theorem arbitrate_port (s : State) (p : PortId) : (arbitrate s).port p = s.port p := by
  rw [arbitrate_eq]; cases p <;> rfl
@[simp] theorem arbitrate_accounts (s : State) : (arbitrate s).accounts = s.accounts := by rw [arbitrate_eq]
@[simp] theorem arbitrate_billing (s : State) : (arbitrate s).billing = s.billing := by rw [arbitrate_eq]
@[simp] theorem arbitrate_hold (s : State) : (arbitrate s).hold = s.hold := by rw [arbitrate_eq]
@[simp] theorem arbitrate_engine (s : State) : (arbitrate s).engine = s.engine := by rw [arbitrate_eq]
@[simp] theorem arbitrate_deferred (s : State) : (arbitrate s).deferred = s.deferred := by rw [arbitrate_eq]
@[simp] theorem arbitrate_input (s : State) : (arbitrate s).input = s.input := by rw [arbitrate_eq]
@[simp] theorem arbitrate_checkQueue (s : State) : (arbitrate s).checkQueue = s.checkQueue := by rw [arbitrate_eq]
@[simp] theorem arbitrate_watch (s : State) : (arbitrate s).watch = s.watch := by rw [arbitrate_eq]

/-! ### Installs (R125) -/

/-- The tables that an install changes, with installs waiting or not: nothing but the tariff unit, the class table and the
list of those that wait. -/
theorem takeInstall_eq (x : Install) (s : State) :
    takeInstall x s = { s with
      tariff := (takeInstall x s).tariff, classes := (takeInstall x s).classes
      installs := (takeInstall x s).installs } := by
  unfold takeInstall; split <;> rfl

/-- Between accesses an install is made at once (R125). -/
theorem takeInstall_free {s : State} (x : Install) (h : s.arbiter.grant = none) :
    takeInstall x s = { s with tariff := s.tariff.install x, classes := installClass s.classes x } := by
  simp [takeInstall, h]

/-- During an access an install waits, and the tables stand (R125). -/
theorem takeInstall_held {s : State} (x : Install) (h : s.arbiter.grant ≠ none) :
    takeInstall x s = { s with installs := s.installs ++ [x] } := by
  simp [takeInstall, h]

/-- With no install waiting, the end of an access leaves the tables as they stand. -/
@[simp] theorem makeInstalls_none {s : State} (h : s.installs = []) : makeInstalls s = s := by
  cases s; cases h; rfl

/-- An install taken during an access and made at its end gives the tables that it gives when taken between accesses. -/
theorem makeInstalls_takeInstall {s : State} (x : Install) (h : s.arbiter.grant ≠ none) :
    makeInstalls (takeInstall x s) = { makeInstalls s with
      tariff := (makeInstalls s).tariff.install x, classes := installClass (makeInstalls s).classes x } := by
  simp [takeInstall_held x h, makeInstalls, State.takenTariff, State.takenClasses]

/-! ### The table is given back -/

/-- What the end of a release does (R108, R134): nothing, or the hold is NONE and the access of R134 is asked for. -/
theorem settleRelease_cases (s : State) :
    (s.hold.state = .releasing ∧ s.arbiter.grant = none ∧ s.engine.pass = none ∧ s.setAside = false ∧
        settleRelease s = { s with
          hold := { s.hold with state := .none, limit := none }, engine := { s.engine with dueAsked := true } }) ∨
      (settleRelease s = s ∧
        ¬ (s.hold.state = .releasing ∧ s.arbiter.grant = none ∧ s.engine.pass = none ∧ s.setAside = false)) := by
  unfold settleRelease
  split
  · rename_i h
    simp only [Bool.and_eq_true, beq_iff_eq, Option.isNone_iff_eq_none, Bool.not_eq_true'] at h
    exact .inl ⟨h.1.1.1, h.1.1.2, h.1.2, h.2, rfl⟩
  · rename_i h
    simp only [Bool.and_eq_true, beq_iff_eq, Option.isNone_iff_eq_none, Bool.not_eq_true'] at h
    exact .inr ⟨rfl, fun k => h ⟨⟨⟨k.1, k.2.1⟩, k.2.2.1⟩, k.2.2.2⟩⟩

/-- What the end of a release can change. -/
theorem settleRelease_eq (s : State) :
    settleRelease s = { s with
      hold := (settleRelease s).hold
      engine := { s.engine with dueAsked := (settleRelease s).engine.dueAsked } } := by
  unfold settleRelease; split <;> rfl

/-- What the beginning of a release can change (R105, R108, R134). -/
theorem beginRelease_eq (s : State) :
    beginRelease s = { s with
      hold := (beginRelease s).hold
      engine := { s.engine with dueAsked := (beginRelease s).engine.dueAsked } } := by
  unfold beginRelease settleRelease; split <;> rfl

/-- What the passing of the hold limit does (R106): nothing, or HOLD_REVOKED and the beginning of the release. -/
theorem limitOver_cases (s : State) :
    (s.hold.state = .granted ∧ s.hold.timer = some 0 ∧
        limitOver s = beginRelease { s with aPort := s.aPort.latch ACause.holdRevoked.bit }) ∨
      (limitOver s = s ∧ (s.hold.state ≠ .granted ∨ s.hold.timer ≠ some 0)) := by
  by_cases h : s.hold.state = .granted ∧ s.hold.timer.expired = true
  · exact .inl ⟨h.1, by simpa [Timer.expired] using h.2, if_pos h⟩
  · refine .inr ⟨if_neg h, ?_⟩
    rw [Timer.expired, beq_iff_eq] at h
    exact not_and_or.mp h

/-- What the passing of the hold limit can change. -/
theorem limitOver_eq (s : State) :
    limitOver s = { s with
      hold := (limitOver s).hold, aPort := { s.aPort with latches := (limitOver s).aPort.latches }
      engine := { s.engine with dueAsked := (limitOver s).engine.dueAsked } } := by
  rcases limitOver_cases s with ⟨-, -, h⟩ | ⟨h, -⟩
  · rw [h, beginRelease_eq, PortUnit.latch_eq]
  · rw [h]

/-- What the end of an access can change: the grant, the tables of the installs, and what the passing of the hold limit
and the end of a release change. -/
theorem endAccess_eq (s : State) :
    endAccess s = { s with
      arbiter := { s.arbiter with grant := none }, tariff := s.takenTariff, classes := s.takenClasses, installs := []
      hold := (endAccess s).hold, aPort := { s.aPort with latches := (endAccess s).aPort.latches }
      engine := { s.engine with dueAsked := (endAccess s).engine.dueAsked } } := by
  unfold endAccess
  rw [settleRelease_eq, limitOver_eq]
  rfl

/-- What giving the table back can change: the arbiter, and what the end of the access changes. -/
theorem giveBack_eq (s : State) :
    giveBack s = { s with
      arbiter := (giveBack s).arbiter, tariff := s.takenTariff, classes := s.takenClasses, installs := []
      hold := (giveBack s).hold, aPort := { s.aPort with latches := (giveBack s).aPort.latches }
      engine := { s.engine with dueAsked := (giveBack s).engine.dueAsked } } := by
  unfold giveBack
  rw [arbitrate_eq, endAccess_eq]

/-- Where no limit has passed in GRANTED and no release is under way, giving the table back changes the arbiter, and
makes the installs that were taken during the access. -/
theorem giveBack_plain {s : State} (h : s.hold.state ≠ .granted ∨ s.hold.timer ≠ some 0)
    (hr : s.hold.state ≠ .releasing) :
    giveBack s = arbitrate (makeInstalls { s with arbiter := { s.arbiter with grant := none } }) := by
  unfold giveBack endAccess
  rcases limitOver_cases (makeInstalls { s with arbiter := { s.arbiter with grant := none } }) with ⟨h1, h2, -⟩ | ⟨k, -⟩
  · exact absurd h2 (h.resolve_left (not_not_intro h1))
  · rw [k]
    rcases settleRelease_cases (makeInstalls { s with arbiter := { s.arbiter with grant := none } }) with ⟨h1, -⟩ | ⟨k, -⟩
    · exact absurd h1 hr
    · rw [k]

@[simp] theorem giveBack_line (s : State) (i : LineId) : (giveBack s).line i = s.line i := by rw [giveBack_eq]; rfl
@[simp] theorem giveBack_tPort (s : State) : (giveBack s).tPort = s.tPort := by rw [giveBack_eq]
@[simp] theorem giveBack_accounts (s : State) : (giveBack s).accounts = s.accounts := by rw [giveBack_eq]
@[simp] theorem giveBack_billing (s : State) : (giveBack s).billing = s.billing := by rw [giveBack_eq]
@[simp] theorem giveBack_deferred (s : State) : (giveBack s).deferred = s.deferred := by rw [giveBack_eq]
@[simp] theorem giveBack_input (s : State) : (giveBack s).input = s.input := by rw [giveBack_eq]
@[simp] theorem giveBack_checkQueue (s : State) : (giveBack s).checkQueue = s.checkQueue := by rw [giveBack_eq]
@[simp] theorem giveBack_watch (s : State) : (giveBack s).watch = s.watch := by rw [giveBack_eq]

@[simp] theorem PortUnit.latch_answered {u : PortUnit} {p : PortId} {st : Status} {cl : Bool} {f : List Word} (n : Nat)
    (h : u.answered p st cl f) : (u.latch n).answered p st cl f := by
  unfold PortUnit.latch
  split
  · exact h
  · exact ⟨h.1, h.2.1, h.2.2.1, h.2.2.2.1, h.2.2.2.2.1, h.2.2.2.2.2.1, h.2.2.2.2.2.2.1, by
      simp [h.2.2.2.2.2.2.2]⟩

/-- A port that has been answered stands answered when the table is given back. -/
theorem giveBack_answered {s : State} {p : PortId} {st : Status} {cl : Bool} {f : List Word}
    (h : (s.port p).answered p st cl f) : ((giveBack s).port p).answered p st cl f := by
  cases p
  · simpa [State.port] using h
  · show ((giveBack s).aPort).answered .a st cl f
    rw [giveBack, endAccess, arbitrate_eq, settleRelease_eq]
    rcases limitOver_cases (makeInstalls { s with arbiter := { s.arbiter with grant := none } }) with ⟨-, -, k⟩ | ⟨k, -⟩
    · rw [k, beginRelease_eq]; exact PortUnit.latch_answered _ h
    · rw [k]; exact h

/-! ### Frames -/

theorem passFrame_arbitrate (s : State) : s.passFrame (arbitrate s) := by rw [arbitrate_eq]; rfl
theorem passFrame_granted (c : Client) (s : State) : s.passFrame (granted c s) := by rw [granted_eq]; rfl
theorem passFrame_limitOver (s : State) : s.passFrame (limitOver s) := by rw [limitOver_eq]; rfl
/-- Giving the table back, but for the installs that it makes. -/
theorem passFrame_giveBack (s : State) : (makeInstalls s).passFrame (giveBack s) := by rw [giveBack_eq]; rfl

/-- What follows an access of the pass (R93, R106, R130). -/
theorem passFrame_afterAccess (s : State) : s.passFrame (afterAccess s) :=
  ((State.passFrame.trans (passFrame_engine s _ s.hold _) (passFrame_limitOver _)).trans (passFrame_passOn _)).trans
    (passFrame_arbitrate _)

end Sys2Proof.Machine
end

