-- ==== Sys2Proof/Tests/Slice0.lean ====
section
/-! SUPPORT. Tests: the smoke test of WellFormed, the records and worked figures of the spec, and for each statement with
hypotheses a state and operands that meet them. Expected values come from the spec's tables and examples. -/

namespace Sys2Proof.Tests

open Sys2Proof.Machine

/-! ### WellFormed: each check refuses an ill-formed term -/

theorem test_wellFormed_send_count : (Instr.send .t 3 9 5 [1, 2]).wellFormed = false := by decide
theorem test_wellFormed_writeMessage_count : (Instr.writeMessage .t 0 true 0 2 [1, 2, 3]).wellFormed = false := by decide
theorem test_wellFormed_tariff_words : (Instr.tariffWrite .a 0 0 1 1 [0, 1]).wellFormed = false := by decide
theorem test_wellFormed_no_request : (Instr.controlWriteNoRequest .t 0x5A01).wellFormed = false := by decide
theorem test_wellFormed_measurement : (Instr.speedMeasurement 0 4096).wellFormed = false := by decide
theorem test_wellFormed_send_ok : (Instr.send .t 3 9 2 [1, 2]).wellFormed = true := by decide

/-! ### Records (section 11.2), one or more of each chapter, written out from Table 11-4 and Table 11-7 -/

/-- The SEND example of section 11.2: line 9, serial 411, five characters. -/
theorem test_record_send : decodeRecord .t [0x0021, 0x0009, 0x019B, 0x0005, 0x4C49, 0x5354, 0x0D00] =
    some (.send .t 9 411 5 [0x4C, 0x49, 0x53, 0x54, 0x0D]) := by decide

theorem test_record_group_set : decodeRecord .t [0x10, 1, 2, 30, 90, 5, 0xFF, 8, 1] =
    some (.groupSet .t 1 2 30 90 5 0xFF 8 1) := by decide

theorem test_record_write_message : decodeRecord .t [0x23, 0x0501, 0, 3, 0x4142, 0x4300] =
    some (.writeMessage .t 5 true 0 3 [0x41, 0x42, 0x43]) := by decide

theorem test_record_credit : decodeRecord .a [0x33, 0x0001, 0x86A0, 0x0000, 0x01F4] =
    some (.credit .a 100000 500) := by decide

theorem test_record_hold_request : decodeRecord .a [0x40, 60] = some (.holdRequest .a 60) := by decide

theorem test_record_set_clock : decodeRecord .a [0x50, 0x5B02, 0x1C17, 0x3B3B, 4] =
    some (.setClock .a 91 2 28 23 59 59 4) := by decide

theorem test_record_logoff : decodeRecord .t [0x61, 9, 411] = some (.logoff .t 9 411) := by decide

theorem test_record_release_billing : decodeRecord .a [0x71, 0xFFFF] = some (.releaseBilling .a 65535) := by decide

/-- A code of no row, a command word with a high byte, a wrong length, and no words at all are BAD_COMMAND. -/
theorem test_record_refused :
    decodeRecord .t [0x16] = none ∧ decodeRecord .t [0x0122] = none ∧ decodeRecord .t [0x11, 3] = none ∧
      decodeRecord .t [] = none ∧ decodeRecord .t [0x21, 9, 411, 5, 0x4C49] = none := by decide

/-- The table gives its rows no bits, so no word spells a row. -/
theorem test_table_word : decodeTableWord 16 0x0021 = none := by decide

/-! ### Worked figures of the spec -/

/-- Section 1.13: a measurement of 257 ticks is 1200 bit/s (speed code 4). -/
theorem test_speed_257 : matchSpeed 0xFF 257 = some 4 := by decide

/-- Table 6-2 and R112: a leap year's February, and the end of the century. -/
theorem test_clock_leap : Calendar.advance ⟨88, 2, 28, 23, 59, 59, 7⟩ = ⟨88, 2, 29, 0, 0, 0, 1⟩ := by decide
theorem test_clock_century : Calendar.advance ⟨99, 12, 31, 23, 59, 59, 5⟩ = ⟨0, 1, 1, 0, 0, 0, 6⟩ := by decide

/-- R114: a lockout of 15 minutes that crosses midnight at the end of a month. -/
theorem test_stamp_carries : Stamp.addMinutes ⟨87, 4, 30, 23, 50, 12⟩ 15 = ⟨87, 5, 1, 0, 5, 12⟩ := by decide

/-- Table 7-2. -/
theorem test_rates :
    effectiveRate 155 12 = 233 ∧ effectiveRate 60 12 = 90 ∧ effectiveRate 3 4 = 2 ∧ effectiveRate 5 4 = 3 ∧
      effectiveRate 40330 13 = 65535 ∧ effectiveRate 65535 16 = 65535 := by decide

/-- The check word worked through in chapter 3: user 123456, passcode ABCD. -/
theorem test_check_word : checkWord 123456 [0x41, 0x42, 0x43, 0x44] = 13486218 := by decide

/-- R149 and R173: 65,535 is followed by 1. -/
theorem test_counter_wraps : nextCounter 65535 = 1 ∧ nextCounter 65534 = 65535 := by decide

/-- R131: a second at rate 65,535 with residue 5999 gives 11 units and residue 5534. -/
theorem test_residue : (5999 + 65535) / 6000 = 11 ∧ (5999 + 65535) % 6000 = 5534 := by decide

/-! ### Sample states -/

/-- An account of class 1 with a balance of 100. -/
def acct : Account :=
  { user := 7, cls := 1, check := 77, balance := 100, state := .active, failCount := 0, lockedUntil := none, limit := 2
    openCount := 1, periodSeconds := 0, periodUnits := 0, lastSignOn := none }

/-- A METERED session of that account. -/
def sess : Session :=
  { serial := 9, user := 7, cls := 1, state := .metered, heldFrom := none, openStamp := ⟨50, 2, 28, 23, 0, 0⟩
    closeReason := none, closeStamp := none, work := none, rate := 6000, residue := 0, connectSeconds := 10
    heldSeconds := 0, lastMetered := ⟨50, 2, 28, 23, 0, 10⟩, connectUnits := 10, setupUnits := 0, resourceUnits := 0
    unpostedUnits := 0, unpostedSeconds := 0, grace := none, idleSeconds := 0, activity := false, fundsWarned := false
    idleWarned := false, clockSet := false, late := false, saturated := false, bornTick := 0 }

/-- Its close decision outside an access, with the account work PENDING. -/
def closedSess : Session :=
  { sess with
    state := .closing, closeReason := some .carrier, closeStamp := some ⟨50, 2, 28, 23, 1, 0⟩, work := some .pending }

/-- A line in SESSION with the session x, a character in progress. -/
def sessionLine (x : Session) : LineRec :=
  { LineRec.initial with
    state := .session, session := some x, reserved := true, txChar := some 0x41, enable := true, speed := some 3 }

/-- The state after reset with the clock set and one account. -/
def base : State :=
  { State.reset with clock := ⟨50, 2, 28, 23, 59, 59, 7⟩, clockInvalid := false, accounts := [acct] }

/-- Line 9 with record l. -/
def on (l : LineRec) : State := base.setLine 9 l

/-- Line 9 in SESSION with session x. -/
def inSession (x : Session) : State := on (sessionLine x)

/-- Port p BUSY with a command that is with its owning block. -/
def busy (p : PortId) (c : Instr) (s : State) : State :=
  s.setPort p { PortUnit.initial with starting := false, state := .busy, job := some ⟨.started, c⟩ }

/-- Port p BUSY with a command whose access waits. -/
def waits (p : PortId) (c : Instr) (s : State) : State :=
  s.setPort p { PortUnit.initial with starting := false, state := .busy, job := some ⟨.waiting, c⟩ }

theorem running_busy (p : PortId) (c : Instr) (s : State) (h : s.mainPower = true) : (busy p c s).running p c := by
  simp [busy, State.running, State.live, h]

theorem grantedNext_waits (p : PortId) (c : Instr) (s : State) (h : s.mainPower = true)
    (g : (waits p c s).nextGrant = some (.unit p)) : (waits p c s).grantedNext p c := by
  refine ⟨?_, ?_, ?_, g⟩ <;> simp [waits, State.live, h]

/-- The state that one step of a command leads to. -/
def after (c : Instr) (s : State) : State :=
  match step { s with pending := [c] } with
  | .next t => t
  | _ => s

/-- The commands of a queue, one after another. -/
def afterAll (cs : List Instr) (s : State) : State := cs.foldl (fun s c => after c s) s

/-- Section 11.4, one transaction in words: CREDIT of 50 units to account 310552, whose balance is −100. The status words
and the response words are those of the table. -/
def creditBase : State := { base with accounts := [{ acct with user := 310552, balance := -100 }] }

theorem test_transaction_record :
    ((after (.dataWrite .a 0x33) creditBase).statusWord .a = 0x4001) ∧
      (afterAll [.dataWrite .a 0x33, .dataWrite .a 4, .dataWrite .a 0xBD18, .dataWrite .a 0, .dataWrite .a 0x32]
        creditBase).statusWord .a = 0x4005 := by decide

/-- The record given, at GO and after its access. -/
def credited : State :=
  after .commandTableAccess (after (.go .a)
    (afterAll [.dataWrite .a 0x33, .dataWrite .a 4, .dataWrite .a 0xBD18, .dataWrite .a 0, .dataWrite .a 0x32]
      creditBase))

theorem test_transaction_response :
    credited.statusWord .a = 0xC003 ∧ credited.aPort.response = [0x0300, 0xFFFF, 0xFFCE] ∧
      (after (.dataRead .a) credited).statusWord .a = 0xC002 ∧ (after (.dataRead .a) credited).aPort.bus = 0x0300 := by
  decide

/-- The check of a line's shape, for states written out. -/
def shapedCheck (l : LineRec) : Bool :=
  (l.signOn.isSome == (l.state == .signOn)) && (l.test.isSome == (l.state == .test)) &&
    (!l.session.isSome || l.state == .session || l.state == .closing) &&
    (!(l.state == .session) || l.session.isSome) && (l.session.all fun x => !x.state.isOpen || l.state == .session)

theorem shaped_of_check {l : LineRec} (h : shapedCheck l = true) : l.shaped := by
  simp only [shapedCheck, Bool.and_eq_true] at h
  obtain ⟨⟨⟨⟨h1, h2⟩, h3⟩, h4⟩, h5⟩ := h
  refine ⟨?_, ?_, ?_, ?_, ?_⟩
  · rw [beq_iff_eq] at h1; rw [h1]; simp
  · rw [beq_iff_eq] at h2; rw [h2]; simp
  · intro h; simpa [h, or_assoc] using h3
  · intro h; simpa [h] using h4
  · intro x hx ho; simpa [hx, ho] using h5

theorem lineLaw_of_check {s : State} (h : (allLines.all fun i => shapedCheck (s.line i)) = true) : s.lineLaw := by
  intro _ i
  exact shaped_of_check (List.all_eq_true.mp h i (mem_allLines i))

/-- A fact of every session part, for states written out. -/
theorem sessions_of_check {s : State} {f : LineId → Session → Prop} [∀ i x, Decidable (f i x)]
    (h : (allLines.all fun i => (s.session i).all fun x => decide (f i x)) = true) (i : LineId) (x : Session)
    (hx : s.session i = some x) : f i x := by
  have := List.all_eq_true.mp h i (mem_allLines i)
  simpa [hx] using this

/-! ### Witnesses: what meets the hypotheses of each statement, clause by clause at a boundary -/

/-- The T port's unit in a state, in reset. -/
def tUnit (u : PortUnit) : State := { State.reset with tPort := { u with starting := false } }

theorem test_meets_StepRunsFrontCommand : State.reset.pending = [] := by decide

theorem test_meets_DataWriteActsByPortState :
    ({ State.reset with tPort := PortUnit.initial }).tPort.starting = true ∧
      (tUnit PortUnit.initial).mainPower = true ∧ (tUnit PortUnit.initial).tPort.starting = false ∧
      (tUnit { PortUnit.initial with state := .done }).tPort.state = .done ∧
      (tUnit { PortUnit.initial with state := .building, record := List.replicate 19 0 }).tPort.record.length < 20 ∧
      20 ≤ (tUnit { PortUnit.initial with state := .building, record := List.replicate 20 0 }).tPort.record.length ∧
      (tUnit { PortUnit.initial with state := .busy }).tPort.state = .busy := by decide

theorem test_meets_DataReadGivesResponseWords :
    (tUnit { PortUnit.initial with state := .done, response := [0x0205, 7], readPos := 1 }).tPort.response[1]? = some 7 ∧
      (tUnit { PortUnit.initial with state := .done, response := [0x0205, 7], readPos := 2 }).tPort.response.length ≤ 2 := by
  decide

theorem test_meets_ControlRequestsActByPortState :
    (tUnit PortUnit.initial).tPort.state = .idle ∧
      (tUnit { PortUnit.initial with state := .building }).tPort.state = .building ∧
      (tUnit { PortUnit.initial with state := .busy }).tPort.state = .busy ∧
      (tUnit { PortUnit.initial with state := .done }).tPort.state = .done ∧
      (0x5A00 : Word) ≠ 0x5A01 ∧ (0x5A00 : Word) ≠ 0x5A02 ∧ (0x5A00 : Word) ≠ 0x5A03 := by decide

/-- Table 11-3 and R198: the three requests, and values beside them. -/
theorem test_control_words :
    controlRequest 0x5A01 = some .go ∧ controlRequest 0x5A02 = some .abortBuild ∧ controlRequest 0x5A03 = some .reread ∧
      controlRequest 0x5A00 = none ∧ controlRequest 0x5A04 = none ∧ controlRequest 0x015A = none := by decide

/-- A T port in BUILDING with a record. -/
def building (r : List Word) : State := tUnit { PortUnit.initial with state := .building, record := r }

theorem test_meets_GoRefusesBadRecords :
    (building [0x16]).live .t ∧ (building [0x16]).tPort.state = .building ∧ decodeRecord .t [0x16] = none ∧
      decodeRecord .t [0x70] = some (.peekBilling .t) ∧ roleOk .t (.peekBilling .t) = false := by
  exact ⟨⟨rfl, rfl⟩, rfl, by decide, by decide, by decide⟩

theorem test_meets_GoStartsTheCommand :
    (building [0x22]).live .t ∧ decodeRecord .t [0x22] = some (.readSpace .t) ∧ roleOk .t (.readSpace .t) = true ∧
      isRestart (.readSpace .t) = false ∧ (building [0x22]).restarting .a = false ∧
      (building [0x22]).watch.down = false ∧ isTableCommand (.readSpace .t) = false ∧
      decodeRecord .t [0x38, 0x000F, 0x423F] = some (.readAccount .t 999999) ∧
      tableArgsOk (.readAccount .t 999999) = true ∧
      decodeRecord .t [0x38, 0x000F, 0x4240] = some (.readAccount .t 1000000) ∧
      tableArgsOk (.readAccount .t 1000000) = false := by
  refine ⟨⟨rfl, rfl⟩, ?_⟩; decide

/-- RESTART built at the A port, in a state. -/
def buildingRestart (s : State) : State :=
  s.setPort .a { PortUnit.initial with starting := false, state := .building, record := [0x67] }

/-- The hold GRANTED. -/
def held (s : State) : State := { s with hold := { s.hold with state := .granted, limit := some 60, timer := some 0 } }

/-- The taking of a RESTART: the other port idle or with a command, the hold in each state, an access in progress, and
a command given while a RESTART is in progress. -/
theorem test_meets_GoStartsTheCommand_restart :
    (buildingRestart base).live .a ∧ decodeRecord .a [0x67] = some (.restart .a) ∧ roleOk .a (.restart .a) = true ∧
      isRestart (.restart .a) = true ∧ (buildingRestart (held base)).restarting .t = false ∧
      (buildingRestart (held base)).hold.state = .granted ∧ (buildingRestart (held base)).arbiter.grant = none ∧
      (buildingRestart (busy .t (.readSpace .t) base)).tPort.job = some ⟨.started, .readSpace .t⟩ ∧
      ({ waits .t (.readAccount .t 7) base with
        arbiter := { base.arbiter with grant := some (.unit .t) } }).tPort.job = some ⟨.waiting, .readAccount .t 7⟩ ∧
      (waits .t (.restart .t) (buildingRestart base)).restarting .t = true := by
  refine ⟨⟨rfl, rfl⟩, ?_⟩; decide

/-- Port p with READ ACCOUNT of user 7 built. -/
def asking (p : PortId) (s : State) : State :=
  s.setPort p { PortUnit.initial with starting := false, state := .building, record := [0x38, 0, 7] }

/-- R94: a command unit that asks alone at a free table. -/
theorem test_meets_GoStartsTheCommand_alone :
    let w := waits .a (.readAccount .a 7) base
    base.arbiter.grant = none ∧ base.engineAsks = false ∧ base.passWants = false ∧ base.hold.state = .none ∧
      .unit .a ∈ base.arbiter.rotation ∧ w.asks .engine = false ∧ w.asks .checker = false ∧
      w.asks (.unit .t) = false := by decide

/-- R94: with the order checker, T, A and the table free, A asks alone and is granted at once. -/
theorem test_granted_at_once :
    (after (.go .a) (asking .a base)).arbiter =
      { grant := some (.unit .a), rotation := [.checker, .unit .t, .unit .a], passAsked := false, checkerAsked := false } :=
  by decide

/-- R94: T, which asks after A has been granted, waits for A's access and is granted at its end. -/
theorem test_granted_in_turn :
    (after (.go .t) (after (.go .a) (asking .t (asking .a base)))).nextGrant = some (.unit .a) ∧
      (after .commandTableAccess (after (.go .t) (after (.go .a) (asking .t (asking .a base))))).arbiter =
        { grant := some (.unit .t), rotation := [.checker, .unit .a, .unit .t], passAsked := false
          checkerAsked := false } := by decide

theorem test_meets_CompletionInstallsResponse : (State.reset.port .t).starting = false := by decide

theorem test_meets_AttentionAndMaskWrites : State.reset.mainPower = true := by decide

theorem test_meets_RecordsDecodeAsEncoded :
    (Instr.send .t 31 65535 32 (List.replicate 32 0xFF)).commandPort = some .t ∧
      (Instr.send .t 31 65535 32 (List.replicate 32 0xFF)).wellFormed = true := by decide

theorem test_meets_WholeCommandIsRecordThenGo :
    State.reset.live .a ∧ (Instr.readClock .a).commandPort = some .a ∧ (State.reset.port .a).state ≠ .busy ∧
      (goAt .a (writeRecordAt .a (encodeRecord (.readClock .a)) State.reset)).carries .a (.readClock .a) = true ∧
      (goAt .a (writeRecordAt .a (encodeRecord (.send .a 0 0 1 [1])) State.reset)).carries .a (.send .a 0 0 1 [1]) =
        false ∧
      (busy .a (.readClock .a) base).live .a ∧ ((busy .a (.readClock .a) base).port .a).state = .busy ∧
      (busy .a (.readClock .a) base).carries .a (.holdStatus .a) = false := by
  refine ⟨⟨rfl, rfl⟩, by decide, by decide, by decide, by decide, ⟨rfl, rfl⟩, by decide, by decide⟩

theorem test_meets_GroupSetReplacesSettings :
    (busy .t (.groupSet .t 3 7 60 255 31 255 16 1) base).running .t (.groupSet .t 3 7 60 255 31 255 16 1) ∧
      (busy .t (.groupSet .t 4 1 5 10 1 1 4 0) base).running .t (.groupSet .t 4 1 5 10 1 1 4 0) :=
  ⟨running_busy _ _ _ rfl, running_busy _ _ _ rfl⟩

theorem test_meets_EnablesSetAndLinesFollow :
    (busy .t (.lineEnable .t 31 1) base).running .t (.lineEnable .t 31 1) ∧ (31 : LineId).val = (31 : Word).toNat ∧
      (busy .t (.groupEnable .t 3 1) base).running .t (.groupEnable .t 3 1) ∧ (3 : Fin 4).val = (3 : Word).toNat ∧
      (busy .t (.lineEnable .t 32 1) base).running .t (.lineEnable .t 32 1) ∧ 32 ≤ (32 : Word).toNat ∧
      (busy .t (.groupEnable .t 4 0) base).running .t (.groupEnable .t 4 0) ∧ 4 ≤ (4 : Word).toNat :=
  ⟨running_busy _ _ _ rfl, by decide, running_busy _ _ _ rfl, by decide, running_busy _ _ _ rfl, by decide,
    running_busy _ _ _ rfl, by decide⟩

theorem test_meets_EnablesSet_flags :
    (busy .t (.lineEnable .t 9 2) base).running .t (.lineEnable .t 9 2) ∧ 2 ≤ (2 : Word).toNat ∧
      (busy .t (.groupEnable .t 1 65535) base).running .t (.groupEnable .t 1 65535) :=
  ⟨running_busy _ _ _ rfl, by decide, running_busy _ _ _ rfl⟩

/-- Line 9's group enabled. -/
def enabled (s : State) : State := { s with groups := Bank.replicate 4 { GroupRec.initial with enable := true } }

theorem test_meets_DisableEndsCallsAndSessions :
    (busy .t (.lineEnable .t 9 0) (enabled (inSession sess))).running .t (.lineEnable .t 9 0) ∧
      (busy .t (.lineEnable .t 9 0) (enabled (inSession sess))).effEnable 9 = true ∧
      ((enabled (inSession sess)).line 9).state = .session ∧ sess.state.isOpen = true ∧
      (busy .t (.lineEnable .t 9 0) (enabled (on { LineRec.initial with state := .ringing, enable := true }))).effEnable 9 =
        true :=
  ⟨running_busy _ _ _ rfl, by decide, by decide, by decide, by decide⟩

theorem test_meets_DisableEnds_group :
    (busy .t (.groupEnable .t 1 0) (enabled (inSession sess))).running .t (.groupEnable .t 1 0) ∧
      (1 : Fin 4).val = (1 : Word).toNat ∧ ((enabled (inSession sess)).group 1).enable = true ∧ groupOf 9 = 1 ∧
      ((enabled (inSession sess)).line 9).enable = true ∧ ((enabled (inSession sess)).line 9).state = .session :=
  ⟨running_busy _ _ _ rfl, by decide, by decide, by decide, by decide, by decide⟩

/-- Everything reported on a line in a state. -/
def reported (st : LineState) : State :=
  on { LineRec.initial with state := st, reports := ⟨true, true, true, true, true⟩ }

theorem test_meets_FaultsAreEnteredAndCleared :
    (reported .busied).mainPower = true ∧ (reported .busied).tPort.starting = false ∧
      ((reported .busied).line 9).reports.stuckCarrier = true ∧ ((reported .ringing).line 9).state = .ringing ∧
      (busy .t (.clearFault .t 9) (reported .faulted)).running .t (.clearFault .t 9) ∧
      ((busy .t (.clearFault .t 9) (reported .faulted)).line 9).state = .faulted ∧
      (busy .t (.clearFault .t 32) base).running .t (.clearFault .t 32) :=
  ⟨by decide, by decide, by decide, by decide, running_busy _ _ _ rfl, by decide, running_busy _ _ _ rfl⟩

theorem test_meets_LineTestRunsSlotFourteen :
    (busy .t (.lineTest .t 9 7) { base with slots := base.slots.set 14 [0x55] }).running .t (.lineTest .t 9 7) ∧
      ({ base with slots := base.slots.set 14 [0x55] }).slots.get 14 = [0x55] ∧ base.slots.get 14 = [] ∧
      (base.line 9).state.acceptsTest = true ∧ ((reported .hangup).line 9).state.acceptsTest = false ∧
      ((on { LineRec.initial with state := .test, test := some ⟨.faulted, 7, 1, 0, []⟩ }).continued
        { LineRec.initial with state := .test, test := some ⟨.faulted, 7, 1, 0, []⟩ }) = none :=
  ⟨running_busy _ _ _ rfl, by decide, by decide, by decide, by decide, by decide⟩

theorem test_meets_LineTest_ranges :
    (busy .t (.lineTest .t 32 7) base).running .t (.lineTest .t 32 7) ∧ 32 ≤ (32 : Word).toNat ∧
      (busy .t (.lineTest .t 31 8) base).running .t (.lineTest .t 31 8) ∧ 8 ≤ (8 : Word).toNat :=
  ⟨running_busy _ _ _ rfl, by decide, running_busy _ _ _ rfl, by decide⟩

theorem test_meets_RingsCountAndAnswer :
    ((reported .idle).line 9).reports.ring = true ∧ ((reported .idle).lineGroup 9).ringCount = 2 ∧
      ((reported .idle).line 9).state = .idle ∧
      ((on { LineRec.initial with state := .ringing, ringCount := 1, ringGap := some 0 }).line 9).ringGap = some 0 ∧
      (reported .ringing).billing.records.length + (reported .ringing).billing.reservations < 96 ∧
      96 ≤ ({ base with billing := ⟨[], 1, 96⟩ }).billing.records.length +
        ({ base with billing := ⟨[], 1, 96⟩ }).billing.reservations := by decide

theorem test_meets_SpeedIsMeasured :
    ((reported .answering).line 9).reports.present = true ∧
      ((on { LineRec.initial with state := .speed }).line 9).markWait = false ∧
      matchSpeed ((reported .speed).lineGroup 9).speedSet (min 257 4095) = some 4 ∧
      (([0, 1] : List (Fin 16)).dropWhile fun j => ((base.slots.set 0 [0x48]).get j).isEmpty) = [0, 1] ∧
      (([0, 1] : List (Fin 16)).dropWhile fun j => (base.slots.get j).isEmpty) = [] := by decide

/-- Table 1-4: the ends of the first and the last band. -/
theorem test_bands_end :
    matchSpeed 0xFF 3143 = none ∧ matchSpeed 0xFF 3142 = some 0 ∧ matchSpeed 0xFF 28 = some 7 ∧
      matchSpeed 0xFF 27 = none := by
  simp [matchSpeed, matchesDivisor, divisors, List.find?]

/-- Line 9 in a state with its phase timer run out. -/
def timedOut (st : LineState) : State := on { LineRec.initial with state := st, phaseTimer := some 0 }

theorem test_meets_ExpiriesEndCalls :
    ((timedOut .answering).line 9).phaseTimer = some 0 ∧ ((timedOut .speed).line 9).state = .speed ∧
      ((timedOut .hangup).line 9).state = .hangup ∧ (timedOut .hangup).mainPower = true ∧
      ((on { LineRec.initial with
        state := .signOn
        signOn := some
          { phase := .idEntry, entry := [], user := none, check := none, attempts := 0, timer := 0, output := []
            outPos := 0 } }).line 9).signOn.any (·.timer == 0) = true := by decide

theorem test_meets_ScanFeedsTheSamplers : State.reset.mainPower = true := by decide

theorem test_meets_CarrierLossEndsCallOrSession :
    ((reported .speed).line 9).reports.loss = true ∧ ((inSession sess).line 9).session = some sess ∧
      sess.state.isOpen = true ∧ ((reported .closing).line 9).session.any (·.work == some .pending) = false := by decide

/-- A loss on a line whose close decision waits for its account work. -/
theorem test_meets_CarrierLoss_pending :
    let l := fun st => { sessionLine closedSess with state := st, reports := ⟨false, false, true, false, false⟩ }
    ((on (l .session)).line 9).reports.loss = true ∧ ((on (l .session)).line 9).session = some closedSess ∧
      closedSess.state = .closing ∧ ((on (l .closing)).line 9).reports.loss = true ∧
      ((on (l .closing)).line 9).session.any (·.work == some .pending) = true := by decide

theorem test_meets_TakeInputAndReadSpaceDrain :
    (busy .t (.takeInput .t 32) base).running .t (.takeInput .t 32) ∧
      (busy .t (.takeInput .t 33) base).running .t (.takeInput .t 33) ∧
      (busy .t (.readSpace .t) base).running .t (.readSpace .t) :=
  ⟨running_busy _ _ _ rfl, running_busy _ _ _ rfl, running_busy _ _ _ rfl⟩

theorem test_meets_SendAppendsWhatFits :
    (busy .t (.send .t 9 9 1 [0x42]) (inSession sess)).running .t (.send .t 9 9 1 [0x42]) ∧
      (9 : LineId).val = (9 : Word).toNat ∧ sess.state = .metered ∧ sess.serial = (9 : Word).toNat ∧
      ((inSession sess).line 9).txChar ≠ none ∧
      ((on { sessionLine sess with txChar := none }).line 9).txChar = none ∧
      (busy .t (.send .t 31 0 32 []) base).running .t (.send .t 31 0 32 []) ∧ (base.line 31).state ≠ .session ∧
      (busy .t (.send .t 32 9 1 [1]) base).running .t (.send .t 32 9 1 [1]) :=
  ⟨running_busy _ _ _ rfl, by decide, by decide, by decide, by decide, by decide, running_busy _ _ _ rfl, by decide,
    running_busy _ _ _ rfl⟩

theorem test_meets_WriteMessageStagesAndInstalls :
    (busy .t (.writeMessage .t 15 true 96 32 (List.replicate 32 1))
        { base with stagingSlot := some 15, staged := List.replicate 96 0 }).running .t
        (.writeMessage .t 15 true 96 32 (List.replicate 32 1)) ∧
      ({ base with stagingSlot := some 15, staged := List.replicate 96 0 }).staged.length = (96 : Word).toNat ∧
      (96 : Word).toNat + (32 : Word).toNat ≤ 128 ∧
      (busy .t (.writeMessage .t 0 false 1 0 []) base).running .t (.writeMessage .t 0 false 1 0 []) ∧
      base.stagingSlot ≠ some 0 ∧ 128 < (97 : Word).toNat + (32 : Word).toNat ∧ 16 ≤ (16 : Byte).toNat :=
  ⟨running_busy _ _ _ rfl, by decide, by decide, running_busy _ _ _ rfl, by decide, by decide, by decide⟩

theorem test_meets_ReceivedCharactersAreOffered :
    ((inSession sess).line 9).state = .session ∧ sess.state = .metered ∧
      ((inSession { sess with state := .held }).line 9).session = some { sess with state := .held } ∧
      closedSess.state = .closing := by decide

/-- One open session and 246 entries: the room of R29 is there for the last time. -/
theorem test_meets_ReceivedCharacters_room (n : Nat) :
    (List.replicate n (InputEntry.brk 1)).length + 1 + (inSession sess).openCount + 8 ≤ 256 ↔ n ≤ 246 := by
  have : (inSession sess).openCount = 1 := by decide
  rw [List.length_replicate, this]; omega

theorem test_meets_TransmitterChoosesInOrder :
    ((inSession sess).line 9).txChar ≠ none ∧ (inSession sess).continued ((inSession sess).line 9) = none ∧
      ((on { sessionLine sess with messages := [9] }).line 9).messages = [(9 : Fin 16).val] ∧
      ({ inSession sess with slots := base.slots.set 9 [0x46] }).slots.get 9 = [0x46] ∧
      ((on { sessionLine sess with txItem := some (.slot 9, 1) }).line 9).txItem = some (.slot 9, 1) ∧
      ({ base with slots := base.slots.set 9 [1, 2] }).continued { sessionLine sess with txItem := some (.slot 9, 1) } =
        some (2, .slot 9, 1) ∧
      ((on { sessionLine closedSess with state := .closing, closingSlot := some 12 }).line 9).closingSlot =
        some (12 : Fin 16).val ∧
      (sessionLine closedSess).session.any (·.work == some .pending) = true := by decide

/-- In CLOSING: a part message in progress, and an empty closing slot. -/
theorem test_meets_Transmitter_closing :
    ({ on { sessionLine closedSess with state := .closing, txItem := some (.slot 9, 1) } with
      slots := base.slots.set 9 [1, 2] }).continued
        { sessionLine closedSess with state := .closing, txItem := some (.slot 9, 1) } = some (2, .slot 9, 1) ∧
      ((on { sessionLine closedSess with state := .closing, closingSlot := some 12 }).line 9).closingSlot =
        some (12 : Fin 16).val ∧
      (on { sessionLine closedSess with state := .closing, closingSlot := some 12 }).slots.get 12 = [] := by decide

/-- A sign-on part in a phase. -/
def part (ph : Phase) (entry : List Byte) : SignOnPart :=
  { phase := ph, entry := entry, user := some 7, check := some 77, attempts := 0, timer := 900, output := [], outPos := 0 }

/-- A line in SIGNON with a part, a character in progress. -/
def signOnLine (q : SignOnPart) : LineRec :=
  { LineRec.initial with state := .signOn, signOn := some q, reserved := true, txChar := some 0x50, speed := some 3 }

/-- R50: the sign-on output goes on with its item, with the next one, and ends. -/
theorem test_meets_Transmitter_signOn :
    ((on (signOnLine { part .idEntry [] with output := [.erase], outPos := 2 })).line 9).signOn =
        some { part .idEntry [] with output := [.erase], outPos := 2 } ∧
      ([0x08, 0x20, 0x08] : List Byte)[2]? = some 0x08 ∧ ([0x31] : List Byte).length ≤ 1 ∧
      ((on (signOnLine (part .refusing []))).line 9).signOn = some (part .refusing []) ∧
      ((on (signOnLine (part .refusing []))).line 9).txChar ≠ none ∧ (part .refusing []).output = [] := by decide

/-- A line in TEST with the first character of slot 14 sent. -/
def testLine (awaiting : List Byte) : LineRec :=
  { LineRec.initial with
    state := .test, test := some ⟨.idle, 7, 1, 0, awaiting⟩, txChar := some 1, txItem := some (.slot 14, 1) }

theorem test_meets_Transmitter_test :
    ((on (testLine [1])).line 9).test = some ⟨.idle, 7, 1, 0, [1]⟩ ∧ ((on (testLine [1])).line 9).txChar ≠ none ∧
      ({ base with slots := base.slots.set 14 [1, 2] }).continued (testLine [1]) = some (2, .slot 14, 1) ∧
      (on (testLine [])).continued (testLine []) = none ∧ ((on (testLine [])).line 9).state = .test := by decide

theorem test_meets_DialogEditsEntries :
    ((on (signOnLine (part .idEntry [0x31]))).line 9).signOn = some (part .idEntry [0x31]) ∧
      ((on (signOnLine (part .idEntry [0x31]))).line 9).markWait = false ∧
      (0x8D : Byte) &&& 0x7F = 0x0D ∧ (0xB1 : Byte) &&& 0x7F = 0x31 ∧
      (part .passEntry [0x41, 0x42, 0x43, 0x44]).user = some 7 ∧
      4 ≤ (part .passEntry [0x41, 0x42, 0x43, 0x44]).entry.length ∧
      (part .passEntry [0x41, 0x42, 0x43]).entry.length < 4 := by decide

/-- What the dialog places: the 48th item is taken by an echo and the 49th not; the third bad attempt. -/
theorem test_meets_Dialog_output :
    ((on (signOnLine (part .idEntry [0x31]))).line 9).txChar ≠ none ∧ (part .idEntry [0x31]).entry ≠ [] ∧
      (part .idEntry []).entry = [] ∧ 6 ≤ (List.replicate 6 (0x31 : Byte)).length ∧
      ({ part .passEntry [] with attempts := 2 }).attempts = 2 ∧ (part .passEntry []).user = some 7 := by decide

theorem test_echo_limit :
    ((({ part .idEntry [0x31] with output := List.replicate 47 .erase }).idChar 0x32).output.length = 48) ∧
      (({ part .idEntry [0x31] with output := List.replicate 48 .erase }).idChar 0x32).output.length = 48 ∧
      (({ part .idEntry [0x31] with output := List.replicate 48 .erase }).idChar 0x32).entry = [0x31, 0x32] := by decide

/-- A line that waits for its verdict. -/
def waiting (q : SignOnPart) (a : Account) : State :=
  { on (signOnLine q) with accounts := [a], checkQueue := [⟨4, true⟩, ⟨9, false⟩] }

theorem test_meets_VerdictCountsAndRefuses :
    (waiting (part .checkWait []) acct).nextGrant = some .checker ∧
      (waiting (part .checkWait []) acct).checkQueue.find? (fun e => !e.waiting) = some ⟨9, false⟩ ∧
      ((waiting (part .checkWait []) acct).line 9).signOn = some (part .checkWait []) ∧
      (waiting (part .checkWait []) { acct with user := 8 }).account 7 = none := by decide

theorem test_meets_Verdict_accounts :
      (waiting (part .checkWait []) { acct with check := 78, failCount := 4 }).account 7 =
        some { acct with check := 78, failCount := 4 } ∧
      (base.classRec 1).failLimit ≤ 4 + 1 ∧
      (waiting (part .checkWait []) { acct with state := .lockedOut, lockedUntil := some ⟨50, 2, 28, 23, 59, 59⟩ }).clock.stamp =
        ⟨50, 2, 28, 23, 59, 59⟩ ∧
      ({ acct with openCount := 2 }).limit ≤ ({ acct with openCount := 2 }).openCount ∧
      ({ acct with balance := 0 }).balance - ((base.classRec 1).setup : Int) ≤ -((base.classRec 1).floor : Int) := by decide

/-- An idle transmitter, with and without something to send from slot 3, and a third bad attempt (R66, R67). -/
theorem test_meets_Verdict_idle :
    (({ waiting (part .checkWait []) acct with
        lines := (on { signOnLine (part .checkWait []) with txChar := none }).lines }).line 9).txChar = none ∧
      (part .checkWait []).output = [] ∧ (part .checkWait []).outPos = 0 ∧
      (([3, 1] : List (Fin 16)).dropWhile fun k => (base.slots.get k).isEmpty) = [] ∧
      (([3, 1] : List (Fin 16)).dropWhile fun k => ((base.slots.set 1 [0x49]).get k).isEmpty) = [1] ∧
      2 ≤ ({ part .checkWait [] with attempts := 2 }).attempts := by decide

theorem test_meets_Verdict_no_room : 256 < (List.replicate 255 (InputEntry.brk 1)).length + base.openCount + 2 := by
  have : base.openCount = 0 := by decide
  rw [List.length_replicate, this]; omega

theorem test_meets_VerdictAdmitsACaller :
    (waiting (part .checkWait []) acct).nextGrant = some .checker ∧
      ((waiting (part .checkWait []) acct).line 9).session = none ∧
      (waiting (part .checkWait []) acct).account 7 = some acct ∧ (part .checkWait []).check = some acct.check ∧
      (waiting (part .checkWait []) acct).tPort.vote = .opened ∧ acct.openCount < acct.limit ∧
      -((base.classRec acct.cls).floor : Int) < acct.balance - ((base.classRec acct.cls).setup : Int) ∧
      (waiting (part .checkWait []) acct).input.length + (waiting (part .checkWait []) acct).openCount + 2 ≤ 256 := by
  decide

/-- A setup charge that exhausts no class. -/
theorem test_meets_VerdictAdmits_setup :
    (waiting (part .checkWait []) acct).nextGrant = some .checker ∧
      -(((base.classes.set 1 { ClassRec.initial with setup := 99 }).get 1).floor : Int) < acct.balance - 99 ∧
      ((base.classes.set 1 { ClassRec.initial with setup := 99 }).get 1).setup = 99 ∧
      (∀ c : Fin 4, -(((base.classes.set 1 { ClassRec.initial with setup := 99 }).get c).floor : Int) <
        max (-8388608) (acct.balance - 99)) := by decide

theorem test_meets_ReadsAnswerAndChangeNothing :
    (busy .t (.readLine .t 31) base).running .t (.readLine .t 31) ∧
      (busy .a (.readSession .a 9) (inSession sess)).running .a (.readSession .a 9) ∧
      (inSession sess).session 9 = some sess ∧ base.session 9 = none ∧
      (busy .t (.readClock .t) base).running .t (.readClock .t) ∧
      (busy .a (.holdStatus .a) base).running .a (.holdStatus .a) ∧
      (busy .t (.watchStatus .t) base).running .t (.watchStatus .t) ∧
      (busy .a (.peekBilling .a) base).running .a (.peekBilling .a) ∧ base.billing.records = [] :=
  ⟨running_busy _ _ _ rfl, running_busy _ _ _ rfl, by decide, by decide, running_busy _ _ _ rfl,
    running_busy _ _ _ rfl, running_busy _ _ _ rfl, running_busy _ _ _ rfl, by decide⟩

theorem test_meets_AccountAddInserts :
    (waits .a (.accountAdd .a 999999 16777215 3 7 8388607) base).grantedNext .a
        (.accountAdd .a 999999 16777215 3 7 8388607) := by
  exact grantedNext_waits _ _ _ rfl (by decide)

theorem test_meets_AccountAdd_clauses :
    base.account 999999 = none ∧ base.account 7 ≠ none ∧ base.accounts.length < 1024 ∧ (3 : Fin 4).val = (3 : Word).toNat := by
  decide

theorem test_meets_AccountAdd_full : 1024 ≤ (List.replicate 1024 acct).length := by rw [List.length_replicate]

theorem test_meets_AccountSetAndDelete :
    (waits .a (.accountSet .a 7 77 3 7) base).grantedNext .a (.accountSet .a 7 77 3 7) ∧ base.account 7 = some acct ∧
      (waits .a (.accountDelete .a 7) base).grantedNext .a (.accountDelete .a 7) ∧ base.account 8 = none ∧
      0 < acct.openCount ∧ (waits .a (.accountDelete .a 7) (inSession sess)).session 9 = some sess ∧
      sess.user = (7 : DWord).toNat :=
  ⟨grantedNext_waits _ _ _ rfl (by decide), by decide, grantedNext_waits _ _ _ rfl (by decide), by decide, by decide,
    by decide, by decide⟩

theorem test_meets_CreditRaisesAndRelieves :
    (waits .a (.credit .a 7 8388607) base).grantedNext .a (.credit .a 7 8388607) ∧ base.account 7 = some acct ∧
      base.account 8 = none :=
  ⟨grantedNext_waits _ _ _ rfl (by decide), by decide, by decide⟩

theorem test_meets_DebitLowersAndExhausts :
    (waits .a (.debit .a 7 100) (inSession sess)).grantedNext .a (.debit .a 7 100) ∧
      (waits .a (.debit .a 7 100) (inSession sess)).lineLaw ∧
      (waits .a (.debit .a 7 100) (inSession sess)).account 7 = some acct ∧
      (∀ (i : LineId) (x : Session), (waits .a (.debit .a 7 100) (inSession sess)).session i = some x →
        0 < ((waits .a (.debit .a 7 100) (inSession sess)).classRec x.cls).grace) ∧
      max (-8388608) (acct.balance - 100) ≤ -((base.classRec sess.cls).floor : Int) := by
  refine ⟨grantedNext_waits _ _ _ rfl (by decide), lineLaw_of_check (by decide), by decide, ?_, by decide⟩
  exact sessions_of_check (f := fun _ x => 0 < ((waits .a (.debit .a 7 100) (inSession sess)).classRec x.cls).grace)
    (by decide)

/-- R89, R43: the session is warned, with a character in progress or on an idle transmitter; one already warned is not. -/
theorem test_meets_Debit_warns :
    sess.state.isOpen = true ∧ sess.fundsWarned = false ∧
      max (-8388608) (acct.balance - 100) ≤ ((base.classRec sess.cls).warn : Int) ∧
      ((inSession sess).line 9).txChar ≠ none ∧ ((inSession sess).line 9).messages = [] ∧
      ((on { sessionLine sess with txChar := none }).line 9).txChar = none ∧
      ((on { sessionLine sess with txChar := none }).line 9).txItem = none ∧
      ((on { sessionLine sess with txChar := none }).line 9).buffer = [] := by decide

/-- Classes with no grace. -/
def noGrace (s : State) : State := { s with classes := Bank.replicate 4 { ClassRec.initial with grace := 0 } }

theorem test_meets_FundsCloseAtThePosting :
    let s := waits .a (.debit .a 7 100) (noGrace (inSession sess))
    s.grantedNext .a (.debit .a 7 100) ∧ s.account 7 = some acct ∧ s.hold.state = .none ∧ s.session 9 = some sess ∧
      (∀ (j : LineId) (y : Session), s.session j = some y → j ≠ 9 → y.user ≠ 7) ∧
      max (-8388608) (acct.balance - 100) ≤ -((s.classRec sess.cls).floor : Int) ∧ (s.classRec sess.cls).grace = 0 ∧
      (s.classRec sess.cls).rounding = .truncate ∧ (s.line 9).reserved = true ∧ (s.line 9).txChar ≠ none := by
  refine ⟨grantedNext_waits _ _ _ rfl (by decide), by decide, by decide, by decide, ?_, by decide, by decide, by decide,
    by decide, by decide⟩
  exact sessions_of_check (f := fun j y => j ≠ 9 → y.user ≠ 7) (by decide)

theorem test_meets_ResumeAndUnlockAnswerTheState :
    (waits .a (.resume .a 7) base).grantedNext .a (.resume .a 7) ∧
      (waits .a (.unlock .a 7) base).grantedNext .a (.unlock .a 7) ∧ base.account 7 = some acct ∧ base.account 8 = none :=
  ⟨grantedNext_waits _ _ _ rfl (by decide), grantedNext_waits _ _ _ rfl (by decide), by decide, by decide⟩

theorem test_meets_SuspendLocksAndLogsOut :
    (waits .a (.suspend .a 7 1) (inSession sess)).grantedNext .a (.suspend .a 7 1) ∧
      (waits .a (.suspend .a 7 0) (inSession sess)).grantedNext .a (.suspend .a 7 0) ∧ base.account 7 ≠ none ∧
      (∀ c : Fin 4, (base.classRec c).rounding = .truncate) :=
  ⟨grantedNext_waits _ _ _ rfl (by decide), grantedNext_waits _ _ _ rfl (by decide), by decide, by decide⟩

theorem test_meets_RecordsAreReadAndPeriodsClosed :
    (waits .t (.readAccount .t 7) base).grantedNext .t (.readAccount .t 7) ∧
      (waits .a (.sweep .a 6) base).grantedNext .a (.sweep .a 6) ∧ (6 : DWord).toNat < acct.user ∧
      (waits .a (.sweep .a 7) base).grantedNext .a (.sweep .a 7) ∧ (∀ b ∈ base.accounts, b.user ≤ (7 : DWord).toNat) ∧
      (waits .a (.closePeriod .a) (held base)).grantedNext .a (.closePeriod .a) ∧
      (waits .a (.closePeriod .a) base).grantedNext .a (.closePeriod .a) :=
  ⟨grantedNext_waits _ _ _ rfl (by decide), grantedNext_waits _ _ _ rfl (by decide), by decide,
    grantedNext_waits _ _ _ rfl (by decide), by decide, grantedNext_waits _ _ _ rfl (by decide),
    grantedNext_waits _ _ _ rfl (by decide)⟩

theorem test_meets_ArbiterGrantsInItsOrder :
    base.arbiter.grant = none ∧ base.hold.state = .none ∧ base.engineAsks = false ∧ base.passWants = false ∧
      (waits .t (.readAccount .t 7) base).grantedNext .t (.readAccount .t 7) ∧
      (waits .a (.readAccount .a 7) (held base)).asks (.unit .a) = true ∧
      ({ base with engine := { base.engine with closeWork := [9] } }).engineAsks = true :=
  ⟨by decide, by decide, by decide, by decide, grantedNext_waits _ _ _ rfl (by decide), by decide, by decide⟩

/-- Both command units ask, with the order checker, T, A; and the T unit holds the grant. -/
theorem test_meets_Arbiter_rotation :
    let both := waits .a (.readAccount .a 7) (waits .t (.readAccount .t 7) base)
    both.arbiter.grant = none ∧ both.nextGrant = some (.unit .t) ∧ both.asks (.unit .t) = true ∧
      both.asks (.unit .a) = true ∧ both.asks .checker = false ∧
      both.arbiter.rotation = [.checker, .unit .t, .unit .a] ∧ base.nextGrant = none ∧
      (arbitrate both).arbiter.grant = some (.unit .t) ∧ (arbitrate both).asks (.unit .t) = false ∧
      (arbitrate base).arbiter.grant = none := by decide

/-- A pass at a METERED session, whose request waits or not, with the T unit waiting. -/
def passBeside (asked : Bool) : State :=
  let s : State :=
    { inSession sess with
      engine := { base.engine with pass := some ⟨⟨⟨50, 2, 28, 23, 59, 0, 7⟩, 1, base.tariff⟩, 9⟩ }
      arbiter := { base.arbiter with passAsked := asked } }
  waits .t (.readAccount .t 7) s

/-- R93: that pass goes first where it has asked; else the T unit does. -/
theorem test_meets_Arbiter_pass :
    (passBeside true).passWants = true ∧ (passBeside true).engineAsks = false ∧
      (passBeside true).nextGrant = some .engine ∧ (passBeside false).nextGrant = some (.unit .t) ∧
      (passBeside false).asks (.unit .t) = true ∧ (passBeside false).asks (.unit .a) = false := by decide

/-- The T unit waits while the pass makes its access, and is granted at its end (R93). -/
theorem test_meets_PassCharges_waiting :
    (passBeside true).grantsPass = true ∧ (passBeside true).hold.state = .none ∧
      (passBeside true).arbiter.rotation.find? (passBeside true).asks = some (.unit .t) := by decide

/-- A request of the checker whose line has left the queue. -/
def asked (s : State) : State := { s with arbiter := { s.arbiter with checkerAsked := true } }

theorem test_meets_Arbiter_unused_grant :
    (asked base).mainPower = true ∧ (asked base).nextGrant = some .checker ∧
      (∀ e ∈ (asked base).checkQueue, e.waiting = true) := by decide

/-- R57: a line that ends its call while it waits for its verdict leaves the request standing, and the access that
follows is given back unused. -/
theorem test_checker_request_stands :
    (after (.signOnTimerExpiry 9) (waiting { part .checkWait [] with timer := 0 } acct)).arbiter.checkerAsked = true ∧
      (after .verdict
        (after (.signOnTimerExpiry 9) (waiting { part .checkWait [] with timer := 0 } acct))).arbiter.rotation =
          [.unit .t, .unit .a, .checker] := by decide

/-- The hold REQUESTED. -/
def requested (s : State) : State := { s with hold := { s.hold with state := .requested, limit := some 65535 } }

theorem test_meets_HoldIsRequestedGrantedReleased :
    (busy .a (.holdRequest .a 65535) base).running .a (.holdRequest .a 65535) ∧
      (busy .a (.holdRequest .a 0) base).running .a (.holdRequest .a 0) ∧
      (busy .a (.holdRelease .a) (held base)).running .a (.holdRelease .a) ∧
      (busy .a (.holdRelease .a) (held base)).hold.state = .granted ∧ (requested base).hold.limit = some 65535 ∧
      (requested base).engine.pass = none ∧ (requested base).engine.closeWork = [] ∧
      (held base).hold.timer = some 0 ∧ (held base).mainPower = true :=
  ⟨running_busy _ _ _ rfl, running_busy _ _ _ rfl, running_busy _ _ _ rfl, by decide, by decide, by decide, by decide,
    by decide, by decide⟩

theorem test_meets_HoldRelease_in_access :
    let s := busy .a (.holdRelease .a) (arbitrate (waits .t (.readAccount .t 7) (held base)))
    s.running .a (.holdRelease .a) ∧ s.hold.state = .granted ∧ s.arbiter.grant ≠ none ∧
      (after (.holdRelease .a) s).hold.state = .releasing :=
  ⟨running_busy _ _ _ (by decide), by decide, by decide, by decide⟩

/-- R106: the limit passes while the T unit holds the grant, and while no access is in progress. -/
theorem test_meets_HoldLimit_in_access :
    (arbitrate (waits .t (.readAccount .t 7) (held base))).arbiter.grant ≠ none ∧
      (arbitrate (waits .t (.readAccount .t 7) (held base))).hold.timer = some 0 ∧
      (arbitrate (waits .t (.readAccount .t 7) (held base))).hold.state = .granted ∧ (held base).arbiter.grant = none ∧
      base.hold.state ≠ .granted := by decide

/-- The T unit holds the grant for a LOGOFF, in GRANTED, when HOLD RELEASE is taken. -/
def releasedInAccess : State :=
  let x := { sess with unpostedSeconds := 5 }
  after (.holdRelease .a) (busy .a (.holdRelease .a) (arbitrate (waits .t (.logoff .t 9 9) (held (inSession x)))))

/-- R134: the seconds of a LOGOFF that a HOLD RELEASE found in progress are counted. -/
theorem test_release_waits_for_access :
    releasedInAccess.hold.state = .releasing ∧
      (after .commandTableAccess releasedInAccess).hold.state = .none ∧
      (after .commandTableAccess releasedInAccess).engine.secondsDue = [⟨7, 5⟩] := by decide

/-- R134: the seconds due to a deleted account are discarded, and those of another account stand. -/
theorem test_deleted_account_due :
    let s : State := { base with
      accounts := [{ acct with openCount := 0 }], engine := { Engine.initial with secondsDue := [⟨7, 5⟩, ⟨8, 6⟩] } }
    let t := after .commandTableAccess (waits .a (.accountDelete .a 7) s)
    t.aPort.status = .ok ∧ t.engine.secondsDue = [⟨8, 6⟩] := by decide

/-- The hold RELEASING with a deferred entry, or with unposted units. -/
def releasing (d : List Deferred) (x : Session) : State :=
  { inSession x with hold := { Hold.initial with state := .releasing }, deferred := d }

theorem test_meets_ReleasePostsInOrder :
    (releasing [⟨7, 3, .close⟩] sess).mainPower = true ∧ (releasing [⟨7, 3, .close⟩] sess).lineLaw ∧
      (releasing [⟨7, 3, .close⟩] sess).engine.pass = none ∧
      (∀ c : Fin 4, -(((releasing [⟨7, 3, .close⟩] sess).classRec c).floor : Int) < max (-8388608) (acct.balance - 99)) ∧
      (releasing [] { sess with unpostedUnits := 99 }).session 9 = some { sess with unpostedUnits := 99 } ∧
      (∀ (j : LineId) (y : Session), (releasing [] { sess with unpostedUnits := 99 }).session j = some y → j < 9 →
        y.unpostedUnits = 0) ∧
      ({ inSession sess with engine := { base.engine with dueAsked := true } }).engine.dueAsked = true ∧
      (∀ b ∈ base.accounts, b.periodSeconds ≤ 4294967295) := by
  refine ⟨by decide, lineLaw_of_check (by decide), by decide, by decide, by decide, ?_, by decide, by decide⟩
  exact sessions_of_check (f := fun j y => j < 9 → y.unpostedUnits = 0) (by decide)

/-- A release with units set aside, a carrier loss having left its close work waiting (section 5.5). -/
def lossInRelease : State :=
  { releasing [] { closedSess with unpostedUnits := 4 } with engine := { base.engine with closeWork := [9] } }

theorem test_meets_Release_close_work :
    lossInRelease.lineLaw ∧ lossInRelease.engine.pass = none ∧ lossInRelease.engine.closeWork ≠ [] ∧
      lossInRelease.setAside = true ∧ (releasing [⟨7, 3, .close⟩] sess).engine.closeWork = [] :=
  ⟨lineLaw_of_check (by decide), by decide⟩

/-- R107 and section 5.5: the CLOSE entry is made before any posting of the release is. -/
theorem test_close_work_before_release :
    releasePostingOn lossInRelease = lossInRelease ∧
      (closeWorkGranted lossInRelease).deferred = [⟨7, 4, .close⟩] := by decide

theorem test_meets_ClockAdvanceCarries :
    base.clock.valid = true ∧ (Calendar.mk 99 12 31 23 59 59 7).valid = true ∧
      ({ base with mainPower := false }).mainPower = false := by decide

/-- A pass in progress at line n, for a tick whose second is 0. -/
def passing (n : Nat) (s : State) : State :=
  { s with engine := { s.engine with pass := some ⟨⟨⟨50, 2, 28, 23, 59, 0, 7⟩, 1, s.tariff⟩, n⟩, ticks := 1 } }

/-- A remembered tick. -/
def remembering (s : State) : State :=
  { s with engine := { s.engine with remembered := some ⟨⟨50, 2, 28, 23, 59, 1, 7⟩, 1, s.tariff⟩ } }

theorem test_meets_TicksStartRememberOrLose :
    (inSession sess).engine.pass = none ∧ (inSession sess).session 9 = some sess ∧ sess.state.isCharged = true ∧
      sess.bornTick ≤ (inSession sess).engine.ticks ∧
      (∀ (j : LineId) (y : Session), (inSession sess).session j = some y → j < 9 → y.state = .closing) ∧
      (passing 9 (inSession sess)).engine.pass =
        some ⟨⟨⟨50, 2, 28, 23, 59, 0, 7⟩, 1, base.tariff⟩, (9 : LineId).val⟩ ∧
      sess.bornTick < 1 ∧ (remembering (passing 9 (inSession sess))).engine.remembered ≠ none ∧
      (releasing [⟨7, 3, .close⟩] sess).setAside = true ∧ (remembering base).engine.dueAsked = false ∧
      (∀ (i : LineId) (x : Session), (remembering base).session i = some x → x.state = .closing) := by
  refine ⟨by decide, by decide, by decide, by decide, ?_, by decide, by decide, by decide, by decide, by decide, ?_⟩
  · exact sessions_of_check (f := fun j y => j < 9 → y.state = .closing) (by decide)
  · exact sessions_of_check (f := fun _ y => y.state = .closing) (by decide)

theorem test_meets_Ticks_remembered_pass :
    (remembering (inSession sess)).engine.pass = none ∧ (remembering (inSession sess)).engine.dueAsked = false ∧
      (remembering (inSession sess)).hold.state = .none ∧ (remembering (inSession sess)).session 9 = some sess ∧
      sess.state.isCharged = true ∧ sess.bornTick < 1 ∧
      (∀ (j : LineId) (y : Session), (remembering (inSession sess)).session j = some y → j < 9 → y.state = .closing) := by
  refine ⟨by decide, by decide, by decide, by decide, by decide, by decide, ?_⟩
  exact sessions_of_check (f := fun j y => j < 9 → y.state = .closing) (by decide)

/-- A pass at line 9, whose session has closed since, with a tick remembered; x on line 5 has been visited (R129). -/
def passIdle (x : Session) : State := (remembering (passing 9 (inSession closedSess))).setLine 5 (sessionLine x)

/-- A pass in progress with nothing left to charge: the remembered tick's pass goes to its end, past a HELD session with
room for one held second more, or comes to line 5. -/
theorem test_meets_Ticks_pass_idle :
    (passIdle sess).engine.pass.any (fun p => p.next == 9) = true ∧ (passIdle sess).engine.remembered.isSome = true ∧
      (passIdle sess).hold.state = .none ∧ (passIdle sess).engine.dueAsked = false ∧
      (∀ (j : LineId) (y : Session), (passIdle sess).session j = some y → 9 ≤ j.val → y.state.isCharged = false) ∧
      (passIdle sess).session 5 = some sess ∧ sess.state.isCharged = true ∧ sess.bornTick < 1 ∧
      (∀ (j : LineId) (y : Session), (passIdle sess).session j = some y →
        (j < 5 → y.state.isCharged = false) ∧ y.heldSeconds = 0) ∧
      (∀ (j : LineId) (y : Session), (passIdle { sess with state := .held, heldSeconds := 4294967294 }).session j = some y →
        y.state.isCharged = false ∧ y.heldSeconds + 1 ≤ 4294967295) := by
  refine ⟨by decide, by decide, by decide, by decide, ?_, by decide, by decide, by decide, ?_, ?_⟩
  · exact sessions_of_check (f := fun j y => 9 ≤ j.val → y.state.isCharged = false) (by decide)
  · exact sessions_of_check (f := fun j y => (j < 5 → y.state.isCharged = false) ∧ y.heldSeconds = 0) (by decide)
  · exact sessions_of_check (f := fun _ y => y.state.isCharged = false ∧ y.heldSeconds + 1 ≤ 4294967295) (by decide)

/-- A billing record of a sequence. -/
def record (n : Nat) : BillingRecord :=
  { sequence := n, serial := 9, line := 9, user := 7, cls := 1, openStamp := ⟨50, 1, 1, 0, 0, 0⟩
    closeStamp := ⟨50, 1, 1, 0, 1, 0⟩, connectSeconds := 60, heldSeconds := 0, connectUnits := 1, setupUnits := 0
    resourceUnits := 0, reason := .logoff, clockSet := false, late := false, saturated := false, roundedUp := false }

theorem test_meets_ReadinessInputsAreActedOn :
    (busy .a (.setClock .a 88 2 29 23 59 59 7) base).running .a (.setClock .a 88 2 29 23 59 59 7) ∧
      (Calendar.mk 88 2 29 23 59 59 7).valid = true ∧ (Calendar.mk 89 2 29 0 0 0 1).valid = false ∧
      (busy .t (.admission .t 1) base).running .t (.admission .t 1) ∧
      (busy .a (.admission .a 2) base).running .a (.admission .a 2) ∧
      (busy .a (.releaseBilling .a 65535) { base with billing := ⟨[record 65535], 1, 0⟩ }).running .a
        (.releaseBilling .a 65535) ∧
      ({ base with billing := ⟨[record 65535], 1, 0⟩ }).billing.records = [record 65535] :=
  ⟨running_busy _ _ _ rfl, by decide, by decide, running_busy _ _ _ rfl, running_busy _ _ _ rfl,
    running_busy _ _ _ rfl, by decide⟩

theorem test_meets_TablesAreReplacedWhole :
    (busy .a (.tariffWrite .a 1 7 1 1 [1439, 1, 2, 3, 4]) base).running .a (.tariffWrite .a 1 7 1 1 [1439, 1, 2, 3, 4]) ∧
      (∀ b ∈ bandsOf [1439, 1, 2, 3, 4], b.start ≤ 1439) ∧
      ¬ (∀ b ∈ bandsOf [1440, 1, 2, 3, 4], b.start ≤ 1439) ∧
      (busy .a (.dayMapWrite .a 0 0 0 0 0 1 1) base).running .a (.dayMapWrite .a 0 0 0 0 0 1 1) ∧
      (busy .a (.classWrite .a 3 255 65535 0 600 60 120 2 15 1440) base).running .a
        (.classWrite .a 3 255 65535 0 600 60 120 2 15 1440) ∧
      (if base.tariff.dayMap.get 6 = .a then base.tariff.schedA else base.tariff.schedB) =
        [] ++ (⟨0, 0, 0, 0, 0⟩ : Band) :: [] :=
  ⟨running_busy _ _ _ rfl, by decide, by decide, running_busy _ _ _ rfl, running_busy _ _ _ rfl, by decide⟩

/-- The checker holds the grant. -/
def checking (s : State) : State := { s with arbiter := { s.arbiter with grant := some .checker } }

theorem test_meets_Tables_in_access :
    (busy .a (.classWrite .a 3 255 65535 0 600 60 120 2 15 1440) (checking base)).running .a
        (.classWrite .a 3 255 65535 0 600 60 120 2 15 1440) ∧
      (busy .a (.dayMapWrite .a 0 0 0 0 0 1 1) (checking base)).running .a (.dayMapWrite .a 0 0 0 0 0 1 1) ∧
      (checking base).arbiter.grant ≠ none ∧ base.installs = [] ∧ base.arbiter.grant = none :=
  ⟨running_busy _ _ _ rfl, running_busy _ _ _ rfl, by decide, rfl, rfl⟩

/-- R125: an install taken during an access is made at its end. -/
theorem test_install_waits :
    let c : Instr := .classWrite .a 3 255 65535 0 600 60 120 2 15 1440
    let s := after c (busy .a c (checking base))
    s.aPort.status = .ok ∧ (s.classRec 3).setup = 0 ∧ ((after .verdict s).classRec 3).setup = 255 := by decide

theorem test_meets_PassChargesOneSecond :
    let s := passing 9 (inSession sess)
    s.mainPower = true ∧ s.lineLaw ∧ s.session 9 = some sess ∧ sess.bornTick < 1 ∧ s.grantsPass = true ∧
      (s.classRec sess.cls).idleLimit = 0 ∧ (s.classRec sess.cls).idleWarn = 0 ∧
      sess.connectUnits + (sess.residue + sess.rate) / 6000 ≤ 4294967295 ∧ s.account 7 = some acct ∧
      (∀ (j : LineId) (z : Session), s.session j = some z →
        -((s.classRec z.cls).floor : Int) < max (-8388608) (acct.balance - 1)) := by
  refine ⟨by decide, lineLaw_of_check (by decide), by decide, by decide, by decide, by decide, by decide, by decide,
    by decide, ?_⟩
  exact sessions_of_check (f := fun _ z => -((base.classRec z.cls).floor : Int) < max (-8388608) (acct.balance - 1))
    (by decide)

/-- A session in GRACE with two seconds left. -/
def graceSess : Session := { sess with state := .grace, grace := some 2 }

theorem test_meets_PassCharges_grace :
    let s := passing 9 (inSession graceSess)
    s.lineLaw ∧ s.session 9 = some graceSess ∧ s.grantsPass = true ∧ graceSess.grace = some 2 ∧
      (∀ (j : LineId) (z : Session), s.session j = some z → z.state ≠ .metered) := by
  refine ⟨lineLaw_of_check (by decide), by decide, by decide, by decide, ?_⟩
  exact sessions_of_check (f := fun _ z => z.state ≠ .metered) (by decide)

theorem test_meets_PassCharges_diverted :
    (passing 9 (held (inSession sess))).grantsPass = true ∧
      ({ passing 9 (held (inSession sess)) with
        hold := { (held base).hold with passInGranted := true } }).hold.passInGranted = true := by decide

/-- R125, R127: a schedule installed after a tick of second 0 was taken is not read by the recompute of that tick; a
rate factor set meanwhile is (2 × 16 + 4) ÷ 8 is 4. -/
theorem test_recompute_reads :
    ((recompute 9 ⟨⟨50, 2, 28, 23, 59, 0, 7⟩, 1, { Tariff.initial with schedA := [⟨0, 0, 2, 0, 0⟩] }⟩
        { inSession sess with
          groups := Bank.replicate 4 { GroupRec.initial with rateFactor := 16 }
          tariff := { Tariff.initial with schedA := [⟨0, 0, 900, 0, 0⟩] } }).session 9).map Session.rate = some 4 := by
  decide

/-- Classes that supervise at 1 minute of idleness, or not. -/
def supervised (limit warn : Nat) (s : State) : State :=
  { s with classes := Bank.replicate 4 { ClassRec.initial with idleLimit := limit, idleWarn := warn } }

/-- A second that forms no unit, after idle seconds n. -/
def quietSess (n : Nat) : Session := { sess with rate := 0, idleSeconds := n }

theorem test_meets_PassSupervisesSessions :
    let s := passing 9 (supervised 1 0 (inSession (quietSess 59)))
    s.lineLaw ∧ s.session 9 = some (quietSess 59) ∧ s.grantsPass = true ∧ s.hold.state = .none ∧
      (s.classRec 1).rounding = .truncate ∧ (s.classRec 1).idleLimit * 60 ≤ min ((quietSess 59).idleSeconds + 1) 65535 ∧
      (passing 9 (supervised 2 1 (inSession (quietSess 118)))).grantsPass = true ∧ 118 + 1 < 2 * 60 ∧ 1 * 60 ≤ 118 + 1 ∧
      (passing 9 (inSession { quietSess 0 with state := .grace, grace := some 1 })).grantsPass = true := by
  refine ⟨lineLaw_of_check (by decide), by decide, by decide, by decide, by decide, by decide, by decide, by decide,
    by decide, by decide⟩

/-- The close decision of line 9 waits for its account work. -/
def closing (st : LineState) : State :=
  { on { sessionLine closedSess with state := st } with engine := { base.engine with closeWork := [9] } }

theorem test_meets_CloseWorkSettlesTheSession :
    (closing .session).lineLaw ∧ (closing .closing).lineLaw ∧ (closing .session).nextGrant = some .engine ∧
      (closing .session).session 9 = some closedSess ∧ closedSess.work = some .pending ∧
      closedSess.closeReason = some .carrier ∧ closedSess.closeStamp = some ⟨50, 2, 28, 23, 1, 0⟩ ∧
      (closing .session).hold.state = .none ∧ ((closing .session).line 9).reserved = true ∧
      (∀ c : Fin 4, -(((closing .session).classRec c).floor : Int) < max (-8388608) (acct.balance - 1)) := by
  refine ⟨lineLaw_of_check (by decide), lineLaw_of_check (by decide), by decide, by decide, by decide, by decide,
    by decide, by decide, by decide, by decide⟩

/-- R45: a line that leaves SESSION for HANGUP finishes the character in progress. -/
theorem test_hangup_finishes_character :
    ((enterHangup 9 (inSession closedSess)).line 9).txChar = some 0x41 := by decide

/-- R180: 79 records before the write make it the 80th. -/
theorem test_meets_CloseWork_releasing :
    let s := { closing .session with hold := { Hold.initial with state := .releasing } }
    s.nextGrant = some .engine ∧ s.engine.pass = none ∧ (after .closeAccountWork s).setAside = false ∧
      (after .closeAccountWork { s with deferred := [⟨7, 1, .close⟩] }).setAside = true := by decide

theorem test_meets_CloseWork_high (n : Nat) : 80 ≤ (List.replicate n (record 1)).length + 1 ↔ 79 ≤ n := by
  rw [List.length_replicate]; omega

theorem test_meets_CloseWork_requested :
    (requested (closing .session)).nextGrant = some .engine ∧ (requested (closing .session)).hold.state = .requested ∧
      (requested (closing .session)).lineLaw :=
  ⟨by decide, by decide, lineLaw_of_check (by decide)⟩

theorem test_meets_CloseWork_aside :
    (held (closing .session)).nextGrant = some .engine ∧ (held (closing .session)).hold.state = .granted ∧
      (held (closing .session)).lineLaw ∧ ((held (closing .session)).line 9).reserved = true ∧
      closedSess.connectUnits < 4294967295 := by
  refine ⟨by decide, by decide, lineLaw_of_check (by decide), by decide, by decide⟩

theorem test_meets_Logoff_aside :
    let s := waits .t (.logoff .t 9 9) (held (inSession { sess with unpostedUnits := 65535 }))
    s.grantedNext .t (.logoff .t 9 9) ∧ s.lineLaw ∧ s.hold.state = .granted ∧
      s.session 9 = some { sess with unpostedUnits := 65535 } ∧ (s.classRec sess.cls).rounding = .truncate ∧
      (s.line 9).txChar ≠ none :=
  ⟨grantedNext_waits _ _ _ rfl (by decide), lineLaw_of_check (by decide), by decide, by decide, by decide, by decide⟩

theorem test_meets_LogoffAndShutdownClose :
    let s := waits .t (.logoff .t 9 9) (inSession sess)
    s.grantedNext .t (.logoff .t 9 9) ∧ s.lineLaw ∧ s.session 9 = some sess ∧ sess.serial = (9 : Word).toNat ∧
      (s.classRec sess.cls).rounding = .truncate ∧ (s.line 9).txChar ≠ none ∧
      (waits .t (.logoff .t 31 0) base).grantedNext .t (.logoff .t 31 0) ∧
      (waits .t (.shutdownSessions .t) (inSession sess)).grantedNext .t (.shutdownSessions .t) ∧
      (∀ c : Fin 4, (base.classRec c).rounding = .truncate) :=
  ⟨grantedNext_waits _ _ _ rfl (by decide), lineLaw_of_check (by decide), by decide, by decide, by decide, by decide,
    grantedNext_waits _ _ _ rfl (by decide), grantedNext_waits _ _ _ rfl (by decide), by decide⟩

theorem test_meets_PostChargePostsOrDefers :
    let s := waits .t (.postCharge .t 7 99 9) (inSession sess)
    s.grantedNext .t (.postCharge .t 7 99 9) ∧ s.lineLaw ∧ s.account 7 = some acct ∧ s.session 9 = some sess ∧
      (∀ c : Fin 4, -((s.classRec c).floor : Int) < max (-8388608) (acct.balance - 99)) ∧
      (waits .t (.postCharge .t 7 65535 0) (held base)).grantedNext .t (.postCharge .t 7 65535 0) ∧
      8 ≤ ((List.replicate 8 (⟨7, 1, .tCharge⟩ : Deferred)).filter (·.origin == .tCharge)).length ∧
      ((List.replicate 7 (⟨7, 1, .tCharge⟩ : Deferred)).filter (·.origin == .tCharge)).length < 8 ∧
      (waits .t (.postCharge .t 7 1 8) base).grantedNext .t (.postCharge .t 7 1 8) ∧ base.session 9 = none :=
  ⟨grantedNext_waits _ _ _ rfl (by decide), lineLaw_of_check (by decide), by decide, by decide, by decide,
    grantedNext_waits _ _ _ rfl (by decide), by decide, by decide, grantedNext_waits _ _ _ rfl (by decide), by decide⟩

/-- The watch DOWN, its hold-down timer run out. -/
def down (s : State) : State :=
  { s with watch := { s.watch with down := true, window := 5, holdDownTimer := some 0 } }

/-- The watch timer run out. -/
def late (s : State) : State := { s with watch := { s.watch with window := 60, timer := some 0 } }

theorem test_meets_WatchGoesDownAndHoldsSessions :
    (busy .t (.setWatch .t 5 0) base).running .t (.setWatch .t 5 0) ∧
      (busy .t (.setWatch .t 61 60) base).running .t (.setWatch .t 61 60) ∧
      (late (inSession sess)).lineLaw ∧ (late (inSession sess)).watch.timer = some 0 ∧
      (late (inSession sess)).tPort.state ≠ .busy ∧
      (late (enabled (on { LineRec.initial with state := .ringing, enable := true }))).effEnable 9 = true ∧
      (down (inSession { sess with state := .held, heldFrom := some .metered })).lineLaw ∧
      (down (inSession { sess with state := .held, heldFrom := some .metered })).watch.holdDownTimer = some 0 :=
  ⟨running_busy _ _ _ rfl, running_busy _ _ _ rfl, lineLaw_of_check (by decide), by decide, by decide, by decide,
    lineLaw_of_check (by decide), by decide⟩

/-- The same with READ SPACE built at the T port. -/
def downBuilding : State :=
  { down (inSession { sess with state := .held, heldFrom := some .metered }) with
    tPort := { PortUnit.initial with starting := false, state := .building, record := [0x22] } }

theorem test_meets_CommandBringsTheWatchUp :
    downBuilding.live .t ∧ decodeRecord .t downBuilding.tPort.record = some (.readSpace .t) ∧
      roleOk .t (.readSpace .t) = true ∧ isTableCommand (.readSpace .t) = false ∧ downBuilding.restarting .a = false ∧
      downBuilding.watch.down = true ∧
      (∀ (i : LineId) (x : Session), downBuilding.session i = some x → 0 < (downBuilding.classRec x.cls).grace) := by
  refine ⟨⟨rfl, rfl⟩, by decide, by decide, by decide, by decide, by decide, ?_⟩
  exact sessions_of_check (f := fun _ x => 0 < (downBuilding.classRec x.cls).grace) (by decide)

/-- A T command with table work, RESTART, and a session that a grace of 0 ends at the resumption. -/
theorem test_meets_CommandBringsTheWatchUp_all :
    let s := { noGrace downBuilding with
      accounts := [{ acct with balance := 0 }], tPort := { downBuilding.tPort with record := [0x67] } }
    s.live .t ∧ decodeRecord .t s.tPort.record = some (.restart .t) ∧ roleOk .t (.restart .t) = true ∧
      decodeRecord .t [0x62] = some (.shutdownSessions .t) ∧ roleOk .t (.shutdownSessions .t) = true ∧
      s.watch.down = true ∧ s.session 9 = some { sess with state := .held, heldFrom := some .metered } ∧
      s.exhausted sess = true ∧ (s.classRec sess.cls).grace = 0 := by
  refine ⟨⟨rfl, rfl⟩, ?_⟩; decide

theorem test_meets_RestartClosesEverything :
    (waits .a (.restart .a) (inSession sess)).grantedNext .a (.restart .a) ∧
      (waits .a (.restart .a) (inSession sess)).lineLaw ∧ (∀ c : Fin 4, (base.classRec c).rounding = .truncate) :=
  ⟨grantedNext_waits _ _ _ rfl (by decide), lineLaw_of_check (by decide), by decide⟩

/-- A RESTART that holds the grant when a close decision leaves account work PENDING. -/
theorem test_meets_Restart_pending :
    let s := arbitrate (waits .a (.restart .a) (inSession sess))
    ({ closing .session with tPort := s.tPort, aPort := s.aPort, arbiter := s.arbiter }).grantedNext .a (.restart .a) ∧
      ({ closing .session with tPort := s.tPort, aPort := s.aPort, arbiter := s.arbiter }).lineLaw ∧
      (closing .session).engine.closeWork = [9] ∧ (closing .session).session 9 = some closedSess :=
  ⟨⟨⟨rfl, rfl⟩, by decide, by decide, by decide⟩, lineLaw_of_check (by decide), by decide, by decide⟩

/-- A RESTART of the A port is granted while line 9, FAULTED before, is in a line test of the T port (R25, R194). -/
def testWithRestart : State :=
  let tested := on { LineRec.initial with state := .test, test := some ⟨.faulted, 7, 1, 0, []⟩, fault := .stuckCarrier }
  waits .a (.restart .a) { tested with
    tPort := { PortUnit.initial with starting := false, state := .busy, job := some ⟨.testing, .lineTest .t 9 7⟩ } }

theorem test_meets_Restart_line_test :
    testWithRestart.grantedNext .a (.restart .a) ∧ testWithRestart.lineLaw ∧ testWithRestart.tPort.starting = false ∧
      (testWithRestart.line 9).state = .test ∧ (testWithRestart.line 9).test = some ⟨.faulted, 7, 1, 0, []⟩ ∧
      testWithRestart.tPort.state = .busy ∧ testWithRestart.tPort.job = some ⟨.testing, .lineTest .t 9 7⟩ ∧
      (testWithRestart.line 3).state = .disabled :=
  ⟨grantedNext_waits _ _ _ rfl (by decide), lineLaw_of_check (by decide), by decide⟩

/-- R25, R27: the line work of that RESTART ends the test, and the line is FAULTED again with its fault kind. -/
theorem test_restart_ends_line_test :
    ((restartLine 9 testWithRestart).line 9).state = .faulted ∧
      ((restartLine 9 testWithRestart).line 9).fault = .stuckCarrier := by decide

theorem test_meets_PowerEventsKeepTheRetainedPlane :
    State.reset.mainPower = true ∧ ({ State.reset with mainPower := false }).mainPower = false ∧
      (inSession sess).session 9 = some sess ∧ sess.state.isOpen = true ∧ closedSess.work = some .pending ∧
      (inSession closedSess).session 9 = some closedSess ∧ closedSess.closeReason = some .carrier ∧
      sess.connectUnits < 4294967295 ∧
      (∀ b ∈ base.accounts, -8388608 ≤ b.balance ∧ b.periodUnits ≤ 4294967295 ∧ b.periodSeconds ≤ 4294967295) := by
  decide

/-- R92: power events during an access: of a command unit, and of the checker. -/
theorem test_meets_PowerEvents_in_access :
    (arbitrate (waits .a (.debit .a 7 100) base)).arbiter.grant = some (.unit .a) ∧
      (arbitrate (waits .a (.debit .a 7 100) base)).mainPower = true ∧
      (arbitrate (waiting (part .checkWait []) acct)).arbiter.grant = some .checker ∧
      (arbitrate (waits .a (.debit .a 7 100) base)).hold.state ≠ .granted := by decide

/-- R92: what a power event during a CREDIT carries to its end. -/
theorem test_failure_carries_access :
    (finishAccess (arbitrate (waits .a (.credit .a 7 30) base))).accounts = [{ acct with balance := 130 }] := by decide

/-- Section 9.7: the stamps of the record written there lie 547 seconds apart, which agrees (R175); so would 548 with any
reason but POWER. -/
theorem test_stamps_agree :
    let r : BillingRecord := { record 4417 with
      openStamp := ⟨24, 3, 13, 17, 55, 30⟩, closeStamp := ⟨24, 3, 13, 18, 4, 37⟩, connectSeconds := 547 }
    r.openStamp.distance r.closeStamp = 547 ∧ r.stampsAgree = true ∧
      ({ r with connectSeconds := 546 }).stampsAgree = true ∧
      ({ r with connectSeconds := 546, reason := .power }).stampsAgree = false ∧
      ({ r with connectSeconds := 545 }).stampsAgree = false := by decide

/-- R112: the last second of year 99 lies one second before the first of year 0. -/
theorem test_distance_wraps : Stamp.distance ⟨99, 12, 31, 23, 59, 59⟩ ⟨0, 1, 1, 0, 0, 0⟩ = 1 := by decide

/-- R163: the sweep posts a deferred entry and the unposted units of a session to the account. -/
theorem test_sweep_posts :
    (sweepLine 9 (sweepDeferred (releasing [⟨7, 3, .close⟩] { sess with unpostedUnits := 4 }))).accounts =
      [{ acct with balance := 93, periodUnits := 7, openCount := 0 }] := by decide

/-- The premises of the laws that every step keeps hold in a state with a session, an account and a waiting line. -/
theorem test_meets_laws_accounts : (inSession sess).accountsOrdered := by
  refine ⟨?_, by decide⟩; decide

theorem test_meets_laws_input : (inSession sess).inputLaw := by unfold State.inputLaw; decide

theorem test_meets_laws_openCount : (inSession sess).openCountLaw := by
  refine ⟨by decide, ?_, ?_, fun p h => by cases p <;> exact absurd h (by decide)⟩
  · exact sessions_of_check (f := fun _ x => ((inSession sess).account x.user).isSome = true ∧
      (x.work = none ↔ x.state.isOpen = true)) (by decide)
  · intro _ i x hx hw
    exact absurd hw (sessions_of_check (s := inSession sess) (f := fun _ x => x.work ≠ some .pending) (by decide) i x hx)

theorem test_meets_laws_hold : (held (inSession sess)).holdLaw := ⟨by decide, by decide⟩

theorem test_meets_laws_serials : (inSession sess).serialLaw := by
  refine ⟨?_, ?_, by decide, by decide⟩
  · intro i j x y hij hx hy _
    have := sessions_of_check (s := inSession sess) (f := fun k _ => k = 9) (by decide)
    exact hij ((this i x hx).trans (this j y hy).symm)
  · exact sessions_of_check (f := fun _ x => 1 ≤ x.serial ∧ x.serial ≤ 65535) (by decide)

theorem test_meets_laws_sequences : ({ base with billing := ⟨[record 65535], 1, 0⟩ }).sequenceLaw := by
  refine ⟨?_, by decide, by decide⟩
  show nextCounter 65535 = 1
  decide

theorem test_meets_laws_lines : (inSession sess).lineLaw := lineLaw_of_check (by decide)

theorem test_meets_laws_store : ({ inSession sess with billing := ⟨[], 1, 1⟩ }).storeLaw :=
  ⟨by decide, by decide, by decide, by decide, by decide⟩

theorem test_meets_laws_watch : (down (inSession { sess with state := .held })).watchLaw := by
  refine ⟨by decide, ?_⟩
  intro _ i
  refine ⟨by revert i; decide, ?_⟩
  have := sessions_of_check (s := down (inSession { sess with state := .held })) (f := fun _ x => x.state.isCharged = false)
    (by decide)
  exact this i

end Sys2Proof.Tests
end

section
/-! PROOFS. Rows that run, arguments and fields in words, GROUP SET (R3), and the six reads. -/

namespace Sys2Proof.Machine

/-! ### Rows that run -/

/-- A command row whose port is BUSY with it answers the state its work leaves. -/
theorem exec_running {c : Instr} {p : PortId} {s : State} {work : State → State}
    (hc : exec c s = .next (whenPowered s (give p c work))) (h : s.running p c) : exec c s = .next (work s) := by
  rw [hc, give_running h]

/-- An event row of a powered part answers the state the event leaves. -/
theorem exec_powered {c : Instr} {s : State} {f : State → State} (hc : exec c s = .next (whenPowered s f))
    (h : s.mainPower = true) : exec c s = .next (f s) := by
  rw [hc, whenPowered_on h]

/-! ### Arguments and fields in words -/

theorem inRange_iff (n lo hi : Nat) : inRange n lo hi = true ↔ lo ≤ n ∧ n ≤ hi := by simp [inRange]

theorem loByte_eq_setWidth (w : Word) : loByte w = w.setWidth 8 := by
  apply BitVec.eq_of_toNat_eq
  simp [loByte]

theorem flagArg_isSome_iff (w : Word) : (flagArg w).isSome = true ↔ w.toNat ≤ 1 := by
  by_cases h : w.toNat ≤ 1
  · simp [flagArg_some h, h]
  · simp [flagArg_none (Nat.lt_of_not_le h), h]

theorem wOption_map {α : Type} (o : Option α) (f : α → Nat) :
    wOption (o.map f) = (o.map fun x => w16 (f x)).getD 0xFFFF := by
  cases o <;> rfl

/-- The ranges of Table 1-3. -/
theorem groupSettingsOk_iff (rc cw sl lc ss rf ie : Word) :
    groupSettingsOk rc cw sl lc ss rf ie = true ↔
      1 ≤ rc.toNat ∧ rc.toNat ≤ 7 ∧ 5 ≤ cw.toNat ∧ cw.toNat ≤ 60 ∧ 10 ≤ sl.toNat ∧ sl.toNat ≤ 255 ∧
        1 ≤ lc.toNat ∧ lc.toNat ≤ 31 ∧ 1 ≤ ss.toNat ∧ ss.toNat ≤ 255 ∧ 4 ≤ rf.toNat ∧ rf.toNat ≤ 16 ∧
        ie.toNat ≤ 1 := by
  simp only [groupSettingsOk, Bool.and_eq_true, inRange_iff, flagArg_isSome_iff, and_assoc]

/-! ### The obligations -/

/-- Settles O11: the ranges of Table 1-3 decide between the whole replacement and the refusal. -/
theorem groupSetReplacesSettings : Obligations.GroupSetReplacesSettings := by
  intro p g rc cw sl lc ss rf ie s hrun good
  rw [exec_running (work := workGroupSet p g rc cw sl lc ss rf ie) rfl hrun]
  by_cases hg : g.toNat ≤ 3
  · obtain ⟨k, hkv⟩ : ∃ k : Fin 4, k.val = g.toNat := ⟨⟨g.toNat, by omega⟩, rfl⟩
    have hk : groupArg g = some k := groupArg_val hkv
    refine ⟨fun hgood => ?_, fun hbad => ?_⟩
    · obtain ⟨-, hset⟩ := hgood
      have hok := (groupSettingsOk_iff rc cw sl lc ss rf ie).mpr hset
      have hie : ie.toNat ≤ 1 := by omega
      refine ⟨s.groups.set k ((s.group k).settings rc cw sl lc ss rf ie),
        by simp only [workGroupSet, hk, hok, if_true, completeOk], fun j => ?_⟩
      rw [Bank.get_set]
      by_cases e : k = j
      · subst e
        simp [hkv, GroupRec.settings, loByte_eq_setWidth, flagArg_some hie]
      · have : ¬ j.val = g.toNat := fun h => e (Fin.ext (by omega))
        simp [e, this, State.group]
    · have hno : ¬ groupSettingsOk rc cw sl lc ss rf ie = true := fun h =>
        hbad ⟨hg, (groupSettingsOk_iff rc cw sl lc ss rf ie).mp h⟩
      simp [workGroupSet, hk, hno, refuse]
  · refine ⟨fun hgood => absurd hgood.1 hg, fun _ => ?_⟩
    simp [workGroupSet, groupArg_none (Nat.lt_of_not_le hg), refuse]

/-- Settles O29: each read is its completion with the words of the fields it names. -/
theorem readsAnswerAndChangeNothing : Obligations.ReadsAnswerAndChangeNothing := by
  intro p s
  refine ⟨fun n hrun => ?_, fun n hrun => ?_, fun hrun => ?_, fun hrun => ?_, fun hrun => ?_, fun hrun => ?_⟩
  · rw [exec_running (work := workReadLine p n) rfl hrun]
    refine ⟨fun i hi => ?_, fun hn => ?_⟩
    · simp only [workReadLine, lineArg_val hi, lineWords, wOption_map, completeOk]; rfl
    · simp only [workReadLine, lineArg_none hn, refuse]
  · rw [exec_running (work := workReadSession p n) rfl hrun]
    refine ⟨fun i x hi hx => ?_, fun i hi hx => ?_, fun hn => ?_⟩
    · simp only [workReadSession, lineArg_val hi, hx, completeOk]
    · simp only [workReadSession, lineArg_val hi, hx, refuse]
    · simp only [workReadSession, lineArg_none hn, refuse]
  · exact exec_running (work := workReadClock p) rfl hrun
  · rw [exec_running (work := workHoldStatus p) rfl hrun, workHoldStatus, holdWords, completeOk,
      List.countP_eq_length_filter, List.countP_eq_length_filter]
    cases s.hold.state <;> simp [w16]
  · rw [exec_running (work := workWatchStatus p) rfl hrun, workWatchStatus, watchWords, completeOk, State.heldCount,
      List.countP_eq_length_filter]
    cases s.watch.down <;> rfl
  · rw [exec_running (work := workPeekBilling p) rfl hrun]
    refine ⟨fun hr => ?_, fun r rest hr => ?_⟩
    · simp only [workPeekBilling, billingCounts, hr]
    · simp only [workPeekBilling, billingCounts, hr, completeOk]

end Sys2Proof.Machine
end

section
/-! PROOFS. Faults (R21 to R23) and the line test (R24, R25). -/

namespace Sys2Proof.Machine

/-! ### One line changed -/

@[simp] theorem takeReport_eq (i : LineId) (f : Reports → Reports) (s : State) :
    takeReport i f s = s.setLine i { s.line i with reports := f (s.line i).reports } := rfl

theorem State.modLine_eq (s : State) (i : LineId) (f : LineRec → LineRec) : s.modLine i f = s.setLine i (f (s.line i)) :=
  rfl

theorem State.sameLinesBut_setLine (s : State) (i : LineId) (l : LineRec) : s.sameLinesBut (s.setLine i l) i :=
  fun _ hj => s.line_setLine_ne l (Ne.symm hj)

theorem restState_eq (eff rdy : Bool) :
    restState eff rdy = if eff = false then .disabled else if rdy then .idle else .busied := by
  cases eff <;> rfl

/-! ### Faults -/

/-- Entry to FAULTED is a change of one line and the LINE_FAULT latch (R22, R23). -/
theorem enterFaulted_eq (i : LineId) (k : FaultKind) {s : State} (h : s.tPort.starting = false) :
    enterFaulted i k s =
      { s.setLine i { s.line i with state := .faulted, fault := k, ringGap := none, ringCount := 0 } with
        tPort := { s.tPort with latches := s.tPort.latches ||| bitWord TCause.lineFault.bit } } := by
  simp only [enterFaulted, latchT, State.modPort, State.setPort, State.modLine_eq, State.port, State.setLine_tPort,
    PortUnit.latch, h, Bool.false_eq_true, if_false]

/-- CLEAR FAULT is a change of one line (R23). -/
theorem clearFaultOn_eq (i : LineId) (s : State) :
    clearFaultOn i s = s.setLine i
      { s.line i with
        fault := .none, carrierRun := 0, activeRun := 0
        reports := { (s.line i).reports with stuckCarrier := false, stuckRing := false }
        state := restState (s.effEnable i) (s.ready i) } :=
  goRest_setLine i s _ (by rfl)

/-- A stuck report acted on: the line is FAULTED with its kind, its ring timing is cleared, and nothing else of the lines
or of the T port changes but the LINE_FAULT latch (R22, R23). -/
theorem enterFaulted_takeReport (i : LineId) (k : FaultKind) (f : Reports → Reports) {s : State}
    (h : s.tPort.starting = false) :
    let t := enterFaulted i k (takeReport i f s)
    (t.line i).state = .faulted ∧ (t.line i).fault = k ∧ (t.line i).ringCount = 0 ∧ (t.line i).ringGap = none ∧
      s.sameLinesBut t i ∧
      t.tPort = { s.tPort with latches := s.tPort.latches ||| bitWord TCause.lineFault.bit } := by
  intro t
  have hline : t.line i =
      { s.line i with
        reports := f (s.line i).reports, state := .faulted, fault := k, ringGap := none, ringCount := 0 } := by
    simp [t, enterFaulted_eq i k (s := takeReport i f s) h, State.line, State.setLine]
  have hothers : s.sameLinesBut t i := by
    simp only [t, enterFaulted_eq i k (s := takeReport i f s) h, takeReport_eq, State.setLine_setLine]
    exact State.sameLinesBut_setLine s i _
  have hport : t.tPort = { s.tPort with latches := s.tPort.latches ||| bitWord TCause.lineFault.bit } := by
    simp only [t, enterFaulted_eq i k (s := takeReport i f s) h]; rfl
  exact ⟨by rw [hline], by rw [hline], by rw [hline], by rw [hline], hothers, hport⟩

theorem LineState.watchesCarrierRun_iff (x : LineState) : x.watchesCarrierRun = true ↔ x = .idle ∨ x = .busied := by
  cases x <;> decide

theorem LineState.watchesRingRun_iff (x : LineState) :
    x.watchesRingRun = true ↔ x = .idle ∨ x = .busied ∨ x = .ringing := by
  cases x <;> decide

theorem stuckCarrierOn_reported {i : LineId} {s : State} (h : (s.line i).reports.stuckCarrier = true)
    (hw : (s.line i).state = .idle ∨ (s.line i).state = .busied) :
    stuckCarrierOn i s = enterFaulted i .stuckCarrier (takeReport i (fun r => { r with stuckCarrier := false }) s) := by
  simp [stuckCarrierOn, h, (LineState.watchesCarrierRun_iff _).mpr hw]

theorem ringStuckOn_reported {i : LineId} {s : State} (h : (s.line i).reports.stuckRing = true)
    (hw : (s.line i).state = .idle ∨ (s.line i).state = .busied ∨ (s.line i).state = .ringing) :
    ringStuckOn i s = enterFaulted i .ringStuck (takeReport i (fun r => { r with stuckRing := false }) s) := by
  simp [ringStuckOn, h, (LineState.watchesRingRun_iff _).mpr hw]

/-- Settles O14: each row is one change of the line, with the LINE_FAULT latch at the entry. -/
theorem faultsAreEnteredAndCleared : Obligations.FaultsAreEnteredAndCleared := by
  refine ⟨fun i s hp hst => ⟨fun hrep hstate => ?_, fun hrep hstate => ?_⟩, fun p n s hrun => ⟨?_, ?_, ?_⟩⟩
  · refine ⟨_, exec_powered (f := stuckCarrierOn i) rfl hp, ?_⟩
    rw [stuckCarrierOn_reported hrep hstate]
    obtain ⟨hs, hk, -, -, hothers, hport⟩ :=
      enterFaulted_takeReport i .stuckCarrier (fun r => { r with stuckCarrier := false }) hst
    exact ⟨hs, hk, hothers, hport⟩
  · refine ⟨_, exec_powered (f := ringStuckOn i) rfl hp, ?_⟩
    rw [ringStuckOn_reported hrep hstate]
    exact enterFaulted_takeReport i .ringStuck (fun r => { r with stuckRing := false }) hst
  · intro i hi hf
    rw [exec_running (work := workClearFault p n) rfl hrun]
    simp only [workClearFault, lineArg_val hi, hf, if_true, clearFaultOn_eq, restState_eq, completeOk]
  · intro i hi hf
    rw [exec_running (work := workClearFault p n) rfl hrun]
    simp only [workClearFault, lineArg_val hi, hf, if_false, refuse]
  · intro hn
    rw [exec_running (work := workClearFault p n) rfl hrun]
    simp only [workClearFault, lineArg_none hn, refuse]

/-! ### The line test -/

theorem State.slotText_val (s : State) (k : Fin 16) : s.slotText k.val = s.slots.get k := by
  simp [State.slotText, Bank.get, List.getD_eq_getElem?_getD, s.slots.size]

@[simp] theorem setJob_line (p : PortId) (k : JobKind) (c : Instr) (s : State) (i : LineId) :
    (setJob p k c s).line i = s.line i := by simp [setJob]

@[simp] theorem setJob_slots (p : PortId) (k : JobKind) (c : Instr) (s : State) :
    (setJob p k c s).slots = s.slots := by simp [setJob]

theorem setJob_ready (p : PortId) (k : JobKind) (c : Instr) (s : State) (i : LineId) :
    (setJob p k c s).ready i = s.ready i := by
  cases p <;> rfl

theorem setJob_effEnable (p : PortId) (k : JobKind) (c : Instr) (s : State) (i : LineId) :
    (setJob p k c s).effEnable i = s.effEnable i := by
  cases p <;> rfl

/-- The test begins: the first character of slot 14 is sent and counted (R24). -/
theorem enterTest_cons (i : LineId) (sp : Fin 8) {s : State} {c : Byte} {rest : List Byte}
    (h : s.slots.get 14 = c :: rest) :
    enterTest i sp s = s.setLine i
      { s.line i with
        state := .test, test := some ⟨(s.line i).state, sp, 1, 0, [c]⟩, txChar := some c
        txItem := some (.slot 14, 1) } := by
  have ht : s.slotText 14 = c :: rest := (s.slotText_val 14).trans h
  have hit : ∀ l, (s.setLine i l).itemChar (.slot 14) 0 = some c := fun l => by
    show (s.slotText 14)[0]? = some c
    rw [ht]; rfl
  simp [enterTest, State.modLine_eq, choose, chooseTest, State.continued, hit, LineRec.sending]

/-- The test begins with an empty slot 14: nothing is sent (R25). -/
theorem enterTest_nil (i : LineId) (sp : Fin 8) {s : State} (h : s.slots.get 14 = []) :
    enterTest i sp s = s.setLine i
      { s.line i with
        state := .test, test := some ⟨(s.line i).state, sp, 0, 0, []⟩, txChar := none
        txItem := some (.slot 14, 0) } := by
  have ht : s.slotText 14 = [] := (s.slotText_val 14).trans h
  have hit : ∀ l, (s.setLine i l).itemChar (.slot 14) 0 = none := fun l => by
    show (s.slotText 14)[0]? = none
    rw [ht]; rfl
  simp [enterTest, State.modLine_eq, choose, chooseTest, State.continued, hit]

/-- Where a line goes when it leaves TEST (R25). -/
def TestPart.leaves (t : TestPart) (abandoned eff rdy : Bool) : LineState :=
  if t.earlier = .faulted ∧ (abandoned = true ∨ t.sent = 0 ∨ t.mismatches ≠ 0) then .faulted else restState eff rdy

/-- Leaving TEST is a change of one line (R25). -/
theorem leaveTest_eq (i : LineId) (abandoned : Bool) (s : State) :
    leaveTest i abandoned s = s.setLine i ((leaveTest i abandoned s).line i) := by
  unfold leaveTest
  split
  · simp [State.setLine, State.line]
  · split
    · split <;> simp [clearFaultOn_eq, State.modLine_eq]
    · simp [goRest_eq, State.modLine_eq]

/-- What a line that leaves TEST stands in (R25). -/
theorem leaveTest_line {i : LineId} {abandoned : Bool} {s : State} {t : TestPart} (h : (s.line i).test = some t) :
    ((leaveTest i abandoned s).line i).test = none ∧
      ((leaveTest i abandoned s).line i).state = t.leaves abandoned (s.effEnable i) (s.ready i) := by
  have he : ∀ l, l.enable = (s.line i).enable → (s.setLine i l).effEnable i = s.effEnable i :=
    fun l => s.setLine_effEnable_same i i l
  have hr : ∀ l, l.enable = (s.line i).enable → (s.setLine i l).ready i = s.ready i :=
    fun l => s.setLine_ready_same i i l
  simp only [leaveTest, h, State.modLine_eq, TestPart.leaves]
  by_cases hf : t.earlier = .faulted
  · by_cases hc : abandoned = true ∨ t.sent = 0 ∨ t.mismatches ≠ 0
    · have : (!abandoned && decide (0 < t.sent) && t.mismatches == 0) = false := by
        cases abandoned <;> simp_all
        omega
      simp [hf, hc, this]
    · have : (!abandoned && decide (0 < t.sent) && t.mismatches == 0) = true := by
        cases abandoned <;> simp_all
        omega
      simp [hf, hc, this, clearFaultOn_eq, he, hr]
  · simp [hf, goRest_eq, he, hr]

/-- The test ends: the counts are answered at the T port, and the line has left TEST (R25). -/
theorem endTest_spec {i : LineId} {s : State} {t : TestPart} (h : (s.line i).test = some t)
    (hst : s.tPort.starting = false) :
    (endTest i s).tPort.answered .t .ok false [w16 t.sent, w16 t.mismatches] ∧ ((endTest i s).line i).test = none ∧
      s.sameLinesBut (endTest i s) i ∧
      ((endTest i s).line i).state = t.leaves false (s.effEnable i) (s.ready i) := by
  have heq : endTest i s = completeOk .t [w16 t.sent, w16 t.mismatches] (leaveTest i false s) := by
    simp only [endTest, h]
  obtain ⟨htest, hstate⟩ := leaveTest_line (abandoned := false) h
  refine ⟨?_, ?_, fun j hj => ?_, ?_⟩
  · have hport : (endTest i s).port .t = ((leaveTest i false s).port .t).completed .t .ok false
        [w16 t.sent, w16 t.mismatches] := by
      rw [heq]; exact complete_port .t .ok false _ _
    show ((endTest i s).port .t).answered _ _ _ _
    rw [hport, leaveTest_eq]
    exact PortUnit.completed_answered _ _ _ _ _ hst
  · rw [heq, completeOk, complete_line, htest]
  · rw [heq, completeOk, complete_line, leaveTest_eq]
    exact State.sameLinesBut_setLine s i _ j hj
  · rw [heq, completeOk, complete_line, hstate]

theorem testOver_iff {i : LineId} {s : State} {t : TestPart} (hs : (s.line i).state = .test)
    (h : (s.line i).test = some t) :
    s.testOver i = true ↔ t.awaiting = [] ∧ s.continued (s.line i) = none := by
  simp [State.testOver, hs, h]

theorem workLineTest_starts {p : PortId} {n sp : Word} {i : LineId} {k : Fin 8} {s : State} (hi : i.val = n.toNat)
    (hk : speedArg sp = some k) (ha : (s.line i).state.acceptsTest = true) :
    workLineTest p n sp s =
      let u := enterTest i k (setJob p .testing (.lineTest p n sp) s)
      if u.testOver i then endTest i u else u := by
  simp only [workLineTest, lineArg_val hi, hk, ha, if_true]

theorem speedArg_val {w : Word} {k : Fin 8} (h : k.val = w.toNat) : speedArg w = some k := by
  have hk : w.toNat < 8 := by have := k.isLt; omega
  simp only [speedArg, hk, dif_pos]
  exact congrArg some (Fin.ext h.symm)

theorem speedArg_none {w : Word} (h : 8 ≤ w.toNat) : speedArg w = none := by
  simp [speedArg, Nat.not_lt.mpr h]

/-- With slot 14 empty the test is over at its beginning (R25). -/
theorem enterTest_nil_over (i : LineId) (sp : Fin 8) {s : State} (h : s.slots.get 14 = []) :
    (enterTest i sp s).testOver i = true := by
  have ht : s.slotText 14 = [] := (s.slotText_val 14).trans h
  rw [enterTest_nil i sp h]
  refine (testOver_iff (by rw [State.line_setLine]) (by rw [State.line_setLine])).mpr ⟨rfl, ?_⟩
  rw [State.line_setLine]
  show ((s.slotText 14)[0]?).map _ = none
  rw [ht]; rfl

/-- Settles O15: the first choice of the transmitter, and the two ends of the test. -/
theorem lineTestRunsSlotFourteen : Obligations.LineTestRunsSlotFourteen := by
  refine ⟨fun n sp i k s hi hk hrun => ?_, fun i q s hp hst hs hq hw hc => ?_, fun n sp s hrun hbad => ?_⟩
  · have harg := speedArg_val hk
    let u := setJob .t .testing (.lineTest .t n sp) s
    have hslots : u.slots.get 14 = s.slots.get 14 := by rw [setJob_slots]
    rw [exec_running (work := workLineTest .t n sp) rfl hrun]
    refine ⟨fun c rest hslot ha => ⟨_, rfl, ?_⟩, fun hslot ha => ⟨_, rfl, ?_⟩, fun ha => ?_⟩
    · have hentered := enterTest_cons i k (hslots.trans hslot)
      have hon : (enterTest i k u).testOver i = false := by simp [State.testOver, hentered]
      rw [workLineTest_starts hi harg ha]
      simp only [u, hon, Bool.false_eq_true, if_false]
      rw [hentered]
      refine ⟨by simp, by simp [u], by simp, rfl, rfl, fun j hj => ?_⟩
      rw [State.line_setLine_ne _ _ (Ne.symm hj), setJob_line]
    · have hentered := enterTest_nil i k (hslots.trans hslot)
      have hover := enterTest_nil_over i k (hslots.trans hslot)
      rw [workLineTest_starts hi harg ha]
      simp only [u, hover, if_true]
      obtain ⟨hanswer, htest, hothers, hstate⟩ := endTest_spec (i := i) (s := enterTest i k u)
        (by rw [hentered, State.line_setLine]) (by rw [hentered]; exact hrun.1.2)
      refine ⟨hanswer, htest, fun j hj => ?_, ?_⟩
      · rw [hothers j hj, hentered, State.line_setLine_ne _ _ (Ne.symm hj), setJob_line]
      · rw [hstate, hentered, State.setLine_effEnable_same _ _ _ _ (by simp),
          State.setLine_ready_same _ _ _ _ (by simp), setJob_ready, setJob_effEnable]
        simp [u, TestPart.leaves]
    · simp only [workLineTest, lineArg_val hi, harg, ha, refuse, Bool.false_eq_true, if_false]
  · rw [exec_powered (f := lineTestEnded i) rfl hp]
    refine ⟨_, rfl, ?_⟩
    rw [lineTestEnded, if_pos ((testOver_iff hs hq).mpr ⟨hw, hc⟩)]
    obtain ⟨hanswer, htest, hothers, hstate⟩ := endTest_spec hq hst
    exact ⟨hanswer, htest, hothers, by rw [hstate]; simp [TestPart.leaves]⟩
  · rw [exec_running (work := workLineTest .t n sp) rfl hrun]
    rcases hbad with hn | hk
    · simp only [workLineTest, lineArg_none hn, refuse]
    · cases h : lineArg n <;> simp only [workLineTest, h, speedArg_none hk, refuse]

end Sys2Proof.Machine
end

section
/-! PROOFS. Calls: answering (R10 to R12), HANGUP (R20), and speed detection (R15 to R17). -/

namespace Sys2Proof.Machine

/-! ### Re-judging a line -/

/-- The states in which a line acts on its readiness alone (R7). -/
def LineState.resting : LineState → Bool
  | .disabled | .idle | .busied => true
  | .ringing | .answering | .speed | .signOn | .session | .closing | .hangup | .test | .faulted => false

/-- A line in a call, in HANGUP, in TEST or in FAULTED does not act on its readiness (R6). -/
theorem LineRec.rejudge_stands {l : LineRec} (e r : Bool) (h : l.state.resting = false) (hr : l.state ≠ .ringing) :
    l.rejudge e r = l := by
  unfold LineRec.rejudge
  split <;> simp_all [LineState.resting]

theorem rejudge_line_stands {s : State} {i : LineId} (h : (s.line i).state.resting = false)
    (hr : (s.line i).state ≠ .ringing) : (rejudge s).line i = s.line i := by
  rw [rejudge_line, LineRec.rejudge_stands _ _ h hr]

/-- A line that has not changed, after a re-judging: it stands by the enable and the readiness that the lines then have. -/
theorem rejudge_line_same {s u : State} {j : LineId} (h : u.line j = s.line j) :
    (rejudge u).line j = (s.line j).rejudge ((rejudge u).effEnable j) ((rejudge u).ready j) := by
  rw [rejudge_line, rejudge_effEnable, rejudge_ready, h]

/-! ### Answering (R10 to R12) -/

theorem qualifiedRingOn_reported {i : LineId} {s : State} (h : (s.line i).reports.ring = true)
    (hs : (s.line i).state = .idle ∨ (s.line i).state = .ringing) :
    qualifiedRingOn i s = ringOn i (takeReport i (fun r => { r with ring := false }) s) := by
  rcases hs with hs | hs <;> simp [qualifiedRingOn, h, hs]

/-- A qualified ring elsewhere than in IDLE and RINGING is ignored (R9). -/
theorem qualifiedRingOn_ignored {i : LineId} {s : State} (h : (s.line i).reports.ring = true)
    (hi : (s.line i).state ≠ .idle) (hr : (s.line i).state ≠ .ringing) :
    qualifiedRingOn i s = takeReport i (fun r => { r with ring := false }) s := by
  simp only [qualifiedRingOn, h, if_true, takeReport_eq, State.line_setLine]

/-- A qualified ring is counted: the line rings, and answers at the ring count of its group (R10, R11). -/
theorem ringOn_eq (i : LineId) (s : State) :
    ringOn i s =
      let count := if (s.line i).state = .ringing then (s.line i).ringCount + 1 else 1
      let t := s.setLine i { s.line i with state := .ringing, ringCount := count, ringGap := some 80 }
      if (s.lineGroup i).ringCount ≤ count then answer i t else t := by
  cases h : (s.line i).state <;> simp [ringOn, h, State.modLine_eq, Timer.seconds]

/-- A reservation granted (R12, R169): the line is in ANSWERING, and the other lines re-judge their readiness. -/
theorem answer_granted (i : LineId) {s : State} (h : s.billing.records.length + s.billing.reservations < 96) :
    let t := answer i s
    t.line i = { s.line i with
      state := .answering, reserved := true, ringCount := 0, ringGap := none, lossCounter := 0
      speedAttempts := 0, phaseTimer := some ((s.lineGroup i).carrierWait * 10) } ∧
    t.billing = { s.billing with reservations := s.billing.reservations + 1 } ∧
    (∀ j : LineId, j ≠ i → t.line j = (s.line j).rejudge (t.effEnable j) (t.ready j)) ∧
    t = { s with lines := t.lines, billing := t.billing } := by
  have hfree : s.placeFree = true := decide_eq_true h
  rw [answer, if_pos hfree]
  refine ⟨?_, rfl, fun j hj => rejudge_line_same (s.line_setLine_ne _ (Ne.symm hj)), rfl⟩
  rw [rejudge_line_stands] <;> simp [State.line, State.modLine, State.setLine, LineState.resting, Timer.seconds]

/-- A reservation refused (R12, R169). -/
theorem answer_refused (i : LineId) {s : State} (h : 96 ≤ s.billing.records.length + s.billing.reservations) :
    answer i s = s.setLine i { s.line i with state := .busied, ringCount := 0, ringGap := none } := by
  have hfull : s.placeFree = false := decide_eq_false (Nat.not_lt.mpr h)
  simp [answer, hfull, State.modLine_eq]

/-- Settles O16: the count, the grant, the refusal and the ring gap. -/
theorem ringsCountAndAnswer : Obligations.RingsCountAndAnswer := by
  intro i s hp count quiet
  rw [exec_powered (f := qualifiedRingOn i) rfl hp, exec_powered (f := ringGapOver i) rfl hp]
  refine ⟨fun hrep hstate => ?_, fun hrep hidle hring => ?_, fun hstate hgap => ?_⟩
  · have hcount : (if (s.line i).state = .ringing then (s.line i).ringCount + 1 else 1) = count := rfl
    rw [qualifiedRingOn_reported hrep hstate, ringOn_eq]
    simp only [takeReport_eq, State.line_setLine, State.setLine_setLine, State.setLine_lineGroup, hcount]
    refine ⟨fun hlt => ?_, fun hle hfree => ?_, fun hle hfull => ?_⟩
    · rw [if_neg (Nat.not_le.mpr hlt)]
    · rw [if_pos hle]
      refine ⟨_, rfl, ?_⟩
      obtain ⟨hline, hbill, hothers, hframe⟩ := answer_granted i
        (s := s.setLine i { quiet with state := .ringing, ringCount := count, ringGap := some 80 }) hfree
      refine ⟨by simpa using hline, hbill, fun j hj => ?_, hframe⟩
      rw [← State.line_setLine_ne s _ (Ne.symm hj)]
      exact hothers j hj
    · rw [if_pos hle]
      refine congrArg Host.Outcome.next ((answer_refused i (s := s.setLine i _) hfull).trans ?_)
      rw [State.line_setLine, State.setLine_setLine]
  · rw [qualifiedRingOn_ignored hrep hidle hring]; rfl
  · simp [ringGapOver, hstate, hgap, Timer.expired, State.modLine_eq]

/-! ### HANGUP (R20) -/

/-- Entry to HANGUP of a line, seen whole (R20, R170): its record, its reservation, its place in the check request queue,
and the re-judging of the other lines. -/
theorem hangup_spec (i : LineId) (s : State) :
    let t := hangup i s
    t.line i = { (s.line i).hungUp with reserved := false } ∧
    t.billing = { s.billing with
      reservations := if (s.line i).reserved then s.billing.reservations - 1 else s.billing.reservations } ∧
    t.checkQueue = s.checkQueue.filter (fun e => e.line != i) ∧
    (∀ j : LineId, j ≠ i → t.line j = (s.line j).rejudge (t.effEnable j) (t.ready j)) ∧
    t.arbiter = { s.arbiter with
      checkerAsked := s.arbiter.checkerAsked || (s.checkQueue.any (fun e => e.line == i) && s.checkerAsks) } ∧
    t = { s with lines := t.lines, billing := t.billing, checkQueue := t.checkQueue, arbiter := t.arbiter } := by
  have hline : (enterHangup i s).line i = { (s.line i).hungUp with reserved := false } := by
    rw [enterHangup_eq]; exact State.line_setLine s i _
  have hothers : ∀ j, j ≠ i → (enterHangup i s).line j = s.line j := fun j hj => by
    rw [enterHangup_eq]; exact s.line_setLine_ne _ (Ne.symm hj)
  refine ⟨?_, ?_, ?_, fun j hj => rejudge_line_same (hothers j hj), ?_, ?_⟩
  · rw [hangup, rejudge_line_stands, hline] <;> rw [hline] <;> simp [LineRec.hungUp, LineState.resting]
  · rw [hangup, rejudge_eq, enterHangup_eq]
  · rw [hangup, rejudge_eq, enterHangup_eq]
  · rw [hangup, rejudge_eq, enterHangup_eq]
  · rw [hangup, rejudge_eq, enterHangup_eq]; rfl

theorem LineRec.hungUp_eq {l : LineRec} (h : l.state ≠ .session) :
    l.hungUp = { l with
      state := .hangup, ringGap := none, ringCount := 0, signOn := none, speed := none, phaseTimer := some 20
      session := none, markWait := false, buffer := [], notice := false, messages := [], txChar := none
      txItem := none, closingSlot := none } := by
  simp [LineRec.hungUp, h, Timer.seconds]

/-- Settles O18: each expiry is the entry to HANGUP, and the guard's a going to rest. -/
theorem expiriesEndCalls : Obligations.ExpiriesEndCalls := by
  refine ⟨fun i c s hp hc => ?_, fun i s hp hstate htimer => ?_⟩
  · have hexec : exec c s = .next (hangup i s) ∧ (s.line i).state ≠ .session := by
      rcases hc with ⟨rfl, hs, ht⟩ | ⟨rfl, hs, ht⟩ | ⟨rfl, hs, ht⟩
      · rw [exec_powered (f := phaseOver .answering i) rfl hp]
        simp [phaseOver, hs, ht, Timer.expired]
      · rw [exec_powered (f := phaseOver .speed i) rfl hp]
        simp [phaseOver, hs, ht, Timer.expired]
      · rw [exec_powered (f := signOnOver i) rfl hp]
        simp [signOnOver, hs, ht]
    obtain ⟨hexec, hstate⟩ := hexec
    obtain ⟨hline, hrest⟩ := hangup_spec i s
    exact ⟨hangup i s, hexec, by rw [hline, LineRec.hungUp_eq hstate], hrest⟩
  · rw [exec_powered (f := guardOver i) rfl hp]
    have hover : guardOver i s = goRest i (s.modLine i fun l => { l with phaseTimer := none }) := by
      simp [guardOver, hstate, htimer, Timer.expired]
    rw [hover, State.modLine_eq, goRest_setLine i s _ (by rfl), restState_eq]

/-! ### Speed (R15 to R17) -/

/-- The bands of Table 1-4, by speed code: the least and the greatest measurement. -/
def speedBands : List (Nat × Nat) :=
  [(2444, 3142), (1792, 2304), (896, 1152), (448, 576), (224, 288), (112, 144), (56, 72), (28, 36)]

/-- A measurement lies in the band of a speed. -/
def inBand (m : Nat) (k : Fin 8) : Bool := speedBands[k.val]?.any fun b => decide (b.1 ≤ m) && decide (m ≤ b.2)

/-- The rule of R16 gives the bands of Table 1-4. -/
theorem matchesDivisor_eq_inBand (m : Nat) (k : Fin 8) : matchesDivisor m (divisors.getD k.val 0) = inBand m k := by
  rw [Bool.eq_iff_iff]
  fin_cases k <;> simp [matchesDivisor, divisors, inBand, speedBands] <;> omega

/-- The bands of Table 1-4 are disjoint. -/
theorem speedBands_disjoint : ∀ j k : Fin 8, j ≠ k → ∀ b ∈ speedBands[j.val]?, ∀ c ∈ speedBands[k.val]?,
    b.2 < c.1 ∨ c.2 < b.1 := by decide

theorem inBand_iff (m : Nat) (k : Fin 8) : inBand m k = true ↔ ∃ b ∈ speedBands[k.val]?, b.1 ≤ m ∧ m ≤ b.2 := by
  simp [inBand, Option.any_eq_true]

theorem inBand_unique {m : Nat} {j k : Fin 8} (hj : inBand m j = true) (hk : inBand m k = true) : j = k := by
  by_contra hne
  obtain ⟨b, hb, hb1, hb2⟩ := (inBand_iff m j).mp hj
  obtain ⟨c, hc, hc1, hc2⟩ := (inBand_iff m k).mp hk
  have := speedBands_disjoint j k hne b hb c hc
  omega

/-- An element found is the one that satisfies the test, where at most one does. -/
theorem find?_eq_some_of_unique {α : Type} {p : α → Bool} {l : List α} {a : α} (ha : a ∈ l)
    (hu : ∀ b ∈ l, p b = true → p a = true → b = a) : l.find? p = some a ↔ p a = true := by
  refine ⟨List.find?_some, fun h => ?_⟩
  cases hf : l.find? p with
  | none => exact absurd h (List.find?_eq_none.mp hf a ha)
  | some b => rw [hu b (List.mem_of_find?_eq_some hf) (List.find?_some hf) h]

theorem matchSpeed_iff (set : BitVec 8) (m : Nat) (k : Fin 8) :
    matchSpeed set m = some k ↔ set.getLsbD k.val = true ∧ inBand m k = true := by
  have hmem : k ∈ ([0, 1, 2, 3, 4, 5, 6, 7] : List (Fin 8)) := by revert k; decide
  simp only [matchSpeed, matchesDivisor_eq_inBand]
  rw [find?_eq_some_of_unique hmem, Bool.and_eq_true]
  intro b _ hb hk
  simp only [Bool.and_eq_true] at hb hk
  exact inBand_unique hb.2 hk.2

/-- The dialog opens with GREETING and ID_PROMPT: what the transmitter begins (R48, R50). -/
theorem nextOutput_greeting (s : State) :
    let sent := ([0, 1] : List (Fin 16)).dropWhile fun j => (s.slots.get j).isEmpty
    s.nextOutput [.slot 0, .slot 1] 0 =
      (sent.map fun j => .slot j.val, if sent = [] then 0 else 1, sent.head?.bind fun j => (s.slots.get j).head?) := by
  have h0 : s.slotText 0 = s.slots.get 0 := s.slotText_val 0
  have h1 : s.slotText 1 = s.slots.get 1 := s.slotText_val 1
  cases e0 : s.slots.get 0 <;> cases e1 : s.slots.get 1 <;>
    simp [State.nextOutput, State.itemChar, h0, h1, e0, e1]

/-- A line enters SIGNON (R17, R48). -/
theorem enterSignOn_eq (i : LineId) (k : Fin 8) (s : State) :
    let sent := ([0, 1] : List (Fin 16)).dropWhile fun j => (s.slots.get j).isEmpty
    enterSignOn i k s = s.setLine i
      { s.line i with
        state := .signOn, speed := some k, phaseTimer := none
        txChar := sent.head?.bind fun j => (s.slots.get j).head?
        txItem := none
        signOn := some
          { phase := .idEntry, entry := [], user := none, check := none, attempts := 0
            timer := (s.lineGroup i).signOnLimit * 10, output := sent.map fun j => .slot j.val
            outPos := if sent = [] then 0 else 1 } } := by
  simp only [enterSignOn, State.modLine_eq, kick, choose, chooseSignOn, State.line_setLine, nextOutput_greeting,
    State.setLine_setLine, LineRec.sending]
  simp

/-- Settles O17: the speed wait, the failures, the dialog, and the bands of Table 1-4. -/
theorem speedIsMeasured : Obligations.SpeedIsMeasured := by
  refine ⟨fun i s hp => ⟨fun hstate hrep => ?_, ?_, fun hstate hwait m => ?_⟩, matchSpeed_iff⟩
  · rw [exec_powered (f := carrierPresentOn i) rfl hp]
    simp [carrierPresentOn, hrep, hstate, State.modLine_eq, LineRec.toSpeed, Timer.seconds]
  · rw [exec_powered (f := markSeen i) rfl hp]; rfl
  · have hmeasured : speedMeasuredOn i m s = measured i m s := by simp [speedMeasuredOn, hstate, hwait]
    rw [exec_powered (f := speedMeasuredOn i m) rfl hp, hmeasured]
    refine ⟨fun hnone hlt => ?_, fun hnone hle => ⟨_, rfl, ?_⟩, fun k hk => ?_⟩
    · simp [measured, hnone, Nat.not_le.mpr hlt, State.modLine_eq]
    · obtain ⟨hline, -⟩ := hangup_spec i s
      simp [measured, hnone, hle, hline, LineRec.hungUp]
    · simp [measured, hk, State.modLine_eq, enterSignOn_eq]

end Sys2Proof.Machine
end

section
/-! PROOFS. The scan and the samplers of a line (R9, R14, R21, R22). -/

namespace Sys2Proof.Machine

/-! ### The samplers of one line -/

/-- What one scan leaves in the ring sampler, and its report (R9). -/
theorem sampleRing_spec (l : LineRec) (ring : Bool) :
    let r := l.sampleRing ring
    r.1 = { l with activeRun := r.1.activeRun, inactiveRun := r.1.inactiveRun, armed := r.1.armed } ∧
      r.1.activeRun = (if ring then min (l.activeRun + 1) 80 else 0) ∧
      r.1.inactiveRun = (if ring then 0 else min (l.inactiveRun + 1) 5) ∧
      (r.2 = true ↔ ring = true ∧ l.armed = true ∧ l.activeRun = 1) ∧
      r.1.armed = (if ring then l.armed && !r.2 else l.armed || decide (4 ≤ l.inactiveRun)) := by
  cases ring
  · have : (min (l.inactiveRun + 1) 5 == 5) = decide (4 ≤ l.inactiveRun) := by
      rw [Bool.eq_iff_iff, beq_iff_eq, decide_eq_true_iff]; omega
    simp [LineRec.sampleRing, this]
  · have : min (l.activeRun + 1) 80 = 2 ↔ l.activeRun = 1 := by omega
    simp [LineRec.sampleRing, this]

/-- The carrier-present run (R21). -/
theorem sampleRun_eq (l : LineRec) (carrier : Bool) :
    l.sampleRun carrier =
      if carrier = true ∧ (l.state = .idle ∨ l.state = .busied) then min (l.carrierRun + 1) 100 else 0 := by
  simp [LineRec.sampleRun, LineState.watchesCarrierRun_iff]

theorem LineState.qualifiesLoss_iff (x : LineState) :
    x.qualifiesLoss = true ↔ x = .speed ∨ x = .signOn ∨ x = .session ∨ x = .closing := by
  cases x <;> decide

/-- The carrier-loss counter and its report (R14). -/
theorem sampleLoss_spec (l : LineRec) (carrier : Bool) (limit : Nat) :
    let r := l.sampleLoss carrier limit
    if l.state = .speed ∨ l.state = .signOn ∨ l.state = .session ∨ l.state = .closing then
      (carrier = true → r.1 = 0 ∧ r.2 = false) ∧
      (carrier = false →
        (limit ≤ l.lossCounter + 1 → r.1 = 0 ∧ r.2 = true) ∧
        (l.lossCounter + 1 < limit → r.1 = l.lossCounter + 1 ∧ r.2 = false))
    else r.1 = l.lossCounter ∧ r.2 = false := by
  intro r
  split
  · next hs =>
    have hq := (LineState.qualifiesLoss_iff _).mpr hs
    refine ⟨fun hc => ?_, fun hc => ⟨fun hl => ?_, fun hl => ?_⟩⟩
    · simp [r, LineRec.sampleLoss, hq, hc]
    · simp [r, LineRec.sampleLoss, hq, hc, hl]
    · simp [r, LineRec.sampleLoss, hq, hc, Nat.not_le.mpr hl]
  · next hs =>
    have hq : l.state.qualifiesLoss = false := by
      rw [← Bool.not_eq_true, LineState.qualifiesLoss_iff]; exact hs
    simp [r, LineRec.sampleLoss, hq]

/-- Settles O19: line by line from the samplers, and the timers of the operating plane. -/
theorem scanFeedsTheSamplers : Obligations.ScanFeedsTheSamplers := by
  intro ring carrier s hp tenth
  refine ⟨_, exec_powered (f := scanAll ring carrier) rfl hp, fun i => ?_, rfl⟩
  intro l u
  obtain ⟨hframe, hactive, hinactive, hring, harmed⟩ := sampleRing_spec l (ring.getLsbD i.val)
  have hu : u = l.scan (ring.getLsbD i.val) (carrier.getLsbD i.val) (s.lineGroup i).lossCount :=
    s.line_mapLines (fun i l => l.scan (ring.getLsbD i.val) (carrier.getLsbD i.val) (s.lineGroup i).lossCount) i
  refine ⟨?_, ?_, ?_, ?_, ?_, ?_, ?_, ?_, ?_, ?_⟩
  · rw [hu]; exact hactive
  · rw [hu]; exact hinactive
  · rw [hu]; exact hring
  · rw [hu]; exact harmed
  · rw [hu]; exact sampleRun_eq l _
  · rw [hu]; simp [LineRec.scan]
  · rw [hu]; simp [LineRec.scan, LineState.watchesRingRun_iff]
  · rw [hu]; simp [LineRec.scan]
  · rw [hu]; exact sampleLoss_spec l _ _
  · rw [hu, LineRec.scan, hframe]; rfl

end Sys2Proof.Machine
end

section
/-! PROOFS. Readiness and what it is judged by (R6, R7, R116, R161, R177). -/

namespace Sys2Proof.Machine

/-! ### What a re-judging leaves -/

/-- Where a line stands after it has re-judged its readiness (R6, R7, R11). -/
theorem LineRec.rejudge_state (l : LineRec) (e r : Bool) :
    (l.rejudge e r).state =
      if l.state = .disabled ∨ l.state = .idle ∨ l.state = .busied then
        (if e = false then .disabled else if r then .idle else .busied)
      else if l.state = .ringing ∧ e = true ∧ r = false then .busied
      else l.state := by
  unfold LineRec.rejudge
  rw [restState_eq]
  split <;> simp_all
  split <;> simp_all

@[simp] theorem LineRec.rejudge_session (l : LineRec) (e r : Bool) : (l.rejudge e r).session = l.session := by
  unfold LineRec.rejudge; repeat' split
  all_goals rfl

/-- The lines after a change of what readiness is judged by: each stands by its enable and the readiness that results. -/
theorem rejudge_follows {s u : State} (hstate : ∀ i, (u.line i).state = (s.line i).state)
    (heff : ∀ i, u.effEnable i = s.effEnable i) (i : LineId) :
    ((rejudge u).line i).state =
      if (s.line i).state = .disabled ∨ (s.line i).state = .idle ∨ (s.line i).state = .busied then
        (if s.effEnable i = false then .disabled else if (rejudge u).ready i then .idle else .busied)
      else if (s.line i).state = .ringing ∧ s.effEnable i = true ∧ (rejudge u).ready i = false then .busied
      else (s.line i).state := by
  rw [rejudge_line, LineRec.rejudge_state, hstate, heff, rejudge_ready]

theorem State.mapLines_effEnable (s : State) {f : LineId → LineRec → LineRec} (h : ∀ i l, (f i l).enable = l.enable)
    (i : LineId) : (s.mapLines f).effEnable i = s.effEnable i := by
  simp [State.effEnable, h, State.lineGroup, State.group]

theorem State.setPort_effEnable (s : State) (p : PortId) (u : PortUnit) (i : LineId) :
    (s.setPort p u).effEnable i = s.effEnable i := by
  cases p <;> rfl

/-! ### Arguments -/

theorem voteArg_none {w : Word} (h : 1 < w.toNat) : voteArg w = none := by
  have h0 : w ≠ 0 := by rintro rfl; simp at h
  have h1 : w ≠ 1 := by rintro rfl; simp at h
  rw [voteArg, if_neg h0, if_neg h1]

theorem sequenceArg_iff (n : Word) : inRange n.toNat 1 65535 = true ↔ n ≠ 0 := by
  have hlt := n.isLt
  have h0 : n = 0 ↔ n.toNat = 0 := ⟨fun h => by rw [h]; rfl, fun h => BitVec.eq_of_toNat_eq (by simpa using h)⟩
  rw [inRange_iff, ne_eq, h0]
  omega

/-- Settles O43: each of the three is one change of what readiness is judged by, and a re-judging. -/
theorem readinessInputsAreActedOn : Obligations.ReadinessInputsAreActedOn := by
  unfold Obligations.ReadinessInputsAreActedOn
  intro follows
  refine ⟨fun p y m d h mi se w s hrun => ?_, fun p w s hrun => ?_, fun p n s hrun => ?_⟩
  · intro v
    rw [exec_running (work := workSetClock p v) rfl hrun]
    refine ⟨fun hv => ⟨loadClock v s, ?_, rfl, rfl, ?_, fun i => ?_, rfl⟩, fun hv => ?_⟩
    · simp only [workSetClock, hv, if_true, completeOk]
    · exact rejudge_follows (fun i => by simp [State.mapSessions]; rfl)
        (State.mapLines_effEnable _ fun _ _ => rfl)
    · show ((loadClock v s).line i).session = _
      rw [loadClock, rejudge_line, LineRec.rejudge_session, State.mapSessions, State.line_mapLines]
      rfl
    · simp only [workSetClock, hv, Bool.false_eq_true, if_false, refuse]
  · rw [exec_running (work := workAdmission p w) rfl hrun]
    refine ⟨fun v hv => ?_, fun hw => ?_⟩
    · have harg : voteArg w = some v := by rcases hv with ⟨rfl, rfl⟩ | ⟨rfl, rfl⟩ <;> rfl
      refine ⟨rejudge (s.modPort p fun u => { u with vote := v }), ?_, ?_, rfl⟩
      · simp only [workAdmission, harg, completeOk]
      · exact rejudge_follows (fun i => by rw [State.modPort_line]) (State.setPort_effEnable s p _)
    · simp only [workAdmission, voteArg_none hw, refuse]
  · rw [exec_running (work := workReleaseBilling p n) rfl hrun]
    refine ⟨fun hn => ?_, fun hn hr => ?_, fun r rest hn hr => ⟨fun hne => ?_, fun heq => ?_⟩⟩
    · have harg : ¬ inRange n.toNat 1 65535 = true := fun h => (sequenceArg_iff n).mp h hn
      simp only [workReleaseBilling, if_neg harg, refuse]
    · simp only [workReleaseBilling, if_pos ((sequenceArg_iff n).mpr hn), hr, refuse]
    · simp only [workReleaseBilling, if_pos ((sequenceArg_iff n).mpr hn), hr, if_neg hne]
    · refine ⟨rejudge { s with billing := { s.billing with records := rest } }, ?_, ?_, rfl⟩
      · simp only [workReleaseBilling, if_pos ((sequenceArg_iff n).mpr hn), hr, if_pos heq, completeOk]
      · exact rejudge_follows (fun _ => rfl) fun _ => rfl

end Sys2Proof.Machine
end

section
/-! PROOFS. Close decisions outside an access (R146), and carrier loss (R14). -/

namespace Sys2Proof.Machine

/-! ### Close decisions outside an access (R146) -/

theorem State.openSession_iff (s : State) (i : LineId) (x : Session) :
    s.openSession i = some x ↔ (s.line i).session = some x ∧ x.state.isOpen = true := by
  simp [State.openSession, State.session, Option.filter_eq_some_iff]

/-- A session after a close decision outside an access (R145, R146). -/
def Session.decided (r : CloseReason) (stamp : Stamp) (x : Session) : Session :=
  { x with
    state := .closing, heldFrom := none, grace := none, closeReason := some r, closeStamp := some stamp
    work := some .pending }

/-- The state after a close decision outside an access, but for what line i's record `l` has become: the CLOSE mark with
the INPUT latch, and the account work asked for (R145, R146). -/
def State.closedOut (s : State) (i : LineId) (x : Session) (r : CloseReason) (l : LineRec) : State :=
  { s.setLine i l with
    input := s.input ++ [.closeMark i x.serial r], tPort := s.tPort.latch TCause.input.bit
    engine := { s.engine with closeWork := s.engine.closeWork ++ [i] } }

/-- The line record after a close decision outside an access, before the line goes to CLOSING (R45, R145). -/
def LineRec.decided (l : LineRec) (r : CloseReason) (stamp : Stamp) (x : Session) : LineRec :=
  LineRec.settleOutput r { l with session := some (x.decided r stamp) }

theorem closeOutside_none {r : CloseReason} {i : LineId} {s : State} (h : s.openSession i = none) :
    closeOutside r i s = s := by
  simp [closeOutside, h]

theorem Bank.set_set {α : Type} {n : Nat} (b : Bank α n) (i : Fin n) (x y : α) : (b.set i x).set i y = b.set i y := by
  simp [Bank.set]

/-- A close decision outside an access on an open session, for a reason that places a CLOSE mark (R146). -/
theorem closeOutside_open {r : CloseReason} {i : LineId} {s : State} {x : Session} (h : s.openSession i = some x)
    (hm : r.marks = true) :
    closeOutside r i s =
      let u := s.closedOut i x r ((s.line i).decided r s.clock.stamp x)
      if r.message.isSome then enterClosing i u else u := by
  have hx : (s.lines.get i).session = some x := ((s.openSession_iff i x).mp h).1
  have hset : closeDecision r s.clock.stamp i s =
      { s.setLine i (LineRec.settleOutput r { s.line i with session := some (x.closed r s.clock.stamp) }) with
        input := s.input ++ [.closeMark i x.serial r], tPort := s.tPort.latch TCause.input.bit } := by
    simp [closeDecision, h, hm, State.modSession, State.modLine_eq, hx, placeInput, latchT, State.modPort, State.setPort,
      State.port, State.setLine, State.line, Bank.set_set]
  have hmod : (closeDecision r s.clock.stamp i s).modSession i (fun x => { x with work := some .pending }) =
      { s.setLine i ((s.line i).decided r s.clock.stamp x) with
        input := s.input ++ [.closeMark i x.serial r], tPort := s.tPort.latch TCause.input.bit } := by
    rw [hset]
    simp [State.modSession, State.modLine_eq, State.setLine, State.line, Bank.set_set, LineRec.decided,
      LineRec.settleOutput]
    split <;> simp [Session.decided, Session.closed]
  simp only [closeOutside, h, hmod]
  rfl

/-- The transmitter's choice in CLOSING with an empty buffer and no message in progress, while account work is PENDING: it
begins the closing message, or falls silent (R45, R146). -/
theorem chooseClosing_pending {i : LineId} {s : State} (hw : (s.line i).session.any (·.work == some .pending) = true)
    (hb : (s.line i).buffer = []) (ht : (s.line i).txItem = none) :
    ∃ c it slot, chooseClosing i s = s.setLine i { s.line i with txChar := c, txItem := it, closingSlot := slot } := by
  simp only [chooseClosing, State.continued, ht, hb]
  split
  · next k c _ => exact ⟨some c, some (.slot k, 1), none, by simp [State.modLine_eq, LineRec.sending, hb]⟩
  · exact ⟨none, none, none, by simp [State.modLine_eq, LineRec.sending, endClosing, State.session, hw, hb]⟩

/-- A line goes to CLOSING with an empty buffer and no message in progress, while account work is PENDING: the character
in progress goes on, or the transmitter chooses; the line stays in CLOSING (R45, R146). -/
theorem enterClosing_pending {i : LineId} {s : State} (hw : (s.line i).session.any (·.work == some .pending) = true)
    (hb : (s.line i).buffer = []) (ht : (s.line i).txItem = none) :
    ∃ c it slot, enterClosing i s = s.setLine i
      { s.line i with state := .closing, txChar := c, txItem := it, closingSlot := slot } := by
  simp only [enterClosing, kick, State.modLine_eq, State.line_setLine, choose]
  split
  · exact ⟨_, _, _, rfl⟩
  · obtain ⟨c, it, slot, h⟩ := chooseClosing_pending (s := s.setLine i { s.line i with state := .closing })
      (by rwa [State.line_setLine]) (by rwa [State.line_setLine]) (by rwa [State.line_setLine])
    exact ⟨c, it, slot, by rw [h, State.line_setLine, State.setLine_setLine]⟩

/-- The close decision of a reason that sends a message: the line is in CLOSING, its buffer empty, its account work PENDING
(R45, R146). -/
theorem closeOutside_closing {r : CloseReason} {i : LineId} {s : State} {x : Session} (h : s.openSession i = some x)
    (hm : r.marks = true) (hs : r.message.isSome = true) (hl : r ≠ .logoff) :
    ∃ l : LineRec, closeOutside r i s = s.closedOut i x r l ∧ l.state = .closing ∧ l.buffer = [] ∧
      l.session = some (x.decided r s.clock.stamp) ∧ l.enable = (s.line i).enable := by
  have hline : (s.closedOut i x r ((s.line i).decided r s.clock.stamp x)).line i =
      (s.line i).decided r s.clock.stamp x := s.line_setLine i _
  obtain ⟨c, it, slot, he⟩ := enterClosing_pending (i := i)
    (s := s.closedOut i x r ((s.line i).decided r s.clock.stamp x))
    (by rw [hline]; simp [LineRec.decided, LineRec.settleOutput, hl, Session.decided])
    (by rw [hline]; simp [LineRec.decided, LineRec.settleOutput, hl])
    (by rw [hline]; simp [LineRec.decided, LineRec.settleOutput, hl])
  rw [hline] at he
  let l : LineRec := { (s.line i).decided r s.clock.stamp x with
    state := .closing, txChar := c, txItem := it, closingSlot := slot }
  refine ⟨l, ?_, rfl, ?_, ?_, ?_⟩
  · rw [closeOutside_open h hm, if_pos hs, he]
    simp [State.closedOut, State.setLine, Bank.set_set, l]
  · simp [l, LineRec.decided, LineRec.settleOutput, hl]
  · simp [l, LineRec.decided, LineRec.settleOutput, hl]
  · simp [l, LineRec.decided, LineRec.settleOutput, hl]

theorem closedOut_sameLinesBut (s : State) (i : LineId) (x : Session) (r : CloseReason) (l : LineRec) :
    s.sameLinesBut (s.closedOut i x r l) i := State.sameLinesBut_setLine s i l

@[simp] theorem closedOut_line (s : State) (i : LineId) (x : Session) (r : CloseReason) (l : LineRec) :
    (s.closedOut i x r l).line i = l := s.line_setLine i l

/-! ### Carrier loss (R14) -/

theorem loseCarrier_call {i : LineId} {s : State} (h : (s.line i).state = .speed ∨ (s.line i).state = .signOn) :
    loseCarrier i s = hangup i s := by
  rcases h with h | h <;> simp only [loseCarrier, h]

theorem loseCarrier_session {i : LineId} {s : State} (h : (s.line i).state = .session) :
    loseCarrier i s = closeOutside .carrier i s := by
  simp only [loseCarrier, h]

/-- In CLOSING nothing is left to send, and the line waits for account work that is PENDING (R14, R146). -/
theorem loseCarrier_closing {i : LineId} {s : State} (h : (s.line i).state = .closing) :
    loseCarrier i s =
      let u := s.setLine i { s.line i with
        txChar := none, txItem := none, buffer := [], messages := [], notice := false, closingSlot := none }
      if (s.line i).session.any (·.work == some .pending) then u else hangup i u := by
  simp only [loseCarrier, h, endClosing, State.session, State.modLine_eq, State.line_setLine, LineRec.sending]

/-- Settles O20: by the state of the line, HANGUP, a close decision, nothing, or the end of the message. -/
theorem carrierLossEndsCallOrSession : Obligations.CarrierLossEndsCallOrSession := by
  intro i s hp hrep
  refine ⟨_, exec_powered (f := carrierLossOn i) rfl hp, ?_⟩
  let s' := takeReport i (fun r => { r with loss := false }) s
  have hloss : carrierLossOn i s = loseCarrier i s' := if_pos hrep
  have hline : s'.line i = { s.line i with reports := { (s.line i).reports with loss := false } } := s.line_setLine i _
  have hothers : s.sameLinesBut s' i := State.sameLinesBut_setLine s i _
  have hinput : ∀ u : State, u.input = s.input → (hangup i u).input = s.input := fun u hu => by
    obtain ⟨-, -, -, -, -, hframe⟩ := hangup_spec i u
    rw [hframe, hu]
  rw [hloss]
  refine ⟨fun hstate => ?_, fun x hstate hx ho => ?_, fun x hstate hx hc => ?_, fun hstate hw => ?_, fun hstate hw => ?_⟩
  · obtain ⟨hhung, -⟩ := hangup_spec i s'
    rw [loseCarrier_call (by rwa [hline]), hhung]
    exact ⟨rfl, rfl, hinput s' rfl⟩
  · have hopen : s'.openSession i = some x := (s'.openSession_iff i x).mpr ⟨by rwa [hline], ho⟩
    have hclosed : closeOutside .carrier i s' = s'.closedOut i x .carrier ((s'.line i).decided .carrier s.clock.stamp x) :=
      closeOutside_open hopen (by rfl)
    rw [loseCarrier_session (by rwa [hline]), hclosed]
    refine ⟨?_, ?_, rfl, fun j hj => ?_, rfl, ?_, ?_, rfl, rfl⟩
    · simp [LineRec.decided, LineRec.settleOutput, hline, hstate]
    · simp [LineRec.decided, LineRec.settleOutput, Session.decided]
    · rw [closedOut_sameLinesBut s' i x _ _ j hj, hothers j hj]
    · simp [LineRec.decided, LineRec.settleOutput]
    · simp [LineRec.decided, LineRec.settleOutput]
  · have hnone : s'.openSession i = none := by
      simp [State.openSession, State.session, hline, hx, hc, SessionState.isOpen]
    rw [loseCarrier_session (by rwa [hline]), closeOutside_none hnone]
    rfl
  · rw [loseCarrier_closing (by rwa [hline]), if_neg (by rw [hline, hw]; decide)]
    obtain ⟨hhung, -⟩ := hangup_spec i (s'.setLine i { s'.line i with
      txChar := none, txItem := none, buffer := [], messages := [], notice := false, closingSlot := none })
    rw [hhung]
    exact ⟨rfl, rfl, hinput _ rfl⟩
  · rw [loseCarrier_closing (by rwa [hline]), if_pos (by rwa [hline])]
    simp [s']

end Sys2Proof.Machine
end

section
/-! PROOFS. Lines disabled, one and several in turn (R8): each line's own record, the other lines, and the queues. -/

namespace Sys2Proof.Machine

/-! ### What a line follows when the others act -/

/-- What re-judging its readiness, any number of times, can make of a line record whose effective enable is `e`: a line in no
call stays in none, and a ringing line goes out of RINGING only if it is effectively enabled (R7, R11). -/
def LineRec.follows (e : Bool) (l m : LineRec) : Prop :=
  m = { l with state := m.state, ringGap := m.ringGap, ringCount := m.ringCount } ∧
    (l.state.resting = true → m.state.resting = true) ∧
    (l.state.resting = false → m = l ∨ (l.state = .ringing ∧ e = true ∧ m.state.resting = true))

theorem LineRec.follows.refl (e : Bool) (l : LineRec) : l.follows e l := ⟨rfl, id, fun _ => .inl rfl⟩

theorem LineRec.follows.trans {e : Bool} {l m n : LineRec} (h : l.follows e m) (k : m.follows e n) : l.follows e n := by
  obtain ⟨h1, h2, h3⟩ := h
  obtain ⟨k1, k2, k3⟩ := k
  refine ⟨by rw [k1, h1], fun hl => k2 (h2 hl), fun hl => ?_⟩
  rcases h3 hl with rfl | ⟨hr, he, hm⟩
  · exact k3 hl
  · exact .inr ⟨hr, he, k2 hm⟩

theorem LineRec.follows_rejudge (l : LineRec) (e r : Bool) : l.follows e (l.rejudge e r) := by
  have hrest : (restState e r).resting = true := by cases e <;> cases r <;> rfl
  by_cases hl : l.state.resting = true
  · have hj : l.rejudge e r = { l with state := restState e r } := by
      unfold LineRec.rejudge
      cases h : l.state <;> first | rfl | (rw [h] at hl; contradiction)
    rw [hj]
    exact ⟨rfl, fun _ => hrest, fun h => absurd hl (by rw [h]; decide)⟩
  · have hl : l.state.resting = false := by simpa using hl
    by_cases hc : l.state = .ringing ∧ e = true ∧ r = false
    · have hj : l.rejudge e r = { l with state := .busied, ringGap := none, ringCount := 0 } := by
        simp [LineRec.rejudge, hc]
      rw [hj]
      exact ⟨rfl, fun _ => rfl, fun _ => .inr ⟨hc.1, hc.2.1, rfl⟩⟩
    · have hj : l.rejudge e r = l := by
        by_cases hr : l.state = .ringing
        · cases e <;> cases r <;> simp_all [LineRec.rejudge]
        · exact LineRec.rejudge_stands e r hl hr
      rw [hj]
      exact .refl e l

/-- A line in a call stands, if it is not ringing or is not effectively enabled. -/
theorem LineRec.follows.stands {e : Bool} {l m : LineRec} (h : l.follows e m) (hl : l.state.resting = false)
    (hr : l.state = .ringing → e = false) : m = l := by
  rcases h.2.2 hl with h | ⟨h, he, -⟩
  · exact h
  · rw [hr h] at he; contradiction

theorem LineRec.follows.state_session {e : Bool} {l m : LineRec} (h : l.follows e m) :
    m.state = .session ↔ l.state = .session := by
  refine ⟨fun hm => ?_, fun hl => ?_⟩
  · have hm' : m.state.resting = false := by rw [hm]; rfl
    by_cases hl : l.state.resting = true
    · rw [h.2.1 hl] at hm'; contradiction
    · rcases h.2.2 (by simpa using hl) with rfl | ⟨-, -, hr⟩
      · exact hm
      · rw [hr] at hm'; contradiction
  · rw [h.stands (by rw [hl]; rfl) (by simp [hl]), hl]

theorem LineRec.follows.session {e : Bool} {l m : LineRec} (h : l.follows e m) : m.session = l.session := by rw [h.1]
theorem LineRec.follows.enable {e : Bool} {l m : LineRec} (h : l.follows e m) : m.enable = l.enable := by rw [h.1]

/-! ### One line disabled (R8) -/

/-- The four line states in which a call short of a session ends when the line is disabled (R8). -/
def LineState.calling : LineState → Bool
  | .ringing | .answering | .speed | .signOn => true
  | .disabled | .idle | .busied | .session | .closing | .hangup | .test | .faulted => false

theorem LineState.calling_iff (x : LineState) :
    x.calling = true ↔ x = .ringing ∨ x = .answering ∨ x = .speed ∨ x = .signOn := by
  cases x <;> decide

/-- The line has an open session that its disabling closes (R8). -/
def State.closes (s : State) (i : LineId) : Bool := (s.line i).state == .session && (s.session i).any (·.state.isOpen)

theorem State.closes_iff (s : State) (i : LineId) :
    s.closes i = true ↔ (s.line i).state = .session ∧ ∃ x, s.openSession i = some x := by
  simp [State.closes, State.openSession_iff, State.session, Option.any_eq_true]

/-- The disabling of a line (R8): HANGUP in a call short of a session, a close decision of an open session, nothing
else. -/
theorem disableLine_cases (i : LineId) (s : State) :
    ((s.line i).state.calling = true ∧ s.closes i = false ∧ disableLine i s = hangup i s) ∨
    (s.closes i = true ∧ (s.line i).state = .session ∧ ∃ (x : Session) (l : LineRec), s.openSession i = some x ∧
      disableLine i s = s.closedOut i x .lineDisabled l ∧ l.state = .closing ∧ l.buffer = [] ∧
      l.session = some (x.decided .lineDisabled s.clock.stamp) ∧ l.enable = (s.line i).enable) ∨
    ((s.line i).state.calling = false ∧ s.closes i = false ∧ disableLine i s = s) := by
  by_cases hc : (s.line i).state.calling = true
  · refine .inl ⟨hc, ?_, ?_⟩
    · cases h : (s.line i).state <;> simp_all [LineState.calling, State.closes]
    · rcases (LineState.calling_iff _).mp hc with h | h | h | h <;> simp only [disableLine, h]
  · have hc : (s.line i).state.calling = false := by simpa using hc
    by_cases hs : (s.line i).state = .session
    · have hd : disableLine i s = closeOutside .lineDisabled i s := by simp only [disableLine, hs]
      cases ho : s.openSession i with
      | none =>
        refine .inr (.inr ⟨hc, ?_, by rw [hd, closeOutside_none ho]⟩)
        rw [← Bool.not_eq_true, State.closes_iff, ho]; simp
      | some x =>
        obtain ⟨l, hl⟩ := closeOutside_closing ho (r := .lineDisabled) (by rfl) (by rfl) (by decide)
        exact .inr (.inl ⟨(s.closes_iff i).mpr ⟨hs, x, ho⟩, hs, x, l, rfl, by rw [hd]; exact hl⟩)
    · refine .inr (.inr ⟨hc, by simp [State.closes, hs], ?_⟩)
      cases h : (s.line i).state <;> simp_all [disableLine, LineState.calling]

/-- Disabling lines changes the lines, the queues of input and of check requests, the reservation count, the checker's
request, the close work that waits, and latches of the T port. -/
def State.callFrame (s t : State) : Prop :=
  t = { s with
    lines := t.lines, checkQueue := t.checkQueue, input := t.input
    tPort := { s.tPort with latches := t.tPort.latches }
    arbiter := { s.arbiter with checkerAsked := t.arbiter.checkerAsked }
    billing := { s.billing with reservations := t.billing.reservations }
    engine := { s.engine with closeWork := t.engine.closeWork } }

theorem State.callFrame.refl (s : State) : s.callFrame s := rfl

theorem State.callFrame.trans {s t u : State} (h : s.callFrame t) (k : t.callFrame u) : s.callFrame u := by
  unfold State.callFrame at *; rw [k, h]

theorem State.lineFrame.call {s t : State} (h : s.lineFrame t) : s.callFrame t := by
  unfold State.lineFrame at h; unfold State.callFrame; rw [h]

theorem callFrame_closedOut (s : State) (i : LineId) (x : Session) (r : CloseReason) (l : LineRec) :
    s.callFrame (s.closedOut i x r l) := by
  unfold State.callFrame State.closedOut; rw [PortUnit.latch_eq]; rfl

theorem callFrame_disableLine (i : LineId) (s : State) : s.callFrame (disableLine i s) := by
  rcases disableLine_cases i s with ⟨-, -, h⟩ | ⟨-, -, x, l, -, h, -⟩ | ⟨-, -, h⟩ <;> rw [h]
  · exact (lineFrame_hangup s i).call
  · exact callFrame_closedOut s i x _ l
  · exact .refl s

theorem State.callFrame.groups {s t : State} (h : s.callFrame t) : t.groups = s.groups := by
  unfold State.callFrame at h; rw [h]

theorem State.callFrame.clock {s t : State} (h : s.callFrame t) : t.clock = s.clock := by
  unfold State.callFrame at h; rw [h]

/-- The other lines at the disabling of a line. -/
theorem disableLine_others {i j : LineId} (s : State) (h : j ≠ i) :
    (s.line j).follows ((disableLine i s).effEnable j) ((disableLine i s).line j) := by
  rcases disableLine_cases i s with ⟨-, -, hd⟩ | ⟨-, -, x, l, -, hd, -⟩ | ⟨-, -, hd⟩ <;> rw [hd]
  · obtain ⟨-, -, -, hothers, -⟩ := hangup_spec i s
    rw [hothers j h]
    exact LineRec.follows_rejudge _ _ _
  · rw [closedOut_sameLinesBut s i x _ l j h]
    exact .refl _ _
  · exact .refl _ _

theorem disableLine_enable (i j : LineId) (s : State) : ((disableLine i s).line j).enable = (s.line j).enable := by
  by_cases h : j = i
  · subst h
    rcases disableLine_cases j s with ⟨-, -, hd⟩ | ⟨-, -, x, l, -, hd, -, -, -, he⟩ | ⟨-, -, hd⟩ <;> rw [hd]
    · obtain ⟨hline, -⟩ := hangup_spec j s
      rw [hline]; rfl
    · rw [closedOut_line, he]
  · exact (disableLine_others s h).enable

theorem disableLine_effEnable (i j : LineId) (s : State) : (disableLine i s).effEnable j = s.effEnable j := by
  rw [State.effEnable, State.effEnable, disableLine_enable, State.lineGroup, State.group,
    (callFrame_disableLine i s).groups]
  rfl

/-- The CLOSE mark of a line whose session its disabling closes, if it has one. -/
def State.closeMarkOf (s : State) (i : LineId) : Option InputEntry :=
  (s.session i).map fun x => .closeMark i x.serial .lineDisabled

/-- The input queue and the close work at the disabling of a line. -/
theorem disableLine_queues (i : LineId) (s : State) :
    (disableLine i s).input = s.input ++ ([i].filter s.closes).filterMap s.closeMarkOf ∧
      (disableLine i s).engine.closeWork = s.engine.closeWork ++ [i].filter s.closes := by
  rcases disableLine_cases i s with ⟨-, hn, hd⟩ | ⟨hc, -, x, l, ho, hd, -⟩ | ⟨-, hn, hd⟩ <;> rw [hd]
  · obtain ⟨-, -, -, -, -, hframe⟩ := hangup_spec i s
    rw [hframe]; simp [hn]
  · have hx : s.session i = some x := ((s.openSession_iff i x).mp ho).1
    simp [hc, State.closedOut, State.closeMarkOf, hx]
  · simp [hn]

/-- What the disabling makes of the line's own record (R8, R20, R145, R146). -/
def LineRec.disabledTo (now : Stamp) (l m : LineRec) : Prop :=
  (l.state.calling = true → m = { l.hungUp with reserved := false }) ∧
    (∀ x : Session, l.state = .session → l.session = some x → x.state.isOpen = true →
      m.state = .closing ∧ m.buffer = [] ∧ m.session = some (x.decided .lineDisabled now)) ∧
    (l.state.resting = true → m.state.resting = true)

theorem LineState.resting_not_calling {x : LineState} (h : x.resting = true) : x.calling = false ∧ x ≠ .session := by
  cases x <;> simp_all [LineState.resting, LineState.calling]

theorem LineState.calling_not_resting {x : LineState} (h : x.calling = true) : x.resting = false := by
  cases x <;> simp_all [LineState.resting, LineState.calling]

theorem disableLine_self (i : LineId) (s : State) :
    (s.line i).disabledTo s.clock.stamp ((disableLine i s).line i) := by
  rcases disableLine_cases i s with ⟨hc, -, hd⟩ | ⟨-, hs, x, l, ho, hd, h1, h2, h3, -⟩ | ⟨hc, hn, hd⟩ <;> rw [hd]
  · obtain ⟨hline, -⟩ := hangup_spec i s
    refine ⟨fun _ => hline, fun x hs => ?_, fun hr => ?_⟩
    · rw [hs] at hc; contradiction
    · rw [(LineState.resting_not_calling hr).1] at hc; contradiction
  · rw [closedOut_line]
    refine ⟨fun hc => ?_, fun y _ hy _ => ?_, fun hr => ?_⟩
    · rw [hs] at hc; contradiction
    · have hx : (s.line i).session = some x := ((s.openSession_iff i x).mp ho).1
      obtain rfl : x = y := Option.some.inj (hx.symm.trans hy)
      exact ⟨h1, h2, h3⟩
    · exact absurd hs (LineState.resting_not_calling hr).2
  · refine ⟨fun h => ?_, fun x hs hx ho => ?_, fun hr => hr⟩
    · rw [h] at hc; contradiction
    · have : s.closes i = true := (s.closes_iff i).mpr ⟨hs, x, (s.openSession_iff i x).mpr ⟨hx, ho⟩⟩
      rw [this] at hn; contradiction

/-- The disabling of the line after others were disabled. -/
theorem LineRec.follows.disabledTo {now : Stamp} {l m n : LineRec} (h : l.follows false m) (k : m.disabledTo now n) :
    l.disabledTo now n := by
  obtain ⟨k1, k2, k3⟩ := k
  refine ⟨fun hc => ?_, fun x hs hx ho => ?_, fun hr => k3 (h.2.1 hr)⟩
  · obtain rfl : m = l := h.stands (LineState.calling_not_resting hc) fun _ => rfl
    exact k1 hc
  · obtain rfl : m = l := h.stands (by rw [hs]; rfl) fun _ => rfl
    exact k2 x hs hx ho

/-- Others are disabled after the line. -/
theorem LineRec.disabledTo.follows {now : Stamp} {e : Bool} {l m n : LineRec} (h : l.disabledTo now m)
    (k : m.follows e n) : l.disabledTo now n := by
  obtain ⟨h1, h2, h3⟩ := h
  refine ⟨fun hc => ?_, fun x hs hx ho => ?_, fun hr => k.2.1 (h3 hr)⟩
  · have hm := h1 hc
    rw [k.stands (by rw [hm]; rfl) (by rw [hm]; simp [LineRec.hungUp]), hm]
  · obtain ⟨hm, hb, hss⟩ := h2 x hs hx ho
    rw [k.stands (by rw [hm]; rfl) (by rw [hm]; simp)]
    exact ⟨hm, hb, hss⟩

theorem disableLine_checkQueue (i : LineId) (s : State) :
    (disableLine i s).checkQueue =
      if (s.line i).state.calling then s.checkQueue.filter (fun e => e.line != i) else s.checkQueue := by
  rcases disableLine_cases i s with ⟨hc, -, hd⟩ | ⟨-, hs, x, l, -, hd, -⟩ | ⟨hc, -, hd⟩ <;> rw [hd]
  · obtain ⟨-, -, hq, -⟩ := hangup_spec i s
    rw [hq, if_pos hc]
  · rw [hs]; rfl
  · rw [if_neg (by rw [hc]; decide)]

/-! ### The lines of a list disabled in turn (R8) -/

/-- The lines of a list that `c` picks are disabled, one after another. -/
def disableAll (c : LineId → Bool) (l : List LineId) (s : State) : State :=
  l.foldl (fun s i => if c i then disableLine i s else s) s

theorem actOnEnables_eq (before after : State) :
    actOnEnables before after =
      rejudge (disableAll (fun i => before.effEnable i && !after.effEnable i) allLines after) := rfl

section
variable (c : LineId → Bool)

theorem disableAll_cons (i : LineId) (l : List LineId) (s : State) :
    disableAll c (i :: l) s = disableAll c l (if c i then disableLine i s else s) := rfl

/-- An invariant of the disabling of one line is one of the disabling of several. -/
theorem disableAll_induct {P : State → State → Prop} (hrefl : ∀ s, P s s) (htrans : ∀ s t u, P s t → P t u → P s u)
    (hstep : ∀ i s, c i = true → P s (disableLine i s)) (l : List LineId) (s : State) : P s (disableAll c l s) := by
  induction l generalizing s with
  | nil => exact hrefl s
  | cons i l ih =>
    rw [disableAll_cons]
    refine htrans _ _ _ ?_ (ih _)
    split
    · exact hstep i s ‹_›
    · exact hrefl s

theorem callFrame_disableAll (l : List LineId) (s : State) : s.callFrame (disableAll c l s) :=
  disableAll_induct c State.callFrame.refl (fun _ _ _ => State.callFrame.trans)
    (fun i s _ => callFrame_disableLine i s) l s

theorem disableAll_enable (l : List LineId) (s : State) (j : LineId) :
    ((disableAll c l s).line j).enable = (s.line j).enable :=
  disableAll_induct c (P := fun s t => (t.line j).enable = (s.line j).enable) (fun _ => rfl)
    (fun _ _ _ h k => k.trans h) (fun i s _ => disableLine_enable i j s) l s

theorem disableAll_effEnable (l : List LineId) (s : State) (j : LineId) :
    (disableAll c l s).effEnable j = s.effEnable j :=
  disableAll_induct c (P := fun s t => t.effEnable j = s.effEnable j) (fun _ => rfl)
    (fun _ _ _ h k => k.trans h) (fun i s _ => disableLine_effEnable i j s) l s

/-- A line that `c` does not pick, or that is not in the list. -/
theorem disableAll_others (l : List LineId) (s : State) (j : LineId) (h : j ∉ l ∨ c j = false) :
    (s.line j).follows (s.effEnable j) ((disableAll c l s).line j) := by
  induction l generalizing s with
  | nil => exact .refl _ _
  | cons i l ih =>
    rw [disableAll_cons]
    have hl : j ∉ l ∨ c j = false := h.imp_left fun h hm => h (List.mem_cons_of_mem _ hm)
    split
    · next hc =>
      have hne : j ≠ i := by
        rintro rfl
        rcases h with h | h
        · exact h List.mem_cons_self
        · rw [hc] at h; contradiction
      have hfirst := disableLine_others s hne
      have hrest := ih (disableLine i s) hl
      rw [disableLine_effEnable] at hfirst hrest
      exact hfirst.trans hrest
    · exact ih s hl

/-- A line that `c` picks: its own record, and its place in the check request queue. -/
theorem disableAll_self (l : List LineId) (hl : l.Nodup) (s : State) (i : LineId) (hi : i ∈ l) (hc : c i = true)
    (he : s.effEnable i = false) :
    (s.line i).disabledTo s.clock.stamp ((disableAll c l s).line i) := by
  induction l generalizing s with
  | nil => contradiction
  | cons j l ih =>
    obtain ⟨hj, hl⟩ := List.nodup_cons.mp hl
    rw [disableAll_cons]
    by_cases hij : i = j
    · subst hij
      rw [if_pos hc]
      exact (disableLine_self i s).follows (disableAll_others c l _ i (.inl hj))
    · have hi : i ∈ l := (List.mem_cons.mp hi).resolve_left hij
      split
      · have hfirst := disableLine_others s hij
        rw [disableLine_effEnable, he] at hfirst
        have hrest := ih hl (disableLine j s) hi (by rw [disableLine_effEnable, he])
        rw [(callFrame_disableLine j s).clock] at hrest
        exact hfirst.disabledTo hrest
      · exact ih hl s hi he

/-- The check request queue only shrinks, and a line whose call ends has left it. -/
theorem disableAll_checkQueue_subset (l : List LineId) (s : State) :
    ∀ e ∈ (disableAll c l s).checkQueue, e ∈ s.checkQueue :=
  disableAll_induct c (P := fun s t => ∀ e ∈ t.checkQueue, e ∈ s.checkQueue) (fun _ _ h => h)
    (fun _ _ _ h k e he => h e (k e he))
    (fun i s _ e he => by
      rw [disableLine_checkQueue] at he
      split at he
      · exact (List.mem_filter.mp he).1
      · exact he) l s

theorem disableAll_checkQueue (l : List LineId) (s : State) (i : LineId) (hi : i ∈ l) (hc : c i = true)
    (he : s.effEnable i = false) (hs : (s.line i).state.calling = true) :
    ∀ e ∈ (disableAll c l s).checkQueue, e.line ≠ i := by
  induction l generalizing s with
  | nil => contradiction
  | cons j l ih =>
    rw [disableAll_cons]
    by_cases hij : i = j
    · subst hij
      intro e hmem
      have := disableAll_checkQueue_subset c l _ e hmem
      rw [if_pos hc, disableLine_checkQueue, if_pos hs] at this
      simpa using (List.mem_filter.mp this).2
    · have hi : i ∈ l := (List.mem_cons.mp hi).resolve_left hij
      split
      · have hfirst := disableLine_others s hij
        rw [disableLine_effEnable, he] at hfirst
        have hsame := hfirst.stands (LineState.calling_not_resting hs) fun _ => rfl
        exact ih (disableLine j s) hi (by rw [disableLine_effEnable, he]) (by rw [hsame, hs])
      · exact ih s hi he hs

/-- The input queue and the close work: a CLOSE mark and an entry for each line whose session closes, in list order. -/
theorem disableAll_queues (l : List LineId) (hl : l.Nodup) (s : State) :
    (disableAll c l s).input = s.input ++ (l.filter fun i => c i && s.closes i).filterMap s.closeMarkOf ∧
      (disableAll c l s).engine.closeWork = s.engine.closeWork ++ l.filter fun i => c i && s.closes i := by
  induction l generalizing s with
  | nil => simp [disableAll]
  | cons i l ih =>
    obtain ⟨hi, hl⟩ := List.nodup_cons.mp hl
    rw [disableAll_cons]
    by_cases hc : c i = true
    · have hsession : ∀ j ∈ l, (disableLine i s).session j = s.session j := fun j hj =>
        (disableLine_others s (by rintro rfl; exact hi hj)).session
      have hcloses : ∀ j ∈ l, (disableLine i s).closes j = s.closes j := fun j hj => by
        have hstate := (disableLine_others s (j := j) (i := i) (by rintro rfl; exact hi hj)).state_session
        rw [State.closes, State.closes, hsession j hj, Bool.eq_iff_iff, Bool.and_eq_true, Bool.and_eq_true, beq_iff_eq,
          beq_iff_eq, hstate]
      have hfilter : (l.filter fun j => c j && (disableLine i s).closes j) = l.filter fun j => c j && s.closes j :=
        List.filter_congr fun j hj => by rw [hcloses j hj]
      have hmarks : (l.filter fun j => c j && s.closes j).filterMap (disableLine i s).closeMarkOf =
          (l.filter fun j => c j && s.closes j).filterMap s.closeMarkOf :=
        List.filterMap_congr fun j hj => by
          rw [State.closeMarkOf, State.closeMarkOf, hsession j (List.mem_of_mem_filter hj)]
      obtain ⟨hin, hwork⟩ := ih hl (disableLine i s)
      obtain ⟨hin1, hwork1⟩ := disableLine_queues i s
      have hcons : ((i :: l).filter fun j => c j && s.closes j) =
          [i].filter s.closes ++ l.filter fun j => c j && s.closes j := by
        rw [List.filter_cons, List.filter_singleton, hc, Bool.true_and]
        split <;> simp_all
      rw [if_pos hc, hin, hwork, hin1, hwork1, hfilter, hmarks, hcons, List.filterMap_append, List.append_assoc,
        List.append_assoc]
      exact ⟨rfl, rfl⟩
    · rw [if_neg hc]
      obtain ⟨hin, hwork⟩ := ih hl s
      simp [hin, hwork, hc]

end

end Sys2Proof.Machine
end

section
/-! PROOFS. LINE ENABLE and GROUP ENABLE (R5, R7, R8). -/

namespace Sys2Proof.Machine

/-! ### Completion after a change of enables -/

theorem complete_answered {p : PortId} {s : State} (h : (s.port p).starting = false) (st : Status) (cl : Bool)
    (f : List Word) : ((complete p st cl f s).port p).answered p st cl f := by
  rw [complete_port]; exact PortUnit.completed_answered _ _ _ _ _ h

@[simp] theorem complete_effEnable (p : PortId) (st : Status) (cl : Bool) (f : List Word) (s : State) (i : LineId) :
    (complete p st cl f s).effEnable i = s.effEnable i := by
  rw [complete_eq]; cases p <;> rfl

@[simp] theorem complete_ready (p : PortId) (st : Status) (cl : Bool) (f : List Word) (s : State) (i : LineId) :
    (complete p st cl f s).ready i = s.ready i := by
  have hready : ∀ t : State, t.effEnable i = s.effEnable i → t.tPort.vote = s.tPort.vote → t.aPort.vote = s.aPort.vote →
      t.watch.down = s.watch.down → t.clockInvalid = s.clockInvalid → t.billing = s.billing → t.ready i = s.ready i := by
    intro t h1 h2 h3 h4 h5 h6
    simp only [State.ready, State.sharedReady, h1, h2, h3, h4, h5, h6]
  refine hready _ (complete_effEnable p st cl f s i) ?_ ?_ ?_ ?_ ?_ <;> rw [complete_eq] <;> cases p <;>
    first | rfl | exact PortUnit.completed_vote _ _ _ _ _

theorem State.callFrame.starting {s t : State} (h : s.callFrame t) (p : PortId) :
    (t.port p).starting = (s.port p).starting := by
  unfold State.callFrame at h; rw [h]; cases p <;> rfl

/-- What stands when a command that disabled lines has completed: the settings, the tables, the hold and the watch. -/
theorem State.callFrame.complete {s u : State} (h : s.callFrame u) (p : PortId) (st : Status) (cl : Bool)
    (f : List Word) :
    (complete p st cl f u).groups = s.groups ∧ s.sameTables (complete p st cl f u) ∧
      (complete p st cl f u).hold = s.hold ∧ (complete p st cl f u).watch.down = s.watch.down := by
  unfold State.callFrame at h
  rw [complete_eq, h]
  cases p <;> exact ⟨rfl, ⟨rfl, rfl, rfl, rfl, rfl, rfl, rfl, rfl⟩, rfl, rfl⟩

/-! ### The lines after a change of enables -/

theorem allLines_nodup : allLines.Nodup := by decide

theorem callFrame_actOnEnables (before after : State) : after.callFrame (actOnEnables before after) :=
  (callFrame_disableAll _ _ _).trans (lineFrame_rejudge _).call

theorem LineRec.rejudge_of_resting {l : LineRec} (e r : Bool) (h : l.state.resting = true) :
    (l.rejudge e r).state = restState e r := by
  cases hs : l.state <;> first | (simp only [LineRec.rejudge, hs]; done) | (rw [hs] at h; contradiction)

theorem LineState.resting_iff (x : LineState) : x.resting = true ↔ x = .disabled ∨ x = .idle ∨ x = .busied := by
  cases x <;> decide

section
variable (before after : State)

theorem actOnEnables_effEnable (j : LineId) : (actOnEnables before after).effEnable j = after.effEnable j := by
  rw [actOnEnables_eq, rejudge_effEnable, disableAll_effEnable]

theorem actOnEnables_enable (j : LineId) : ((actOnEnables before after).line j).enable = (after.line j).enable := by
  rw [actOnEnables_eq, rejudge_line, LineRec.rejudge_enable, disableAll_enable]

/-- A line whose effective enable goes off (R8). -/
theorem actOnEnables_off {i : LineId} (hb : before.effEnable i = true) (ha : after.effEnable i = false) :
    (after.line i).disabledTo after.clock.stamp ((actOnEnables before after).line i) := by
  rw [actOnEnables_eq, rejudge_line]
  exact (disableAll_self _ _ allLines_nodup _ i (mem_allLines i) (by simp [hb, ha]) ha).follows
    (LineRec.follows_rejudge _ _ _)

/-- Every other line (R7, R11). -/
theorem actOnEnables_other {i : LineId} (h : (before.effEnable i && !after.effEnable i) = false) :
    (after.line i).follows (after.effEnable i) ((actOnEnables before after).line i) := by
  rw [actOnEnables_eq, rejudge_line, disableAll_effEnable]
  exact (disableAll_others _ _ _ i (.inr h)).trans (LineRec.follows_rejudge _ _ _)

/-- A line in no call stands by its enable and its readiness (R7). -/
theorem actOnEnables_rest {i : LineId} (h : (after.line i).state.resting = true) :
    ((actOnEnables before after).line i).state =
      restState ((actOnEnables before after).effEnable i) ((actOnEnables before after).ready i) := by
  rw [actOnEnables_eq, rejudge_line, rejudge_effEnable, rejudge_ready]
  refine LineRec.rejudge_of_resting _ _ ?_
  by_cases hc : (before.effEnable i && !after.effEnable i) = true
  · have he : after.effEnable i = false := by simp_all
    exact (disableAll_self _ _ allLines_nodup _ i (mem_allLines i) hc he).2.2 h
  · exact (disableAll_others _ _ _ i (.inr (by simpa using hc))).2.1 h

end

/-! ### LINE ENABLE and GROUP ENABLE (R5) -/

theorem workLineEnable_ok {p : PortId} {n on : Word} {i : LineId} (s : State) (hi : i.val = n.toNat)
    (hon : on.toNat ≤ 1) :
    workLineEnable p n on s =
      complete p .ok false [] (actOnEnables s (s.setLine i { s.line i with enable := on == 1 })) := by
  simp only [workLineEnable, lineArg_val hi, flagArg_some hon, completeOk, State.modLine_eq]

/-- The groups with one group enable set. -/
def State.setGroupEnable (s : State) (g : Fin 4) (on : Bool) : State :=
  { s with groups := s.groups.set g { s.group g with enable := on } }

theorem workGroupEnable_ok {p : PortId} {n on : Word} {g : Fin 4} (s : State) (hg : g.val = n.toNat)
    (hon : on.toNat ≤ 1) :
    workGroupEnable p n on s = complete p .ok false [] (actOnEnables s (s.setGroupEnable g (on == 1))) := by
  simp only [workGroupEnable, groupArg_val hg, flagArg_some hon, completeOk, State.setGroupEnable]

theorem State.setGroupEnable_group (s : State) (g k : Fin 4) (on : Bool) :
    (s.setGroupEnable g on).group k = if k = g then { s.group k with enable := on } else s.group k := by
  rw [State.setGroupEnable, State.group, Bank.get_set]
  by_cases h : k = g
  · subst h; simp
  · rw [if_neg h, if_neg (Ne.symm h)]; rfl

/-- Settles O12: the enable named is the one change before the lines act on it, and a line in no call re-judges its
readiness last. -/
theorem enablesSetAndLinesFollow : Obligations.EnablesSetAndLinesFollow := by
  refine ⟨fun p n on s hon => ⟨fun i hi hrun => ?_, fun g hg hrun => ?_, fun hn hrun => ?_, fun hn hrun => ?_⟩,
    fun p n on s hon => ⟨fun hrun => ?_, fun hrun => ?_⟩⟩
  · let after := s.setLine i { s.line i with enable := on == 1 }
    have hframe := callFrame_actOnEnables s after
    refine ⟨_, (exec_running (work := workLineEnable p n on) rfl hrun).trans (by rw [workLineEnable_ok s hi hon]), ?_⟩
    obtain ⟨hgroups, htables, hhold, hwatch⟩ := hframe.complete p .ok false []
    refine ⟨complete_answered ((hframe.starting p).trans (by cases p <;> exact hrun.1.2)) _ _ _, fun j => ?_,
      fun j hj => ?_, hgroups, htables, hhold, hwatch⟩
    · rw [complete_line, actOnEnables_enable]
      by_cases h : j = i
      · subst h; simp
      · rw [if_neg h, State.line_setLine_ne _ _ (Ne.symm h)]
    · rw [complete_line, complete_effEnable, complete_ready]
      refine actOnEnables_rest s after ?_
      have hstate : (after.line j).state = (s.line j).state := by
        by_cases h : j = i
        · subst h; simp [after]
        · rw [State.line_setLine_ne _ _ (Ne.symm h)]
      rw [hstate]
      exact (LineState.resting_iff _).mpr hj
  · let after := s.setGroupEnable g (on == 1)
    have hframe := callFrame_actOnEnables s after
    refine ⟨_, (exec_running (work := workGroupEnable p n on) rfl hrun).trans (by rw [workGroupEnable_ok s hg hon]), ?_⟩
    obtain ⟨hgroups, htables, hhold, hwatch⟩ := hframe.complete p .ok false []
    refine ⟨complete_answered ((hframe.starting p).trans (by cases p <;> exact hrun.1.2)) _ _ _, fun k => ?_,
      fun j => ?_, fun j hj => ?_, htables, hhold, hwatch⟩
    · rw [State.group, hgroups]
      exact s.setGroupEnable_group g k (on == 1)
    · rw [complete_line, actOnEnables_enable]; rfl
    · rw [complete_line, complete_effEnable, complete_ready]
      exact actOnEnables_rest s after ((LineState.resting_iff _).mpr hj)
  · rw [exec_running (work := workLineEnable p n on) rfl hrun]
    simp only [workLineEnable, lineArg_none hn, refuse]
  · rw [exec_running (work := workGroupEnable p n on) rfl hrun]
    simp only [workGroupEnable, groupArg_none hn, refuse]
  · rw [exec_running (work := workLineEnable p n on) rfl hrun]
    cases h : lineArg n <;> simp only [workLineEnable, h, flagArg_none hon, refuse]
  · rw [exec_running (work := workGroupEnable p n on) rfl hrun]
    cases h : groupArg n <;> simp only [workGroupEnable, h, flagArg_none hon, refuse]

/-! ### What a disabled line leaves (R8) -/

/-- What HANGUP shows of the line whose call a disabling ended (R8, R20). -/
theorem LineRec.disabledTo.call {now : Stamp} {l m : LineRec} (h : l.disabledTo now m) (hc : l.state.calling = true) :
    m.state = .hangup ∧ m.phaseTimer = some 20 ∧ m.signOn = none ∧ m.session = none ∧ m.reserved = false := by
  rw [h.1 hc]; exact ⟨rfl, rfl, rfl, rfl, rfl⟩

section
variable (before after : State)

/-- The queues after a change of enables: a CLOSE mark and close work for each session closed, in line order. -/
theorem actOnEnables_queues {closing : List LineId}
    (h : closing = allLines.filter fun i => (before.effEnable i && !after.effEnable i) && after.closes i) :
    (actOnEnables before after).input = after.input ++ closing.filterMap after.closeMarkOf ∧
      (actOnEnables before after).engine = { after.engine with closeWork := after.engine.closeWork ++ closing } := by
  obtain ⟨hin, hwork⟩ := disableAll_queues (fun i => before.effEnable i && !after.effEnable i) allLines allLines_nodup after
  have hframe := callFrame_disableAll (fun i => before.effEnable i && !after.effEnable i) allLines after
  rw [← h] at hin hwork
  rw [actOnEnables_eq]
  refine ⟨hin, ?_⟩
  show (disableAll _ _ _).engine = _
  rw [← hwork]
  unfold State.callFrame at hframe
  rw [hframe]

theorem actOnEnables_checkQueue {i : LineId} (hb : before.effEnable i = true) (ha : after.effEnable i = false)
    (hc : (after.line i).state.calling = true) : ∀ e ∈ (actOnEnables before after).checkQueue, e.line ≠ i :=
  disableAll_checkQueue _ allLines after i (mem_allLines i) (by simp [hb, ha]) ha hc

end

@[simp] theorem complete_input (p : PortId) (st : Status) (cl : Bool) (f : List Word) (s : State) :
    (complete p st cl f s).input = s.input := by rw [complete_eq]; cases p <;> rfl

@[simp] theorem complete_engine (p : PortId) (st : Status) (cl : Bool) (f : List Word) (s : State) :
    (complete p st cl f s).engine = s.engine := by rw [complete_eq]; cases p <;> rfl

@[simp] theorem complete_checkQueue (p : PortId) (st : Status) (cl : Bool) (f : List Word) (s : State) :
    (complete p st cl f s).checkQueue = s.checkQueue := by rw [complete_eq]; cases p <;> rfl

@[simp] theorem complete_session (p : PortId) (st : Status) (cl : Bool) (f : List Word) (s : State) (i : LineId) :
    (complete p st cl f s).session i = s.session i := by rw [State.session, complete_line]; rfl

/-- One line at most is picked. -/
theorem filter_allLines_only {q : LineId → Bool} {i : LineId} (h : ∀ j, j ≠ i → q j = false) :
    allLines.filter q = [i].filter q := by
  cases hq : q i with
  | true =>
    have hcongr : allLines.filter q = allLines.filter (· == i) := List.filter_congr fun j _ => by
      by_cases e : j = i
      · simp [e, hq]
      · simp [e, h j e]
    rw [hcongr, List.filter_beq, List.count_eq_one_of_mem allLines_nodup (mem_allLines i)]
    simp [hq]
  | false =>
    have hnone : ∀ j, q j = false := fun j => by
      by_cases e : j = i
      · rw [e, hq]
      · exact h j e
    simp [hnone]

theorem State.closes_of_call {s : State} {i : LineId} (h : (s.line i).state.calling = true) : s.closes i = false := by
  cases e : (s.line i).state <;> simp_all [LineState.calling, State.closes]

/-- The lines whose effective enable goes off with the enable of a group (R5). -/
theorem setGroupEnable_off {s : State} {g : Fin 4} (h : (s.group g).enable = true) (i : LineId) :
    (s.effEnable i && !(s.setGroupEnable g false).effEnable i) =
      decide (groupOf i = g ∧ (s.line i).enable = true) := by
  have hline : (s.setGroupEnable g false).line i = s.line i := rfl
  rw [State.effEnable, State.effEnable, hline, State.lineGroup, State.lineGroup, State.setGroupEnable_group]
  by_cases hg : groupOf i = g
  · simp [hg, h]
  · simp [hg]

@[simp] theorem complete_group (p : PortId) (st : Status) (cl : Bool) (f : List Word) (s : State) (g : Fin 4) :
    (complete p st cl f s).group g = s.group g := by rw [complete_eq]; cases p <;> rfl

@[simp] theorem complete_accounts (p : PortId) (st : Status) (cl : Bool) (f : List Word) (s : State) :
    (complete p st cl f s).accounts = s.accounts := by rw [complete_eq]; cases p <;> rfl

theorem State.callFrame.accounts {s t : State} (h : s.callFrame t) : t.accounts = s.accounts := by
  unfold State.callFrame at h; rw [h]

/-- Settles O13: the lines that go off are those that `actOnEnables` disables, one for LINE ENABLE and those of the group
for GROUP ENABLE. -/
theorem disableEndsCallsAndSessions : Obligations.DisableEndsCallsAndSessions := by
  refine ⟨fun p n i s hi hrun heff => ?_, fun p n g s hg hrun hon => ?_⟩
  · let after := s.setLine i { s.line i with enable := false }
    have hline : after.line i = { s.line i with enable := false } := s.line_setLine i _
    have hothers : ∀ j, j ≠ i → after.line j = s.line j := State.sameLinesBut_setLine s i _
    have hoff : after.effEnable i = false := by simp [after]
    have hsame : ∀ j, j ≠ i → (s.effEnable j && !after.effEnable j) = false := fun j hj => by
      have : after.effEnable j = s.effEnable j := by rw [State.effEnable, hothers j hj]; rfl
      rw [this]; simp
    have hself := actOnEnables_off s after heff hoff
    have hclosing : [i].filter (fun j => (s.effEnable j && !after.effEnable j) && after.closes j) =
        allLines.filter fun j => (s.effEnable j && !after.effEnable j) && after.closes j :=
      (filter_allLines_only fun j hj => by rw [hsame j hj]; rfl).symm
    obtain ⟨hin, hwork⟩ := actOnEnables_queues s after hclosing
    rw [List.filter_singleton, heff, hoff, Bool.not_false, Bool.true_and, Bool.true_and] at hin hwork
    refine ⟨_, (exec_running (work := workLineEnable p n 0) rfl hrun).trans
      (by rw [workLineEnable_ok s hi (by decide)]), ?_, fun hstate => ?_, fun x hstate hx ho => ?_, fun j hj => ?_⟩
    · rw [complete_line]; exact (actOnEnables_enable s after i).trans (by rw [hline])
    · have hcall : (after.line i).state.calling = true := by rw [hline]; exact (LineState.calling_iff _).mpr hstate
      obtain ⟨h1, h2, h3, h4, h5⟩ := hself.call hcall
      rw [State.closes_of_call hcall] at hin
      rw [complete_line, complete_input, complete_checkQueue]
      exact ⟨h1, h2, h3, h4, h5, hin.trans (List.append_nil _), actOnEnables_checkQueue s after heff hoff hcall⟩
    · obtain ⟨h1, h2, h3⟩ := hself.2.1 x (by rw [hline]; exact hstate) (by rw [hline]; exact hx) ho
      have hcl : after.closes i = true :=
        (after.closes_iff i).mpr ⟨by rw [hline]; exact hstate, x, (after.openSession_iff i x).mpr ⟨by rw [hline]; exact hx, ho⟩⟩
      have hmark : after.closeMarkOf i = some (.closeMark i x.serial .lineDisabled) := by
        rw [State.closeMarkOf, State.session, hline, hx]; rfl
      rw [hcl] at hin hwork
      rw [complete_line, complete_input, complete_engine]
      exact ⟨h1, h3, hin.trans (by simp [hmark, after]), hwork, h2⟩
    · rw [complete_session]
      exact (actOnEnables_other s after (hsame j hj)).session.trans (by rw [hothers j hj]; rfl)
  · intro goesOff closing
    let after := s.setGroupEnable g false
    have hoff : ∀ i, (s.effEnable i && !after.effEnable i) = decide (goesOff i) := fun i =>
      setGroupEnable_off hon i
    have hoff' : ∀ i, goesOff i → s.effEnable i = true ∧ after.effEnable i = false := fun i h => by
      have := hoff i
      rw [decide_eq_true h, Bool.and_eq_true, Bool.not_eq_true'] at this
      exact this
    have hclosing : closing = allLines.filter fun i => (s.effEnable i && !after.effEnable i) && after.closes i :=
      List.filter_congr fun i _ => by rw [hoff i, Bool.and_assoc]; rfl
    obtain ⟨hin, hwork⟩ := actOnEnables_queues s after hclosing
    refine ⟨_, (exec_running (work := workGroupEnable p n 0) rfl hrun).trans
      (by rw [workGroupEnable_ok s hg (by decide)]), ?_, fun i hi hstate => ?_, fun i x hi hstate hx ho => ?_,
      fun i hi => ?_, ?_, ?_, ?_⟩
    · have hgroup : (actOnEnables s after).group g = after.group g :=
        congrArg (Bank.get · g) (callFrame_actOnEnables s after).groups
      rw [complete_group]
      exact congrArg GroupRec.enable (hgroup.trans ((s.setGroupEnable_group g g false).trans (if_pos rfl)))
    · have hself := actOnEnables_off s after (hoff' i hi).1 (hoff' i hi).2
      have hcall : (after.line i).state.calling = true := (LineState.calling_iff _).mpr hstate
      obtain ⟨h1, h2, h3, h4, h5⟩ := hself.call hcall
      rw [complete_line, complete_checkQueue]
      exact ⟨h1, h2, h3, h4, h5, actOnEnables_checkQueue s after (hoff' i hi).1 (hoff' i hi).2 hcall⟩
    · have hself := actOnEnables_off s after (hoff' i hi).1 (hoff' i hi).2
      obtain ⟨h1, h2, h3⟩ := hself.2.1 x hstate hx ho
      rw [complete_line, complete_session]
      exact ⟨h1, h2, h3⟩
    · rw [complete_session]
      exact (actOnEnables_other s after (by rw [hoff i, decide_eq_false hi])).session
    · rw [complete_input]; exact hin
    · rw [complete_engine]; exact hwork
    · rw [complete_accounts]; exact (callFrame_actOnEnables s after).accounts

end Sys2Proof.Machine
end

section
/-! PROOFS. RESTART (R165): the records it writes, and the state in which its statement fails. -/

namespace Sys2Proof.Machine

/-! ### The billing store at a RESTART -/

theorem State.lineFrame.records {s t : State} (h : s.lineFrame t) : t.billing.records = s.billing.records := by
  unfold State.lineFrame at h; rw [h]

@[simp] theorem complete_billing (p : PortId) (st : Status) (cl : Bool) (f : List Word) (s : State) :
    (complete p st cl f s).billing = s.billing := by rw [complete_eq]; cases p <;> rfl

theorem lineFrame_restartLine (i : LineId) (s : State) : s.lineFrame (restartLine i s) := by
  cases h : (s.line i).state <;> simp only [restartLine, h]
  case ringing | answering | speed | signOn | session | closing => exact lineFrame_enterHangup s i
  case test => rw [leaveTest_eq]; exact lineFrame_setLine s i _
  case disabled | idle | busied | hangup | faulted => exact .refl s

theorem clearTransport_billing (s : State) : (clearTransport s).billing = s.billing := rfl

/-- RESTART's line work writes no billing record (R27, R47). -/
theorem restartLineWork_records (s : State) : (restartLineWork s).billing.records = s.billing.records := by
  unfold restartLineWork
  extract_lets testing watch u v w
  have hv : v.billing.records = u.billing.records := by
    rw [clearTransport_billing]; exact (lineFrame_forLines lineFrame_restartLine u).records
  have hw : w.billing = v.billing := by
    show (if testing then refuse .t .restarted v else v).billing = _
    split
    · exact complete_billing _ _ _ _ v
    · rfl
  show w.billing.records = u.billing.records
  rw [hw, hv]

/-- The completion of RESTART writes no billing record (R196). -/
theorem completeRestart_records (p : PortId) (n : Nat) (s : State) :
    (completeRestart p n s).billing.records = s.billing.records := by
  have hwatch : ∀ u : State, (startWatchTimer u).billing = u.billing := fun u => by
    unfold startWatchTimer; split <;> rfl
  rw [completeRestart, hwatch]
  show (completeOk p [w16 n] s).billing.records = _
  rw [completeOk, complete_billing]

/-- With no session open a command that closes sessions closes none (R147). -/
theorem closeMatching_none_open {r : CloseReason} {covers : Session → Bool} {s : State}
    (h : ∀ i, s.openSession i = none) : closeMatching r covers s = (s, 0) := by
  have hfold : ∀ l : List LineId, l.foldl
      (fun acc i =>
        match acc.1.openSession i with
        | some x => if covers x then (closeNow r i acc.1, acc.2 + 1) else acc
        | none => acc) (s, 0) = (s, 0) := by
    intro l
    induction l with
    | nil => rfl
    | cons i l ih => rw [List.foldl_cons, h i]; exact ih
  exact hfold allLines

theorem commandAccess_restart (p q : PortId) (s : State) : commandAccess p (.restart q) s = workRestart p s := rfl

/-- Where the account work that was PENDING leaves no session open, RESTART writes the records of that work alone. -/
theorem workRestart_records {p : PortId} {s : State} (h : ∀ i, (serveCloseWork s).openSession i = none) :
    (workRestart p s).billing.records = (serveCloseWork s).billing.records := by
  rw [workRestart, closeMatching_none_open h, completeRestart_records, restartLineWork_records]

/-! ### A RESTART that finds an open session with account work PENDING

The statement of RESTART assumes `lineLaw`, which does not say that account work is PENDING only where the close decision
has been reached (that is part of `openCountLaw`). In a state with an open session whose account work is PENDING, RESTART
makes that work first and takes the line to HANGUP (R146), so the session is neither counted nor billed a second time,
where the statement counts it both as pending and as open. -/

/-- A METERED session whose account work is PENDING. -/
def meteredPending : Session :=
  { serial := 1, user := 1, cls := 0, state := .metered, heldFrom := none, openStamp := ⟨0, 1, 1, 0, 0, 0⟩
    closeReason := none, closeStamp := none, work := some .pending, rate := 0, residue := 0, connectSeconds := 0
    heldSeconds := 0, lastMetered := ⟨0, 1, 1, 0, 0, 0⟩, connectUnits := 0, setupUnits := 0, resourceUnits := 0
    unpostedUnits := 0, unpostedSeconds := 0, grace := none, idleSeconds := 0, activity := false, fundsWarned := false
    idleWarned := false, clockSet := false, late := false, saturated := false, bornTick := 0 }

/-- Line 0 in SESSION with it. -/
def meteredPendingLine : LineRec := { LineRec.initial with state := .session, session := some meteredPending, reserved := true }

/-- The part after reset with that session on line 0, its account work asked for, and a RESTART at the T port that holds the
grant. -/
def restartOverPending : State :=
  { State.reset.setLine 0 meteredPendingLine with
    tPort := { PortUnit.initial with
      starting := false, state := .busy, job := some ⟨.waiting, .restart .t⟩ }
    arbiter := { Arbiter.initial with grant := some (.unit .t) }
    engine := { Engine.initial with closeWork := [0] }
    billing := { Billing.initial with reservations := 1 } }

theorem restartOverPending_grantedNext : restartOverPending.grantedNext .t (.restart .t) := by
  refine ⟨⟨rfl, rfl⟩, rfl, rfl, rfl⟩

theorem LineRec.initial_shaped : LineRec.initial.shaped := by
  simp [LineRec.shaped, LineRec.initial]

theorem meteredPendingLine_shaped : meteredPendingLine.shaped := by
  simp [LineRec.shaped, LineRec.initial, meteredPendingLine]

theorem restartOverPending_lineLaw : restartOverPending.lineLaw := by
  intro _ i
  by_cases h : i = 0
  · subst h; exact meteredPendingLine_shaped
  · have : restartOverPending.line i = LineRec.initial :=
      (State.reset.line_setLine_ne _ (Ne.symm h)).trans (Bank.get_replicate 32 _ i)
    rw [this]; exact LineRec.initial_shaped

/-- The account work PENDING writes one record, and no session is open after it. -/
theorem restartOverPending_served :
    (serveCloseWork restartOverPending).billing.records.length = 1 ∧
      ∀ i, (serveCloseWork restartOverPending).openSession i = none := by decide

/-- Refutes O52: in the state `restartOverPending` the statement asks for two records, for the account work PENDING and for
the open session of one and the same session part; RESTART writes one. -/
theorem not_restartClosesEverything : ¬ Obligations.RestartClosesEverything := by
  intro h
  obtain ⟨n, t, hexec, hrest⟩ := h .t restartOverPending restartOverPending_grantedNext restartOverPending_lineLaw
  have ht : t = giveBack (commandAccess .t (.restart .t) restartOverPending) := by
    have hrun : exec (.restart .t) restartOverPending =
        .next (giveBack (commandAccess .t (.restart .t) (granted (.unit .t) restartOverPending))) :=
      congrArg Host.Outcome.next (give_grantedNext restartOverPending_grantedNext)
    rw [granted_held rfl] at hrun
    exact Host.Outcome.next.inj (hexec.symm.trans hrun)
  obtain ⟨-, -, -, -, -, -, -, -, -, -, -, -, -, -, -, -, -, -, -, -, -, -, -, hcount⟩ := hrest
  obtain ⟨-, hrecords, -⟩ := hcount (by intro c; exact congrArg ClassRec.rounding (Bank.get_replicate 4 _ c))
  obtain ⟨hone, hnone⟩ := restartOverPending_served
  have hwork : (commandAccess .t (.restart .t) restartOverPending).billing.records =
      (serveCloseWork restartOverPending).billing.records := by
    rw [commandAccess_restart, workRestart_records hnone]
  rw [ht, giveBack_billing, hwork, hone] at hrecords
  exact absurd hrecords (by decide)

end Sys2Proof.Machine
end

section
/-! PROOFS. The law of the input queue (R30). The sum of the entries queued and the open sessions is the load of the
queue: first what each shared operation on lines, accounts, the table and the ports does to it. -/

namespace Sys2Proof.Machine

/-! ### The load of the input queue -/

/-- An open session stands on the line: S of R29 counts these lines. -/
def LineRec.opened (l : LineRec) : Bool := l.session.any (·.state.isOpen)

/-- The entries queued, and one for each open session, whose CLOSE mark is still to come (R30). -/
def State.inputLoad (s : State) : Nat := s.input.length + s.openCount

/-- The input queue is no more loaded in the second state than in the first. -/
structure State.noFuller (s t : State) : Prop where
  le : t.inputLoad ≤ s.inputLoad

theorem State.inputLaw_iff (s : State) : s.inputLaw ↔ s.inputLoad ≤ 256 := Iff.rfl

theorem State.openSession_isSome (s : State) (i : LineId) : (s.openSession i).isSome = (s.line i).opened := by
  unfold State.openSession State.session LineRec.opened
  cases (s.line i).session with
  | none => rfl
  | some x => cases h : x.state.isOpen <;> simp [h, Option.filter]

theorem State.openCount_eq (s : State) : s.openCount = allLines.countP fun i => (s.line i).opened := by
  simp only [State.openCount, State.openSession_isSome]

theorem State.openCount_le (s : State) : s.openCount ≤ 32 := List.countP_le_length

theorem State.inputLaw_of_empty {s : State} (h : s.input = []) : s.inputLaw := by
  have := s.openCount_le
  rw [State.inputLaw_iff, State.inputLoad, h]
  simp only [List.length_nil]
  omega

theorem State.noFuller.refl (s : State) : s.noFuller s := ⟨Nat.le_refl _⟩

theorem State.noFuller.trans {s t u : State} (h : s.noFuller t) (k : t.noFuller u) : s.noFuller u :=
  ⟨Nat.le_trans k.le h.le⟩

theorem State.noFuller.inputLaw {s t : State} (h : s.noFuller t) (hs : s.inputLaw) : t.inputLaw := Nat.le_trans h.le hs

theorem noFuller_ite {s t u : State} {c : Prop} [Decidable c] (ht : s.noFuller t) (hu : s.noFuller u) :
    s.noFuller (if c then t else u) := by split <;> assumption

theorem noFuller_fold {α : Type} {f : State → α → State} (hf : ∀ (s : State) a, s.noFuller (f s a)) (l : List α)
    (s : State) : s.noFuller (l.foldl f s) := by
  induction l generalizing s with
  | nil => exact .refl s
  | cons a l ih => exact (hf s a).trans (ih _)

theorem noFuller_forLines {f : LineId → State → State} (hf : ∀ i (s : State), s.noFuller (f i s)) (s : State) :
    s.noFuller (s.forLines f) := noFuller_fold (fun s i => hf i s) _ s

/-- No entry joins the queue and no session is opened. -/
theorem noFuller_of_lines {s t : State} (hi : t.input.length ≤ s.input.length)
    (hl : ∀ i, (t.line i).opened = true → (s.line i).opened = true) : s.noFuller t := by
  refine ⟨?_⟩
  unfold State.inputLoad
  rw [State.openCount_eq, State.openCount_eq]
  exact Nat.add_le_add hi (List.countP_mono_left fun i _ => hl i)

/-- A change beside the lines and the queue. -/
theorem noFuller_beside {s t : State} (hl : t.lines = s.lines) (hi : t.input = s.input) : s.noFuller t :=
  noFuller_of_lines (by rw [hi]) fun i h => by rwa [State.line, hl] at h

theorem State.noFuller.beside {s t u : State} (h : s.noFuller t) (hl : u.lines = t.lines) (hi : u.input = t.input) :
    s.noFuller u := h.trans (noFuller_beside hl hi)

theorem State.noFuller.ofBeside {s t u : State} (h : t.noFuller u) (hl : t.lines = s.lines) (hi : t.input = s.input) :
    s.noFuller u := (noFuller_beside hl hi).trans h

theorem noFuller_modLine (s : State) (i : LineId) {f : LineRec → LineRec}
    (h : (f (s.line i)).opened = true → (s.line i).opened = true) : s.noFuller (s.modLine i f) := by
  refine noFuller_of_lines (Nat.le_refl _) fun j hj => ?_
  by_cases e : i = j
  · subst e; exact h (by rwa [State.line_modLine] at hj)
  · rwa [State.line_modLine_ne _ _ e] at hj

/-- A change of a line that keeps its session part. -/
theorem noFuller_keepSession (s : State) (i : LineId) {f : LineRec → LineRec}
    (h : (f (s.line i)).session = (s.line i).session) : s.noFuller (s.modLine i f) :=
  noFuller_modLine s i (by rw [LineRec.opened, h]; exact id)

theorem noFuller_mapLines (s : State) {f : LineId → LineRec → LineRec}
    (h : ∀ i, (f i (s.line i)).opened = true → (s.line i).opened = true) : s.noFuller (s.mapLines f) :=
  noFuller_of_lines (Nat.le_refl _) fun i hi => h i (by rwa [State.line_mapLines] at hi)

theorem LineRec.opened_map {l : LineRec} {f : Session → Session}
    (h : ∀ x, l.session = some x → (f x).state.isOpen = true → x.state.isOpen = true)
    (ho : ({ l with session := l.session.map f } : LineRec).opened = true) : l.opened = true := by
  unfold LineRec.opened at *
  cases e : l.session with
  | none => simp [e] at ho
  | some x => exact h x e (by simpa [e] using ho)

theorem noFuller_modSession (s : State) (i : LineId) {f : Session → Session}
    (h : ∀ x, s.session i = some x → (f x).state.isOpen = true → x.state.isOpen = true) :
    s.noFuller (s.modSession i f) := noFuller_modLine s i (LineRec.opened_map h)

/-- A change of a session part that keeps its state. -/
theorem noFuller_keepState (s : State) (i : LineId) (f : Session → Session) (h : ∀ x, (f x).state = x.state) :
    s.noFuller (s.modSession i f) := noFuller_modSession s i fun x _ hx => by rwa [h] at hx

theorem noFuller_mapSessions (s : State) {f : LineId → Session → Session}
    (h : ∀ i x, s.session i = some x → (f i x).state.isOpen = true → x.state.isOpen = true) :
    s.noFuller (s.mapSessions f) := noFuller_mapLines s fun i => LineRec.opened_map (h i)

/-- Where one line alone has changed, the open count has changed by that line. -/
theorem openCount_change {s t : State} {i : LineId} (h : s.sameLinesBut t i) :
    t.openCount + (s.line i).opened.toNat = s.openCount + (t.line i).opened.toNat := by
  have hperm : allLines.Perm (i :: allLines.erase i) := List.perm_cons_erase (mem_allLines i)
  have hrest : (allLines.erase i).countP (fun j => (t.line j).opened) =
      (allLines.erase i).countP (fun j => (s.line j).opened) := by
    refine List.countP_congr fun j hj => ?_
    rw [h j fun e => allLines_nodup.not_mem_erase (e ▸ hj)]
  rw [State.openCount_eq, State.openCount_eq, hperm.countP_eq, hperm.countP_eq, List.countP_cons, List.countP_cons,
    hrest]
  cases (s.line i).opened <;> cases (t.line i).opened <;> simp

/-! ### Latches, ports and the table -/

theorem noFuller_modPort (s : State) (p : PortId) (f : PortUnit → PortUnit) : s.noFuller (s.modPort p f) :=
  noFuller_beside (s.modPort_lines p f) (s.modPort_input p f)

theorem noFuller_setPort (s : State) (p : PortId) (u : PortUnit) : s.noFuller (s.setPort p u) :=
  noFuller_beside (s.setPort_lines p u) (s.setPort_input p u)

theorem noFuller_latchT (s : State) (c : TCause) : s.noFuller (latchT c s) := noFuller_modPort s .t _
theorem noFuller_latchA (s : State) (c : ACause) : s.noFuller (latchA c s) := noFuller_modPort s .a _

theorem noFuller_latchCollision (s : State) (p : PortId) : s.noFuller (latchCollision p s) := noFuller_modPort s p _

theorem noFuller_complete (s : State) (p : PortId) (st : Status) (cl : Bool) (f : List Word) :
    s.noFuller (complete p st cl f s) := by
  rw [complete_eq]
  exact noFuller_beside (s.setPort_lines p _) (s.setPort_input p _)

theorem noFuller_refuse (s : State) (p : PortId) (st : Status) : s.noFuller (refuse p st s) :=
  noFuller_complete s p st false []

theorem noFuller_startWatchTimer (s : State) : s.noFuller (startWatchTimer s) :=
  noFuller_ite (noFuller_beside rfl rfl) (.refl s)

theorem noFuller_arbitrate (s : State) : s.noFuller (arbitrate s) := by
  rw [arbitrate_eq]; exact noFuller_beside rfl rfl

theorem noFuller_granted (c : Client) (s : State) : s.noFuller (granted c s) := by
  rw [granted_eq]; exact noFuller_beside rfl rfl

theorem noFuller_takeInstall (x : Install) (s : State) : s.noFuller (takeInstall x s) := by
  rw [takeInstall_eq]; exact noFuller_beside rfl rfl

theorem noFuller_settleRelease (s : State) : s.noFuller (settleRelease s) := by
  rw [settleRelease_eq]; exact noFuller_beside rfl rfl

theorem noFuller_beginRelease (s : State) : s.noFuller (beginRelease s) := by
  rw [beginRelease_eq]; exact noFuller_beside rfl rfl

theorem noFuller_limitOver (s : State) : s.noFuller (limitOver s) := by
  rw [limitOver_eq]; exact noFuller_beside rfl rfl

theorem noFuller_giveBack (s : State) : s.noFuller (giveBack s) := by
  rw [giveBack_eq]; exact noFuller_beside rfl rfl

theorem noFuller_modAccount (s : State) (user : Nat) (f : Account → Account) : s.noFuller (s.modAccount user f) :=
  noFuller_beside rfl rfl

/-! ### Lines that rest or hang up -/

theorem noFuller_rejudge (s : State) : s.noFuller (rejudge s) :=
  noFuller_mapLines s fun i h => by rwa [LineRec.opened, LineRec.rejudge_session] at h

theorem noFuller_goRest (i : LineId) (s : State) : s.noFuller (goRest i s) := noFuller_keepSession s i rfl

theorem noFuller_dropReservation (i : LineId) (s : State) : s.noFuller (dropReservation i s) := by
  unfold dropReservation
  split
  · exact (noFuller_keepSession s i (f := fun l => { l with reserved := false }) rfl).trans (noFuller_beside rfl rfl)
  · exact .refl s

theorem noFuller_quitCheckQueue (i : LineId) (s : State) : s.noFuller (quitCheckQueue i s) := noFuller_beside rfl rfl

theorem noFuller_leaveCheckQueue (i : LineId) (s : State) : s.noFuller (leaveCheckQueue i s) := noFuller_beside rfl rfl

theorem noFuller_enterHangup (i : LineId) (s : State) : s.noFuller (enterHangup i s) :=
  ((noFuller_dropReservation i s).trans (noFuller_quitCheckQueue i _)).trans
    (noFuller_modLine _ i fun h => absurd h (by simp [LineRec.opened, LineRec.hungUp]))

theorem noFuller_hangup (i : LineId) (s : State) : s.noFuller (hangup i s) :=
  (noFuller_enterHangup i s).trans (noFuller_rejudge _)

/-! ### The transmitter -/

theorem noFuller_idleEvent (i : LineId) (s : State) : s.noFuller (idleEvent i s) :=
  noFuller_keepState s i _ fun _ => rfl

theorem noFuller_takeBuffered (i : LineId) (c : Byte) (rest : List Byte) (s : State) :
    s.noFuller (takeBuffered i c rest s) := by
  unfold takeBuffered
  extract_lets joins s1 s2
  have h1 : s.noFuller s1 := noFuller_keepSession s i rfl
  have h2 : s.noFuller s2 := noFuller_ite (h1.trans (noFuller_latchT _ _)) h1
  exact noFuller_ite (h2.trans (noFuller_idleEvent i _)) h2

theorem noFuller_chooseSession (i : LineId) (s : State) : s.noFuller (chooseSession i s) := by
  unfold chooseSession
  split
  · exact noFuller_keepSession s i rfl
  · split
    · exact noFuller_keepSession s i rfl
    · split
      · exact noFuller_takeBuffered i _ _ s
      · exact noFuller_keepSession s i rfl

theorem noFuller_endClosing (i : LineId) (s : State) : s.noFuller (endClosing i s) :=
  noFuller_ite (.refl s) (noFuller_hangup i s)

theorem noFuller_chooseClosing (i : LineId) (s : State) : s.noFuller (chooseClosing i s) := by
  unfold chooseClosing
  split
  · exact noFuller_keepSession s i rfl
  · split
    · exact noFuller_keepSession s i rfl
    · split
      · exact noFuller_keepSession s i rfl
      · exact (noFuller_keepSession s i rfl).trans (noFuller_endClosing i _)

theorem noFuller_chooseSignOn (i : LineId) (s : State) : s.noFuller (chooseSignOn i s) := by
  unfold chooseSignOn
  split
  · exact noFuller_keepSession s i rfl
  · extract_lets next s1
    have h1 : s.noFuller s1 := noFuller_keepSession s i rfl
    exact noFuller_ite (h1.trans (noFuller_hangup i _)) h1

theorem noFuller_choose (i : LineId) (s : State) : s.noFuller (choose i s) := by
  unfold choose
  split
  · exact noFuller_chooseSignOn i s
  · exact noFuller_chooseSession i s
  · exact noFuller_chooseClosing i s
  · unfold chooseTest; split <;> exact noFuller_keepSession s i rfl
  all_goals exact noFuller_keepSession s i rfl

theorem noFuller_kick (i : LineId) (s : State) : s.noFuller (kick i s) := noFuller_ite (.refl s) (noFuller_choose i s)

theorem noFuller_requestMessage (i : LineId) (k : Nat) (s : State) : s.noFuller (requestMessage i k s) :=
  (noFuller_keepSession s i (by unfold LineRec.request; split <;> rfl)).trans (noFuller_kick i _)

theorem noFuller_enterClosing (i : LineId) (s : State) : s.noFuller (enterClosing i s) :=
  (noFuller_keepSession s i rfl).trans (noFuller_kick i _)

/-! ### Close decisions -/

theorem placeInput_input (e : InputEntry) (s : State) : (placeInput e s).input = s.input ++ [e] := by
  simp [placeInput, latchT]

theorem placeInput_lines (e : InputEntry) (s : State) : (placeInput e s).lines = s.lines := by
  simp [placeInput, latchT]

theorem placeInput_load (e : InputEntry) (s : State) : (placeInput e s).inputLoad = s.inputLoad + 1 := by
  have h : (placeInput e s).openCount = s.openCount := by
    simp only [State.openCount_eq, State.line, placeInput_lines]
  rw [State.inputLoad, State.inputLoad, placeInput_input, h, List.length_append, List.length_singleton]
  omega

/-- A session that closes leaves room for one entry. -/
theorem closed_load {s : State} {i : LineId} {x : Session} (h : s.openSession i = some x) (r : CloseReason)
    (t : Stamp) :
    (s.modSession i (Session.closed r t)).inputLoad + 1 = s.inputLoad := by
  obtain ⟨hx, ho⟩ := (s.openSession_iff i x).mp h
  have hcount := openCount_change (s := s) (t := s.modSession i (Session.closed r t))
    (State.sameLinesBut_setLine s i _)
  have hbefore : (s.line i).opened = true := by simp [LineRec.opened, hx, ho]
  have hafter : ((s.modSession i (Session.closed r t)).line i).opened = false := by
    simp [State.modSession, LineRec.opened, hx, Session.closed, SessionState.isOpen]
  rw [hbefore, hafter] at hcount
  show s.input.length + _ + 1 = s.input.length + _
  simp only [Bool.toNat_true, Bool.toNat_false] at hcount
  omega

theorem LineRec.settleOutput_session (r : CloseReason) (l : LineRec) : (l.settleOutput r).session = l.session := by
  unfold LineRec.settleOutput; dsimp only; split <;> rfl

/-- The CLOSE mark takes the place that its session leaves (R30). -/
theorem noFuller_closeDecision (r : CloseReason) (t : Stamp) (i : LineId) (s : State) :
    s.noFuller (closeDecision r t i s) := by
  unfold closeDecision
  split
  · next x h =>
    extract_lets s1 s2
    have h1 : s1.inputLoad + 1 = s.inputLoad := closed_load h r t
    have h2 : s.noFuller s2 := by
      unfold s2
      split
      · exact ⟨by rw [placeInput_load, h1]⟩
      · exact ⟨by omega⟩
    exact h2.trans (noFuller_keepSession s2 i (LineRec.settleOutput_session r _))
  · exact .refl s

theorem noFuller_writeRecord (r : Nat → BillingRecord) (s : State) : s.noFuller (writeRecord r s) := by
  unfold writeRecord
  extract_lets b s1 s2
  have h2 : s.noFuller s2 := (noFuller_beside rfl rfl : s.noFuller s1).trans (noFuller_latchA s1 _)
  exact noFuller_ite (h2.trans (noFuller_latchA s2 _)) h2

theorem addStated_lines (k : Config.Unstated) (x y : Nat) (s : State) : (addStated k x y s).2.lines = s.lines := by
  unfold addStated; split <;> rfl

theorem addStated_input (k : Config.Unstated) (x y : Nat) (s : State) : (addStated k x y s).2.input = s.input := by
  unfold addStated; split <;> rfl

theorem noFuller_addStated (k : Config.Unstated) (x y : Nat) (s : State) : s.noFuller (addStated k x y s).2 :=
  noFuller_beside (addStated_lines k x y s) (addStated_input k x y s)

theorem divertClose_lines (x : Session) (s : State) : (divertClose x s).lines = s.lines := by
  unfold divertClose; dsimp only; split <;> split <;> rfl

theorem divertClose_input (x : Session) (s : State) : (divertClose x s).input = s.input := by
  unfold divertClose; dsimp only; split <;> split <;> rfl

theorem Session.addUnposted_state (x : Session) (u : Nat) : (x.addUnposted u).state = x.state := by
  unfold Session.addUnposted; split <;> rfl

/-- The session part of line i is replaced by one that is open only if it was. -/
theorem noFuller_replaceSession {s t : State} {i : LineId} {x y : Session} (ht : t.lines = s.lines)
    (hx : s.session i = some x) (hy : y.state = x.state) : t.noFuller (t.modSession i fun _ => y) := by
  refine noFuller_modSession t i fun z hz ho => ?_
  have : s.session i = some z := by rwa [State.session, State.line, ht] at hz
  rw [hx] at this
  cases this
  rwa [hy] at ho

/-- The account work of a close, given what the posting it may make does to the load. -/
theorem noFuller_accountWork {post : Nat → Nat → State → State}
    (hp : ∀ (user u : Nat) (s : State), s.noFuller (post user u s)) (i : LineId) (s : State) :
    s.noFuller (accountWork post i s) := by
  unfold accountWork
  split
  · exact .refl s
  · next x hx =>
    extract_lets up cu s1 x1 x2 kept s2 s3 s4 s5
    have hl1 : s1.lines = s.lines ∧ s1.input = s.input := by
      unfold s1 cu
      split
      · exact ⟨addStated_lines .., addStated_input ..⟩
      · exact ⟨rfl, rfl⟩
    have hl2 : s2.lines = s.lines ∧ s2.input = s.input := by
      unfold s2
      split
      · rw [divertClose_lines, divertClose_input]; exact hl1
      · exact hl1
    have hstate : kept.state = x.state := by
      have h2 : x2.state = x.state := by
        unfold x2
        split
        · exact Session.addUnposted_state x1 1
        · rfl
      unfold kept
      split <;> exact h2
    have h3 : s.noFuller s3 := (noFuller_beside hl2.1 hl2.2).trans (noFuller_replaceSession hl2.1 hx hstate)
    have h5 : s.noFuller s5 := ((h3.trans (noFuller_writeRecord _ _)).trans (noFuller_dropReservation i _)).trans
      (noFuller_modAccount _ _ _)
    exact noFuller_ite (h5.trans (hp _ _ _)) h5

theorem noFuller_closeInAccess {post : Nat → Nat → State → State}
    (hp : ∀ (user u : Nat) (s : State), s.noFuller (post user u s)) (r : CloseReason) (i : LineId) (s : State) :
    s.noFuller (closeInAccess post r i s) := by
  unfold closeInAccess
  split
  · exact .refl s
  · have h := (noFuller_closeDecision r s.clock.stamp i s).trans (noFuller_accountWork hp i _)
    exact noFuller_ite (h.trans (noFuller_enterClosing i _)) h

/-! ### Postings -/

theorem State.mem_exhaustedLines {s : State} {user : Nat} {i : LineId} {x : Session}
    (hi : (s.exhaustedLines user).contains i = true) (hx : s.session i = some x) : x.state = .metered := by
  have : i ∈ s.exhaustedLines user := List.contains_iff_mem.mp hi
  simp only [State.exhaustedLines, List.mem_filter, hx, Option.any_some, Bool.and_eq_true, beq_iff_eq] at this
  exact this.2.1.1

/-- A METERED session that enters GRACE was open, and stays so (R87). -/
theorem noFuller_exhaust (user : Nat) (s : State) : s.noFuller (exhaust user s) :=
  noFuller_mapSessions s fun i x hx h => by
    split at h
    · next hi => rw [State.mem_exhaustedLines hi hx]; rfl
    · exact h

theorem noFuller_fundsWarning (spared : List LineId) (user : Nat) (s : State) :
    s.noFuller (fundsWarning spared user s) := by
  refine noFuller_forLines (fun i s => ?_) s
  unfold warnLine
  split
  · exact noFuller_ite
      ((noFuller_keepState s i (fun x => { x with fundsWarned := true }) fun _ => rfl).trans
        (noFuller_requestMessage i 9 _)) (.refl s)
  · exact .refl s

theorem noFuller_postLevels (n : Nat) (spared : List LineId) (user u : Nat) (s : State) :
    s.noFuller (postLevels n spared user u s) := by
  induction n generalizing spared user u s with
  | zero => exact (noFuller_modAccount s user _).trans (noFuller_fundsWarning spared user _)
  | succ n ih =>
    unfold postLevels
    split
    · exact .refl s
    · extract_lets s1 zero close
      have h : s.noFuller (exhaust user s1) := (noFuller_modAccount s user _).trans (noFuller_exhaust user s1)
      exact (h.trans (noFuller_fold (fun s i => noFuller_closeInAccess (ih _) .funds i s) _ _)).trans
        (noFuller_fundsWarning spared user _)

theorem noFuller_post (user u : Nat) (s : State) : s.noFuller (post user u s) := noFuller_postLevels 33 [] user u s

theorem noFuller_closeNow (r : CloseReason) (i : LineId) (s : State) : s.noFuller (closeNow r i s) :=
  noFuller_closeInAccess noFuller_post r i s

theorem noFuller_closeOutside (r : CloseReason) (i : LineId) (s : State) : s.noFuller (closeOutside r i s) := by
  unfold closeOutside
  split
  · exact .refl s
  · extract_lets s1 s2 e s3
    have h2 : s.noFuller s2 := (noFuller_closeDecision r s.clock.stamp i s).trans
      (noFuller_keepState s1 i _ fun _ => rfl)
    have h3 : s.noFuller s3 := h2.trans (noFuller_beside rfl rfl)
    exact noFuller_ite (h3.trans (noFuller_enterClosing i _)) h3

theorem State.relieve_isOpen (s : State) (x : Session) : (s.relieve x).state.isOpen = x.state.isOpen := by
  unfold State.relieve
  split
  · rfl
  · split
    · next h => rw [beq_iff_eq.mp h]; rfl
    · split <;> rfl

theorem noFuller_creditPosting (user u : Nat) (s : State) : s.noFuller (creditPosting user u s) :=
  (noFuller_modAccount s user _).trans (noFuller_mapSessions _ fun i x _ h => by
    split at h
    · rwa [State.relieve_isOpen] at h
    · exact h)

/-- The sessions that a command closes in its access. -/
theorem noFuller_closeMatching (r : CloseReason) (covers : Session → Bool) (s : State) :
    s.noFuller (closeMatching r covers s).1 := by
  unfold closeMatching
  refine List.foldlRecOn (motive := fun acc : State × Nat => s.noFuller acc.1) _ _ (.refl s) fun acc h i _ => ?_
  split
  · split
    · exact h.trans (noFuller_closeNow r i _)
    · exact h
  · exact h

end Sys2Proof.Machine
end

section
/-! PROOFS. The law of the input queue (R30): what passes, the watch, lines and commands do to the load of the queue. -/

namespace Sys2Proof.Machine

/-! ### Metering -/

theorem noFuller_chargeSecond (i : LineId) (t : Stamp) (s : State) : s.noFuller (chargeSecond i t s) := by
  unfold chargeSecond
  split
  · exact .refl s
  · next x hx =>
    extract_lets total u cs cu s1 x1 y s2 s3
    have hl : s1.lines = s.lines := (addStated_lines _ _ _ cs.2).trans (addStated_lines _ _ _ s)
    have h1 : s.noFuller s1 := (noFuller_addStated _ _ _ s).trans (noFuller_addStated _ _ _ cs.2)
    refine noFuller_ite (h1.trans (noFuller_replaceSession hl hx (Session.addUnposted_state x1 u))) ?_
    have h2 : s.noFuller s2 := h1.trans (noFuller_replaceSession hl hx rfl)
    exact (h2.trans (noFuller_modAccount s2 _ _)).trans (noFuller_post _ _ s3)

theorem Session.countIdle_state (x : Session) : x.countIdle.state = x.state := by
  unfold Session.countIdle; split <;> rfl

theorem noFuller_judgeIdle (i : LineId) (s : State) : s.noFuller (judgeIdle i s).1 := by
  unfold judgeIdle
  split
  · exact .refl s
  · next x hx =>
    extract_lets x1 s1 c
    have h1 : s.noFuller s1 :=
      noFuller_replaceSession rfl ((s.openSession_iff i x).mp hx).1 (Session.countIdle_state x)
    split
    · exact h1.trans (noFuller_closeNow _ i s1)
    · split
      · exact (h1.trans (noFuller_keepState s1 i (fun x => { x with idleWarned := true }) fun _ => rfl)).trans
          (noFuller_requestMessage i 11 _)
      · exact h1

theorem noFuller_countGrace (i : LineId) (s : State) : s.noFuller (countGrace i s).1 := by
  unfold countGrace
  split
  · exact .refl s
  · extract_lets g s1
    have h1 : s.noFuller s1 := noFuller_keepState s i _ fun _ => rfl
    split
    · exact h1.trans (noFuller_closeNow _ i s1)
    · exact h1

theorem noFuller_recompute (i : LineId) (t : Tick) (s : State) : s.noFuller (recompute i t s) := by
  unfold recompute
  split
  · exact noFuller_ite (noFuller_keepState s i _ fun _ => rfl) (.refl s)
  · exact .refl s

theorem noFuller_passAccess (i : LineId) (t : Tick) (s : State) : s.noFuller (passAccess i t s).1 := by
  unfold passAccess
  extract_lets inGrace s1 j g
  have h1 : s.noFuller j.1 := (noFuller_chargeSecond i t.value.stamp s).trans (noFuller_judgeIdle i s1)
  have hg : s.noFuller g.1 := by
    unfold g
    split
    · exact h1.trans (noFuller_countGrace i _)
    · exact h1
  exact hg.trans (noFuller_recompute i t _)

theorem noFuller_heldSecond (i : LineId) (s : State) : s.noFuller (heldSecond i s) := by
  unfold heldSecond
  split
  · exact .refl s
  · exact (noFuller_addStated _ _ _ s).trans (noFuller_keepState _ i _ fun _ => rfl)

theorem noFuller_visitLines (t : Tick) (l : List LineId) (s : State) : s.noFuller (visitLines t l s) := by
  induction l generalizing s with
  | nil => exact noFuller_beside rfl rfl
  | cons i l ih =>
    unfold visitLines
    split
    · split
      · exact noFuller_beside rfl rfl
      · split
        · exact (noFuller_heldSecond i s).trans (ih _)
        · exact ih s
    · exact ih s

theorem noFuller_endPass (s : State) : s.noFuller (endPass s) := noFuller_ite (noFuller_beside rfl rfl) (.refl s)

theorem noFuller_visit (s : State) : s.noFuller (visit s) := by
  unfold visit
  split
  · exact .refl s
  · next p _ => exact (noFuller_visitLines p.tick _ s).trans (noFuller_endPass _)

theorem noFuller_startPass (t : Tick) (s : State) : s.noFuller (startPass t s) :=
  (noFuller_visit _).ofBeside rfl rfl

theorem noFuller_startRemembered (s : State) : s.noFuller (startRemembered s) := by
  unfold startRemembered
  split
  · exact noFuller_ite (.refl s) ((noFuller_startPass _ _).ofBeside rfl rfl)
  · exact .refl s

theorem noFuller_passOn (s : State) : s.noFuller (passOn s) :=
  ((noFuller_visit s).trans (noFuller_startRemembered _)).trans (noFuller_settleRelease _)

theorem noFuller_takeTick (s : State) : s.noFuller (takeTick s) := by
  unfold takeTick
  extract_lets t e s1
  have h1 : s.noFuller s1 := noFuller_beside rfl rfl
  have hlose : s1.noFuller (loseTick s1) := noFuller_mapSessions s1 fun i x _ h => by split at h <;> exact h
  exact noFuller_ite (h1.trans hlose) (noFuller_ite (h1.beside rfl rfl) (h1.trans (noFuller_startPass t s1)))

theorem noFuller_clockTick (s : State) : s.noFuller (clockTick s) :=
  noFuller_ite (((noFuller_passOn s).beside (u := advanceClock (passOn s)) rfl rfl).trans (noFuller_takeTick _))
    (noFuller_beside rfl rfl)

theorem noFuller_payDueList (s : State) : s.noFuller (payDueList s) := by
  unfold payDueList
  extract_lets s1
  have h1 : s.noFuller s1 := noFuller_fold (fun s (e : DueEntry) => noFuller_modAccount s e.user _) _ s
  exact h1.beside rfl rfl

theorem noFuller_payUnpostedSeconds (i : LineId) (s : State) : s.noFuller (payUnpostedSeconds i s) := by
  unfold payUnpostedSeconds
  split
  · exact .refl s
  · exact (noFuller_modAccount s _ _).trans (noFuller_keepState _ i _ fun _ => rfl)

theorem noFuller_payDue (s : State) : s.noFuller (payDue s) := by
  unfold payDue
  extract_lets s1
  have h1 : s.noFuller s1 := (noFuller_payDueList s).trans (noFuller_forLines noFuller_payUnpostedSeconds _)
  clear_value s1
  exact h1.beside rfl rfl

theorem noFuller_releaseStep (s : State) : s.noFuller (releaseStep s) := by
  unfold releaseStep
  split
  · exact (noFuller_post _ _ _).ofBeside rfl rfl
  · split
    · exact .refl s
    · split
      · exact .refl s
      · exact (noFuller_keepState s _ (fun x => { x with unpostedUnits := 0 }) fun _ => rfl).trans (noFuller_post _ _ _)

theorem noFuller_closeWorkAccess (s : State) : s.noFuller (closeWorkAccess s) := by
  unfold closeWorkAccess
  split
  · exact .refl s
  · next i rest _ =>
    extract_lets e s1 s2
    have h1 : s.noFuller s1 := noFuller_beside rfl rfl
    have h2 : s.noFuller s2 := h1.trans (noFuller_accountWork noFuller_post i s1)
    split
    · split
      · exact h2.trans (noFuller_hangup i s2)
      · exact h2.trans (noFuller_kick i s2)
      · exact h2
    · exact h1

theorem noFuller_serveCloseWork (s : State) : s.noFuller (serveCloseWork s) :=
  noFuller_fold (fun s _ => noFuller_closeWorkAccess s) _ s

theorem noFuller_afterAccess (s : State) : s.noFuller (afterAccess s) :=
  (((noFuller_limitOver _).trans (noFuller_passOn _)).trans (noFuller_arbitrate _)).ofBeside rfl rfl

theorem noFuller_passStep (s : State) : s.noFuller (passStep s).1 := by
  unfold passStep
  extract_lets s1
  have h1 : s.noFuller s1 := noFuller_passOn s
  split
  · exact h1
  · next p _ =>
    split
    · exact h1
    · next i _ =>
      split
      · exact (h1.trans (noFuller_passAccess i p.tick s1)).trans (noFuller_afterAccess _)
      · exact h1

theorem noFuller_passStepOn (i : LineId) (hit : PassNote → Bool) (s : State) : s.noFuller (passStepOn i hit s) := by
  unfold passStepOn
  split
  · exact noFuller_ite (noFuller_passStep s) (.refl s)
  · exact .refl s

theorem noFuller_closeWorkGranted (s : State) : s.noFuller (closeWorkGranted s) :=
  noFuller_ite ((noFuller_closeWorkAccess s).trans (noFuller_giveBack _)) (.refl s)

/-! ### The hold -/

theorem noFuller_grantHold (s : State) : s.noFuller (grantHold s) :=
  ((noFuller_latchA _ _).trans (noFuller_arbitrate _)).ofBeside rfl rfl

theorem noFuller_holdGrantOn (s : State) : s.noFuller (holdGrantOn s) :=
  noFuller_ite ((noFuller_passOn s).trans (noFuller_grantHold _)) (.refl s)

theorem noFuller_holdLimitOver (s : State) : s.noFuller (holdLimitOver s) :=
  noFuller_ite (noFuller_limitOver s) (.refl s)

theorem noFuller_releasePostingOn (s : State) : s.noFuller (releasePostingOn s) :=
  noFuller_ite (((noFuller_passOn s).trans (noFuller_releaseStep _)).trans (noFuller_settleRelease _))
    (noFuller_passOn s)

theorem noFuller_secondsDueOn (s : State) : s.noFuller (secondsDueOn s) :=
  noFuller_ite (((noFuller_payDue s).trans (noFuller_startRemembered _)).trans (noFuller_arbitrate _)) (.refl s)

/-! ### The watch -/

theorem Session.hold_isOpen (x : Session) (h : x.hold.state.isOpen = true) : x.state.isOpen = true := by
  unfold Session.hold at h
  cases hx : x.state <;> simp_all [SessionState.isCharged, SessionState.isOpen]

theorem noFuller_lineDown (i : LineId) (s : State) : s.noFuller (lineDown i s) := by
  unfold lineDown
  split
  · exact noFuller_hangup i s
  · exact noFuller_hangup i s
  · exact ((noFuller_quitCheckQueue i s).trans
      (noFuller_keepSession _ i (f := fun l => { l with signOn := none, txItem := none, closingSlot := some 8 })
        rfl)).trans (noFuller_enterClosing i _)
  · exact .refl s

theorem noFuller_watchDown (s : State) : s.noFuller (watchDown s) := by
  unfold watchDown
  extract_lets w s1 s2
  have h1 : s.noFuller s1 := noFuller_beside rfl rfl
  have h2 : s.noFuller s2 := h1.trans (noFuller_mapSessions s1 fun _ x _ h => x.hold_isOpen h)
  exact ((((h2.trans (noFuller_rejudge s2)).trans (noFuller_forLines noFuller_lineDown _)).trans
    (noFuller_rejudge _)).trans (noFuller_latchA _ _)).trans (noFuller_arbitrate _)

/-- A HELD session is open, and resumes so or closes (R159). -/
theorem noFuller_resumeLine (i : LineId) (s : State) : s.noFuller (resumeLine i s) := by
  unfold resumeLine
  split
  · exact .refl s
  · next x hx =>
    split
    · exact .refl s
    · next hheld =>
      have hheld : x.state = .held := by simpa using hheld
      have hopen : ∀ y, s.noFuller (s.modSession i fun _ => y) := fun y =>
        noFuller_modSession s i fun z hz _ => by
          rw [hx] at hz
          cases hz
          rw [hheld]; rfl
      extract_lets y s1
      split
      · exact hopen _
      · split
        · exact noFuller_ite ((hopen _).trans (noFuller_closeOutside _ i s1)) (hopen _)
        · exact hopen _

theorem noFuller_watchUp (s : State) : s.noFuller (watchUp s) :=
  (((noFuller_forLines noFuller_resumeLine _).trans (noFuller_latchA _ _)).trans (noFuller_rejudge _)).ofBeside rfl rfl

theorem noFuller_takenByWatch (s : State) : s.noFuller (takenByWatch s) :=
  noFuller_ite ((noFuller_watchUp _).ofBeside rfl rfl) (noFuller_beside rfl rfl)

theorem noFuller_watchTimerOver (s : State) : s.noFuller (watchTimerOver s) :=
  noFuller_ite (noFuller_watchDown s) (.refl s)

theorem noFuller_holdDownOver (s : State) : s.noFuller (holdDownOver s) :=
  (noFuller_forLines (fun i s => noFuller_ite (noFuller_closeOutside _ i s) (.refl s)) _).ofBeside rfl rfl

theorem noFuller_holdDownExpired (s : State) : s.noFuller (holdDownExpired s) :=
  noFuller_ite (noFuller_holdDownOver s) (.refl s)

/-! ### Line events -/

theorem LineRec.scan_session (l : LineRec) (ring carrier : Bool) (limit : Nat) :
    (l.scan ring carrier limit).session = l.session := by
  unfold LineRec.scan LineRec.sampleRing
  cases ring <;> rfl

theorem noFuller_scanAll (ring carrier : BitVec 32) (s : State) : s.noFuller (scanAll ring carrier s) := by
  unfold scanAll
  extract_lets s1
  have h1 : s.noFuller s1 := noFuller_mapLines s fun i h => by rwa [LineRec.opened, LineRec.scan_session] at h
  exact h1.beside rfl rfl

theorem noFuller_takeReport (i : LineId) (f : Reports → Reports) (s : State) : s.noFuller (takeReport i f s) :=
  noFuller_keepSession s i rfl

theorem noFuller_answer (i : LineId) (s : State) : s.noFuller (answer i s) := by
  unfold answer
  extract_lets wait b s1
  have h1 : s.noFuller s1 := noFuller_beside rfl rfl
  refine noFuller_ite (h1.trans (State.noFuller.trans ?_ (noFuller_rejudge _))) (noFuller_keepSession s i rfl)
  exact noFuller_keepSession s1 i rfl

theorem noFuller_ringOn (i : LineId) (s : State) : s.noFuller (ringOn i s) := by
  unfold ringOn
  extract_lets count s1
  have h1 : s.noFuller s1 := noFuller_keepSession s i rfl
  exact noFuller_ite (h1.trans (noFuller_answer i s1)) h1

theorem noFuller_qualifiedRingOn (i : LineId) (s : State) : s.noFuller (qualifiedRingOn i s) := by
  unfold qualifiedRingOn
  extract_lets s1
  have h1 : s.noFuller s1 := noFuller_takeReport i _ s
  split
  · split
    · exact h1.trans (noFuller_ringOn i s1)
    · exact h1.trans (noFuller_ringOn i s1)
    · exact h1
  · exact .refl s

theorem noFuller_ringGapOver (i : LineId) (s : State) : s.noFuller (ringGapOver i s) :=
  noFuller_ite (noFuller_keepSession s i rfl) (.refl s)

theorem noFuller_carrierPresentOn (i : LineId) (s : State) : s.noFuller (carrierPresentOn i s) := by
  unfold carrierPresentOn
  extract_lets s1
  have h1 : s.noFuller s1 := noFuller_takeReport i _ s
  exact noFuller_ite (noFuller_ite (h1.trans (noFuller_keepSession s1 i rfl)) h1) (.refl s)

theorem noFuller_phaseOver (st : LineState) (i : LineId) (s : State) : s.noFuller (phaseOver st i s) :=
  noFuller_ite (noFuller_hangup i s) (.refl s)

theorem noFuller_loseCarrier (i : LineId) (s : State) : s.noFuller (loseCarrier i s) := by
  unfold loseCarrier
  split
  · exact noFuller_hangup i s
  · exact noFuller_hangup i s
  · exact noFuller_closeOutside _ i s
  · exact (noFuller_keepSession s i rfl).trans (noFuller_endClosing i _)
  · exact .refl s

theorem noFuller_carrierLossOn (i : LineId) (s : State) : s.noFuller (carrierLossOn i s) :=
  noFuller_ite ((noFuller_takeReport i _ s).trans (noFuller_loseCarrier i _)) (.refl s)

theorem noFuller_enterFaulted (i : LineId) (k : FaultKind) (s : State) : s.noFuller (enterFaulted i k s) :=
  (noFuller_keepSession s i rfl).trans (noFuller_latchT _ _)

theorem noFuller_stuckCarrierOn (i : LineId) (s : State) : s.noFuller (stuckCarrierOn i s) :=
  noFuller_ite (noFuller_ite ((noFuller_takeReport i _ s).trans (noFuller_enterFaulted i _ _))
    (noFuller_takeReport i _ s)) (.refl s)

theorem noFuller_ringStuckOn (i : LineId) (s : State) : s.noFuller (ringStuckOn i s) :=
  noFuller_ite (noFuller_ite ((noFuller_takeReport i _ s).trans (noFuller_enterFaulted i _ _))
    (noFuller_takeReport i _ s)) (.refl s)

theorem noFuller_enterSignOn (i : LineId) (sp : Fin 8) (s : State) : s.noFuller (enterSignOn i sp s) :=
  (noFuller_keepSession s i rfl).trans (noFuller_kick i _)

theorem noFuller_speedMeasuredOn (i : LineId) (ticks : Nat) (s : State) : s.noFuller (speedMeasuredOn i ticks s) := by
  refine noFuller_ite ?_ (.refl s)
  unfold measured
  split
  · exact (noFuller_keepSession s i (f := fun l => { l with markWait := true }) rfl).trans (noFuller_enterSignOn i _ _)
  · exact noFuller_ite (noFuller_hangup i s) (noFuller_keepSession s i rfl)

theorem noFuller_guardOver (i : LineId) (s : State) : s.noFuller (guardOver i s) :=
  noFuller_ite ((noFuller_keepSession s i (f := fun l => { l with phaseTimer := none }) rfl).trans
    (noFuller_goRest i _)) (.refl s)

theorem noFuller_clearFaultOn (i : LineId) (s : State) : s.noFuller (clearFaultOn i s) :=
  (noFuller_keepSession s i rfl).trans (noFuller_goRest i _)

theorem noFuller_leaveTest (i : LineId) (abandoned : Bool) (s : State) : s.noFuller (leaveTest i abandoned s) := by
  unfold leaveTest
  split
  · exact .refl s
  · extract_lets s1
    have h1 : s.noFuller s1 := noFuller_keepSession s i rfl
    exact noFuller_ite
      (noFuller_ite (h1.trans (noFuller_clearFaultOn i s1)) (h1.trans (noFuller_keepSession s1 i rfl)))
      (h1.trans (noFuller_goRest i s1))

theorem noFuller_endTest (i : LineId) (s : State) : s.noFuller (endTest i s) := by
  unfold endTest
  split
  · exact .refl s
  · exact (noFuller_leaveTest i false s).trans (noFuller_complete _ .t .ok false _)

theorem noFuller_lineTestEnded (i : LineId) (s : State) : s.noFuller (lineTestEnded i s) :=
  noFuller_ite (noFuller_endTest i s) (.refl s)

theorem noFuller_characterEnded (i : LineId) (s : State) : s.noFuller (characterEnded i s) :=
  noFuller_ite ((noFuller_keepSession s i (f := fun l => { l with txChar := none }) rfl).trans (noFuller_choose i _))
    (.refl s)

/-! ### The sign-on dialog -/

theorem noFuller_modSignOn (i : LineId) (f : SignOnPart → SignOnPart) (s : State) : s.noFuller (s.modSignOn i f) :=
  noFuller_keepSession s i rfl

theorem noFuller_badAttempt (i : LineId) (s : State) : s.noFuller (badAttempt i s) :=
  (noFuller_modSignOn i _ s).trans (noFuller_kick i _)

theorem noFuller_refuseCaller (i : LineId) (slot : Nat) (s : State) : s.noFuller (refuseCaller i slot s) :=
  (noFuller_modSignOn i _ s).trans (noFuller_kick i _)

theorem noFuller_passEnd (i : LineId) (part : SignOnPart) (s : State) : s.noFuller (passEnd i part s) := by
  unfold passEnd
  extract_lets user s1
  have h1 : s.noFuller s1 := noFuller_modSignOn i _ s
  exact noFuller_ite (noFuller_badAttempt i s) (h1.trans ((noFuller_arbitrate _).ofBeside rfl rfl))

theorem noFuller_signOnChar (i : LineId) (data : Byte) (framing : Bool) (s : State) :
    s.noFuller (signOnChar i data framing s) := by
  unfold signOnChar
  split
  · exact .refl s
  · refine noFuller_ite (.refl s) ?_
    extract_lets c
    split
    · exact (noFuller_modSignOn i _ s).trans (noFuller_kick i _)
    · exact noFuller_ite (noFuller_passEnd i _ s) (noFuller_modSignOn i _ s)
    · exact .refl s
    · exact .refl s

theorem noFuller_signOnOver (i : LineId) (s : State) : s.noFuller (signOnOver i s) :=
  noFuller_ite (noFuller_hangup i s) (.refl s)

/-! ### Enables and RESTART's line work -/

theorem noFuller_disableLine (i : LineId) (s : State) : s.noFuller (disableLine i s) := by
  unfold disableLine
  split
  case h_1 | h_2 | h_3 | h_4 => exact noFuller_hangup i s
  case h_5 => exact noFuller_closeOutside _ i s
  case h_6 => exact .refl s

theorem noFuller_actOnEnables (before after : State) : after.noFuller (actOnEnables before after) :=
  (noFuller_forLines (fun i s => noFuller_ite (noFuller_disableLine i s) (.refl s)) after).trans (noFuller_rejudge _)

theorem noFuller_restartLine (i : LineId) (s : State) : s.noFuller (restartLine i s) := by
  unfold restartLine
  split
  case h_1 | h_2 | h_3 | h_4 | h_5 | h_6 => exact noFuller_enterHangup i s
  case h_7 => exact noFuller_leaveTest i true s
  all_goals exact .refl s

theorem noFuller_clearTransport (s : State) : s.noFuller (clearTransport s) := by
  unfold clearTransport
  extract_lets s1
  have h1 : s.noFuller s1 := noFuller_mapLines s fun _ h => h
  exact h1.trans (noFuller_of_lines (Nat.zero_le _) fun _ h => h)

theorem noFuller_restartLineWork (s : State) : s.noFuller (restartLineWork s) := by
  unfold restartLineWork
  extract_lets testing w s1 s2 s3
  have h1 : s.noFuller s1 := noFuller_beside rfl rfl
  have h2 : s.noFuller s2 := (h1.trans (noFuller_forLines noFuller_restartLine s1)).trans (noFuller_clearTransport _)
  have h3 : s.noFuller s3 := noFuller_ite (h2.trans (noFuller_refuse s2 _ _)) h2
  exact h3.trans (noFuller_rejudge s3)

/-! ### Commands with table work -/

theorem noFuller_addResource (user units serial : Nat) (s : State) : s.noFuller (addResource user units serial s) :=
  noFuller_ite (.refl s) (noFuller_mapSessions s fun _ x _ h => by split at h <;> exact h)

theorem noFuller_workPostCharge (p : PortId) (user units serial : Nat) (s : State) :
    s.noFuller (workPostCharge p user units serial s) := by
  unfold workPostCharge
  split
  · exact noFuller_refuse s p _
  · extract_lets s1 s2
    have h1 : s.noFuller s1 := (noFuller_addResource user units serial _).ofBeside rfl rfl
    have h2 : s.noFuller s2 := (noFuller_addResource user units serial s).trans (noFuller_post user units _)
    exact noFuller_ite (noFuller_refuse s p _) (noFuller_ite
      (noFuller_ite (noFuller_refuse s p _) (h1.trans (noFuller_complete s1 p _ _ _)))
      (h2.trans (noFuller_complete s2 p _ _ _)))

theorem noFuller_workLogoff (p : PortId) (i : LineId) (serial : Nat) (s : State) :
    s.noFuller (workLogoff p i serial s) := by
  unfold workLogoff
  split
  · exact noFuller_refuse s p _
  · exact (((noFuller_closeDecision .logoff s.clock.stamp i s).trans (noFuller_accountWork noFuller_post i _)).trans
      (noFuller_enterClosing i _)).trans (noFuller_complete _ p _ _ _)

theorem noFuller_workRestart (p : PortId) (s : State) : s.noFuller (workRestart p s) :=
  ((((((noFuller_serveCloseWork s).trans (noFuller_closeMatching _ _ _)).trans (noFuller_restartLineWork _)).trans
    (noFuller_complete _ p _ _ _)).trans (noFuller_latchA _ _)).trans (noFuller_latchT _ _)).trans
    (noFuller_startWatchTimer _)

theorem noFuller_workSuspend (p : PortId) (user : Nat) (logout : Bool) (s : State) :
    s.noFuller (workSuspend p user logout s) := by
  unfold workSuspend
  split
  · exact noFuller_refuse s p _
  · extract_lets s1 r
    have h1 : s.noFuller s1 := noFuller_modAccount s user _
    have hr : s.noFuller r.1 := by
      unfold r
      split
      · exact h1.trans (noFuller_closeMatching _ _ s1)
      · exact h1
    exact hr.trans (noFuller_complete _ p _ _ _)

theorem noFuller_workAccountAdd (p : PortId) (user : Nat) (cls : Fin 4) (check limit : Nat) (balance : Int)
    (s : State) :
    s.noFuller (workAccountAdd p user cls check limit balance s) :=
  noFuller_ite (noFuller_refuse s p _) (noFuller_ite (noFuller_refuse s p _)
    ((noFuller_complete _ p _ _ _).ofBeside rfl rfl))

theorem noFuller_workAccountSet (p : PortId) (user : Nat) (cls : Fin 4) (check limit : Nat) (s : State) :
    s.noFuller (workAccountSet p user cls check limit s) := by
  unfold workAccountSet
  split
  · exact noFuller_refuse s p _
  · exact (noFuller_modAccount s user _).trans (noFuller_complete _ p _ _ _)

theorem noFuller_workAccountDelete (p : PortId) (user : Nat) (s : State) : s.noFuller (workAccountDelete p user s) := by
  unfold workAccountDelete
  split
  · exact noFuller_refuse s p _
  · exact noFuller_ite (noFuller_refuse s p _) ((noFuller_complete _ p _ _ _).ofBeside rfl rfl)

theorem noFuller_workCredit (p : PortId) (user amount : Nat) (s : State) : s.noFuller (workCredit p user amount s) := by
  unfold workCredit
  split
  · exact noFuller_refuse s p _
  · exact (noFuller_creditPosting user amount s).trans (noFuller_complete _ p _ _ _)

theorem noFuller_workDebit (p : PortId) (user amount : Nat) (s : State) : s.noFuller (workDebit p user amount s) := by
  unfold workDebit
  split
  · exact noFuller_refuse s p _
  · exact (noFuller_post user amount s).trans (noFuller_complete _ p _ _ _)

theorem noFuller_workResume (p : PortId) (user : Nat) (s : State) : s.noFuller (workResume p user s) := by
  unfold workResume
  split
  · exact noFuller_refuse s p _
  · exact (noFuller_modAccount s user _).trans (noFuller_complete _ p _ _ _)

theorem noFuller_workUnlock (p : PortId) (user : Nat) (s : State) : s.noFuller (workUnlock p user s) := by
  unfold workUnlock
  split
  · exact noFuller_refuse s p _
  · exact (noFuller_modAccount s user _).trans (noFuller_complete _ p _ _ _)

theorem noFuller_workReadAccount (p : PortId) (user : Nat) (s : State) : s.noFuller (workReadAccount p user s) := by
  unfold workReadAccount
  split
  · exact noFuller_refuse s p _
  · exact noFuller_complete s p _ _ _

theorem noFuller_workSweep (p : PortId) (after : Nat) (s : State) : s.noFuller (workSweep p after s) := by
  unfold workSweep
  split
  · exact noFuller_refuse s p _
  · exact noFuller_complete s p _ _ _

theorem noFuller_workClosePeriod (p : PortId) (s : State) : s.noFuller (workClosePeriod p s) :=
  noFuller_ite ((noFuller_complete _ p _ _ _).ofBeside rfl rfl) (noFuller_refuse s p _)

theorem noFuller_workShutdown (p : PortId) (s : State) : s.noFuller (workShutdown p s) :=
  (noFuller_closeMatching _ _ s).trans (noFuller_complete _ p _ _ _)

/-- No access of a command unit opens a session, and a close in it places one mark for the session that it closes. -/
theorem noFuller_commandAccess (p : PortId) (c : Instr) (s : State) : s.noFuller (commandAccess p c s) := by
  unfold commandAccess
  split
  case h_1 =>
    split
    · exact noFuller_workAccountAdd p _ _ _ _ _ s
    · exact noFuller_refuse s p _
  case h_2 =>
    split
    · exact noFuller_workAccountSet p _ _ _ _ s
    · exact noFuller_refuse s p _
  case h_3 => exact noFuller_workAccountDelete p _ s
  case h_4 => exact noFuller_workCredit p _ _ s
  case h_5 => exact noFuller_workDebit p _ _ s
  case h_6 => exact noFuller_workSuspend p _ _ s
  case h_7 => exact noFuller_workResume p _ s
  case h_8 => exact noFuller_workUnlock p _ s
  case h_9 => exact noFuller_workReadAccount p _ s
  case h_10 => exact noFuller_workSweep p _ s
  case h_11 => exact noFuller_workClosePeriod p s
  case h_12 =>
    split
    · exact noFuller_workLogoff p _ _ s
    · exact noFuller_refuse s p _
  case h_13 => exact noFuller_workShutdown p s
  case h_14 => exact noFuller_workPostCharge p _ _ _ s
  case h_15 => exact noFuller_workRestart p s
  case h_16 => exact .refl s

theorem noFuller_serve (p : PortId) (s : State) : s.noFuller (serve p s) := by
  unfold serve
  split
  · exact ((noFuller_granted _ s).trans (noFuller_commandAccess p _ _)).trans (noFuller_giveBack _)
  · exact noFuller_giveBack s

theorem noFuller_serveNext (p : PortId) (s : State) : s.noFuller (serveNext p s) :=
  noFuller_ite (noFuller_serve p s) (.refl s)

theorem noFuller_serveGranted (s : State) : s.noFuller (serveGranted s) := by
  unfold serveGranted
  split
  · exact noFuller_serve _ s
  · exact .refl s

/-! ### GO and whole commands -/

theorem noFuller_endOther (q : PortId) (s : State) : s.noFuller (endOther q s) := by
  unfold endOther
  split
  · exact noFuller_ite
      (((noFuller_commandAccess q _ s).trans (noFuller_refuse _ q _)).trans (noFuller_giveBack _))
      (noFuller_refuse s q _)
  · exact noFuller_refuse s q _
  · exact .refl s

theorem noFuller_restartHold (s : State) : s.noFuller (restartHold s) := by
  unfold restartHold
  split
  · exact .refl s
  · exact .refl s
  · exact noFuller_beside rfl rfl
  · exact (noFuller_latchA s _).trans (noFuller_beginRelease _)

theorem noFuller_askAccess (p : PortId) (c : Instr) (s : State) : s.noFuller (askAccess p c s) :=
  (noFuller_modPort s p _).trans (noFuller_arbitrate _)

theorem noFuller_taken (p : PortId) (s : State) : s.noFuller (taken p s) := by
  cases p
  · exact noFuller_takenByWatch s
  · exact .refl s

theorem noFuller_startCommand (p : PortId) (c : Instr) (s : State) : s.noFuller (startCommand p c s) := by
  unfold startCommand
  extract_lets s1
  have h1 : s.noFuller s1 := (noFuller_modPort s p _).trans (noFuller_taken p _)
  have hrestart : s1.noFuller (takeRestart p c s1) :=
    ((noFuller_endOther p.other s1).trans (noFuller_restartHold _)).trans (noFuller_askAccess p c _)
  exact h1.trans (noFuller_ite (noFuller_refuse s1 p _) (noFuller_ite hrestart
    (noFuller_ite (noFuller_ite (noFuller_askAccess p c s1) (noFuller_refuse s1 p _)) (.refl s1))))

theorem noFuller_goAt (p : PortId) (s : State) : s.noFuller (goAt p s) := by
  unfold goAt
  refine noFuller_ite (.refl s) ?_
  split
  · exact noFuller_latchCollision s p
  · exact noFuller_latchCollision s p
  · exact noFuller_latchCollision s p
  · refine noFuller_ite (noFuller_modPort s p _) ?_
    split
    · exact noFuller_modPort s p _
    · exact noFuller_ite (noFuller_startCommand p _ s) (noFuller_modPort s p _)

theorem noFuller_dataWriteAt (p : PortId) (w : Word) (s : State) : s.noFuller (dataWriteAt p w s) := by
  unfold dataWriteAt
  extract_lets u
  refine noFuller_ite (.refl s) ?_
  split
  · exact noFuller_setPort s p _
  · exact noFuller_setPort s p _
  · exact noFuller_ite (noFuller_setPort s p _) (noFuller_setPort s p _)
  · exact noFuller_latchCollision s p

theorem noFuller_dataReadAt (p : PortId) (s : State) : s.noFuller (dataReadAt p s) :=
  noFuller_ite (noFuller_setPort s p _) (noFuller_setPort s p _)

theorem noFuller_abortBuildAt (p : PortId) (s : State) : s.noFuller (abortBuildAt p s) := by
  unfold abortBuildAt
  extract_lets u
  refine noFuller_ite (.refl s) ?_
  split
  · exact .refl s
  · exact noFuller_setPort s p _
  · exact noFuller_latchCollision s p
  · exact noFuller_setPort s p _

theorem noFuller_rereadAt (p : PortId) (s : State) : s.noFuller (rereadAt p s) := by
  unfold rereadAt
  extract_lets u
  refine noFuller_ite (.refl s) ?_
  split
  · exact .refl s
  · exact .refl s
  · exact noFuller_latchCollision s p
  · exact noFuller_setPort s p _

theorem noFuller_requestAt (p : PortId) (r : Option ControlRequest) (s : State) : s.noFuller (requestAt p r s) := by
  unfold requestAt
  split
  · exact noFuller_goAt p s
  · exact noFuller_abortBuildAt p s
  · exact noFuller_rereadAt p s
  · exact noFuller_ite (.refl s) (noFuller_latchCollision s p)

theorem noFuller_latchLevels (p : PortId) (s : State) : s.noFuller (latchLevels p s) := by
  unfold latchLevels
  exact noFuller_modPort s p _

theorem noFuller_attentionWrite (p : PortId) (w : Word) (s : State) : s.noFuller (attentionWrite p w s) :=
  (noFuller_modPort s p _).trans (noFuller_latchLevels p _)

/-- A command given at a port, by what its work does to the load. -/
theorem noFuller_give (p : PortId) (c : Instr) {work : State → State} (hw : ∀ s : State, s.noFuller (work s))
    (s : State) : s.noFuller (give p c work s) := by
  unfold give
  extract_lets s1
  have h1 : s.noFuller s1 :=
    ((noFuller_abortBuildAt p s).trans (noFuller_fold (fun s w => noFuller_dataWriteAt p w s) _ _)).trans
      (noFuller_goAt p _)
  exact noFuller_ite (.refl s) (noFuller_ite (noFuller_ite (hw s) (noFuller_latchCollision s p))
    (noFuller_ite (h1.trans (hw s1)) h1))

/-! ### Commands with no table work -/

theorem noFuller_workGroupSet (p : PortId) (g rc cw sl lc ss rf ie : Word) (s : State) :
    s.noFuller (workGroupSet p g rc cw sl lc ss rf ie s) := by
  unfold workGroupSet
  split
  · exact noFuller_ite ((noFuller_complete _ p _ _ _).ofBeside rfl rfl) (noFuller_refuse s p _)
  · exact noFuller_refuse s p _

theorem noFuller_workLineEnable (p : PortId) (line on : Word) (s : State) :
    s.noFuller (workLineEnable p line on s) := by
  unfold workLineEnable
  split
  · next i b _ _ =>
    have h : s.noFuller (s.modLine i fun l => { l with enable := b }) := noFuller_keepSession s i rfl
    exact (h.trans (noFuller_actOnEnables s _)).trans (noFuller_complete _ p _ _ _)
  · exact noFuller_refuse s p _

theorem noFuller_workGroupEnable (p : PortId) (group on : Word) (s : State) :
    s.noFuller (workGroupEnable p group on s) := by
  unfold workGroupEnable
  split
  · exact ((noFuller_actOnEnables s _).trans (noFuller_complete _ p _ _ _)).ofBeside rfl rfl
  · exact noFuller_refuse s p _

theorem noFuller_workClearFault (p : PortId) (line : Word) (s : State) : s.noFuller (workClearFault p line s) := by
  unfold workClearFault
  split
  · exact noFuller_ite ((noFuller_clearFaultOn _ s).trans (noFuller_complete _ p _ _ _)) (noFuller_refuse s p _)
  · exact noFuller_refuse s p _

theorem noFuller_workLineTest (p : PortId) (line speed : Word) (s : State) :
    s.noFuller (workLineTest p line speed s) := by
  unfold workLineTest
  split
  · next i sp _ _ =>
    extract_lets s1
    have h1 : s.noFuller s1 :=
      ((noFuller_modPort s p _).trans (noFuller_keepSession _ i rfl)).trans (noFuller_choose i _)
    exact noFuller_ite (noFuller_ite (h1.trans (noFuller_endTest i s1)) h1) (noFuller_refuse s p _)
  · exact noFuller_refuse s p _

theorem noFuller_workReadLine (p : PortId) (line : Word) (s : State) : s.noFuller (workReadLine p line s) := by
  unfold workReadLine
  split
  · exact noFuller_complete s p _ _ _
  · exact noFuller_refuse s p _

/-- TAKE INPUT leaves the queue no longer than it was (R35). -/
theorem noFuller_workTakeInput (p : PortId) (maximum : Word) (s : State) : s.noFuller (workTakeInput p maximum s) := by
  unfold workTakeInput
  extract_lets out s1 s2
  have h1 : s.noFuller s1 := noFuller_of_lines (by simp [s1]) fun _ h => h
  have hask : s1.noFuller (arbitrate (clearWaiting s1)) := (noFuller_arbitrate _).ofBeside rfl rfl
  have h2 : s.noFuller s2 := noFuller_ite h1 (h1.trans hask)
  exact noFuller_ite (h2.trans (noFuller_complete s2 p _ _ _)) (noFuller_refuse s p _)

theorem noFuller_appendOutput (i : LineId) (chars : List Byte) (s : State) : s.noFuller (appendOutput i chars s) :=
  (noFuller_keepSession s i rfl).trans (noFuller_kick i _)

theorem noFuller_workSend (p : PortId) (line serial count : Word) (chars : List Byte) (s : State) :
    s.noFuller (workSend p line serial count chars s) := by
  unfold workSend
  split
  · exact noFuller_ite (noFuller_ite ((noFuller_appendOutput _ chars s).trans (noFuller_complete _ p _ _ _))
      (noFuller_refuse s p _)) (noFuller_refuse s p _)
  · exact noFuller_refuse s p _

theorem noFuller_workReadSpace (p : PortId) (s : State) : s.noFuller (workReadSpace p s) :=
  (noFuller_mapLines s (f := fun _ l => { l with inSpaceSet := false }) fun _ h => h).trans
    (noFuller_complete _ p _ _ _)

theorem noFuller_acceptMessage (p : PortId) (k : Fin 16) (final : Bool) (text : List Byte) (s : State) :
    s.noFuller (acceptMessage p k final text s) :=
  noFuller_ite ((noFuller_complete _ p _ _ _).ofBeside rfl rfl) ((noFuller_complete _ p _ _ _).ofBeside rfl rfl)

theorem noFuller_workWriteMessage (p : PortId) (slot : Byte) (final : Bool) (offset count : Word) (chars : List Byte)
    (s : State) : s.noFuller (workWriteMessage p slot final offset count chars s) := by
  unfold workWriteMessage
  split
  · exact noFuller_ite (noFuller_ite (noFuller_acceptMessage p _ final _ s)
      (noFuller_ite (noFuller_acceptMessage p _ final _ s) ((noFuller_refuse _ p _).ofBeside rfl rfl)))
      (noFuller_refuse s p _)
  · exact noFuller_refuse s p _

theorem noFuller_workHoldRequest (p : PortId) (limit : Word) (s : State) : s.noFuller (workHoldRequest p limit s) :=
  noFuller_ite (noFuller_ite ((noFuller_complete _ p _ _ _).ofBeside rfl rfl) (noFuller_refuse s p _))
    (noFuller_refuse s p _)

theorem noFuller_workHoldRelease (p : PortId) (s : State) : s.noFuller (workHoldRelease p s) :=
  noFuller_ite ((noFuller_beginRelease s).trans (noFuller_complete _ p _ _ _)) (noFuller_refuse s p _)

theorem noFuller_loadClock (v : Calendar) (s : State) : s.noFuller (loadClock v s) := by
  refine State.noFuller.trans ?_ (noFuller_rejudge _)
  refine State.noFuller.ofBeside (t := { s with clock := v, clockInvalid := false }) ?_ rfl rfl
  exact noFuller_mapSessions _ fun _ x _ h => by split at h <;> exact h

theorem noFuller_workSetClock (p : PortId) (v : Calendar) (s : State) : s.noFuller (workSetClock p v s) :=
  noFuller_ite ((noFuller_loadClock v s).trans (noFuller_complete _ p _ _ _)) (noFuller_refuse s p _)

theorem noFuller_acceptBands (p : PortId) (sc : Schedule) (final : Bool) (bands : List Band) (s : State) :
    s.noFuller (acceptBands p sc final bands s) := by
  have hclear : ∀ u : State, u.noFuller (clearTariffStaging u) := fun _ => noFuller_beside rfl rfl
  exact noFuller_ite ((noFuller_complete _ p _ _ _).ofBeside rfl rfl)
    (noFuller_ite (((noFuller_takeInstall _ s).trans (hclear _)).trans (noFuller_complete _ p _ _ _))
      ((hclear s).trans (noFuller_refuse _ p _)))

theorem noFuller_workTariffWrite (p : PortId) (schedule first final count : Word) (words : List Word) (s : State) :
    s.noFuller (workTariffWrite p schedule first final count words s) := by
  unfold workTariffWrite
  split
  · exact noFuller_ite (noFuller_ite (noFuller_acceptBands p _ _ _ s) (noFuller_ite (noFuller_acceptBands p _ _ _ s)
      ((noFuller_refuse _ p _).ofBeside rfl rfl))) (noFuller_refuse s p _)
  · exact noFuller_refuse s p _

theorem noFuller_workDayMapWrite (p : PortId) (d1 d2 d3 d4 d5 d6 d7 : Word) (s : State) :
    s.noFuller (workDayMapWrite p d1 d2 d3 d4 d5 d6 d7 s) := by
  unfold workDayMapWrite
  split
  · exact (noFuller_takeInstall _ s).trans (noFuller_complete _ p _ _ _)
  · exact noFuller_refuse s p _

theorem noFuller_workClassWrite (p : PortId) (cls : Word) (record : Option ClassRec) (s : State) :
    s.noFuller (workClassWrite p cls record s) := by
  unfold workClassWrite
  split
  · exact (noFuller_takeInstall _ s).trans (noFuller_complete _ p _ _ _)
  · exact noFuller_refuse s p _

theorem noFuller_workReadSession (p : PortId) (line : Word) (s : State) : s.noFuller (workReadSession p line s) := by
  unfold workReadSession
  split
  · split
    · exact noFuller_complete s p _ _ _
    · exact noFuller_refuse s p _
  · exact noFuller_refuse s p _

theorem noFuller_workSetWatch (p : PortId) (window limit : Word) (s : State) :
    s.noFuller (workSetWatch p window limit s) :=
  noFuller_ite ((noFuller_complete _ p _ _ _).ofBeside rfl rfl) (noFuller_refuse s p _)

theorem noFuller_workAdmission (p : PortId) (vote : Word) (s : State) : s.noFuller (workAdmission p vote s) := by
  unfold workAdmission
  split
  · exact ((noFuller_modPort s p _).trans (noFuller_rejudge _)).trans (noFuller_complete _ p _ _ _)
  · exact noFuller_refuse s p _

theorem noFuller_workPeekBilling (p : PortId) (s : State) : s.noFuller (workPeekBilling p s) := by
  unfold workPeekBilling
  split
  · exact noFuller_complete s p _ _ _
  · exact noFuller_complete s p _ _ _

theorem noFuller_workReleaseBilling (p : PortId) (sequence : Word) (s : State) :
    s.noFuller (workReleaseBilling p sequence s) := by
  unfold workReleaseBilling
  refine noFuller_ite ?_ (noFuller_refuse s p _)
  split
  · exact noFuller_refuse s p _
  · exact noFuller_ite (((noFuller_rejudge _).trans (noFuller_complete _ p _ _ _)).ofBeside rfl rfl)
      (noFuller_complete s p _ _ _)

end Sys2Proof.Machine
end

section
/-! PROOFS. The law of the input queue (R30): the rows that place an entry or open a session, the power events, and the
step. -/

namespace Sys2Proof.Machine

/-! ### Characters and breaks (R29) -/

theorem State.roomForInput_iff (s : State) : s.roomForInput = true ↔ s.input.length + 1 + s.openCount + 8 ≤ 256 := by
  rw [State.roomForInput, decide_eq_true_iff, Config.inputCapacity]
  omega

theorem inputLaw_placeInput {s : State} (e : InputEntry) (h : s.roomForInput = true) : (placeInput e s).inputLaw := by
  have hroom := s.roomForInput_iff.mp h
  rw [State.inputLaw_iff, placeInput_load, State.inputLoad]
  omega

theorem noFuller_setOverrun (i : LineId) (s : State) : s.noFuller (setOverrun i s) := noFuller_keepSession s i rfl

theorem inputLaw_offerChar (i : LineId) (c : Byte) (framing : Bool) {s : State} (h : s.inputLaw) :
    (offerChar i c framing s).inputLaw := by
  unfold offerChar
  split
  · next hroom => exact (noFuller_keepSession _ i rfl).inputLaw (inputLaw_placeInput _ hroom)
  · exact (noFuller_setOverrun i s).inputLaw h

theorem inputLaw_offerBreak (i : LineId) {s : State} (h : s.inputLaw) : (offerBreak i s).inputLaw := by
  unfold offerBreak
  split
  · next hroom => exact inputLaw_placeInput _ hroom
  · exact (noFuller_setOverrun i s).inputLaw h

theorem inputLaw_receive (i : LineId) (data : Byte) (framing : Bool) {s : State} (h : s.inputLaw) :
    (receive i data framing s).inputLaw := by
  have hidle : (idleEvent i s).inputLaw := (noFuller_idleEvent i s).inputLaw h
  unfold receive
  split
  · exact (noFuller_ite (.refl s) (noFuller_signOnChar i data framing s)).inputLaw h
  · split
    · exact inputLaw_offerChar i data framing hidle
    · exact inputLaw_offerChar i data framing hidle
    · exact (noFuller_setOverrun i s).inputLaw h
    · exact h
  · exact (noFuller_keepSession s i rfl).inputLaw h
  · exact h

theorem inputLaw_receiveBreak (i : LineId) {s : State} (h : s.inputLaw) : (receiveBreak i s).inputLaw := by
  have hidle : (idleEvent i s).inputLaw := (noFuller_idleEvent i s).inputLaw h
  unfold receiveBreak
  split
  · split
    · exact inputLaw_offerBreak i hidle
    · exact inputLaw_offerBreak i hidle
    · exact (noFuller_setOverrun i s).inputLaw h
    · exact h
  · exact h

/-! ### The verdict (R30, R63, R65) -/

/-- A change of one line opens at most one session. -/
theorem modLine_load_le (s : State) (i : LineId) (f : LineRec → LineRec) :
    (s.modLine i f).inputLoad ≤ s.inputLoad + 1 := by
  have h := openCount_change (s := s) (t := s.modLine i f) (State.sameLinesBut_setLine s i _)
  have hone : ((s.modLine i f).line i).opened.toNat ≤ 1 := Bool.toNat_le _
  show s.input.length + _ ≤ s.input.length + _ + 1
  omega

theorem State.roomForOpen_iff (s : State) : s.roomForOpen = true ↔ s.inputLoad + 2 ≤ 256 := by
  rw [State.roomForOpen, decide_eq_true_iff, State.inputFree, State.inputLoad, Config.inputCapacity]
  omega

/-- An admission adds the OPEN mark and an open session, for which two entries are free (R30, R63). -/
theorem inputLaw_openSessionOn (i : LineId) (part : SignOnPart) (a : Account) {s : State} (h : s.roomForOpen = true) :
    (openSessionOn i part a s).inputLaw := by
  unfold openSessionOn
  extract_lets setup s1 s2 serial s3 x s4 s5
  have h3 : s.noFuller s3 := (((noFuller_modAccount s _ _).trans (noFuller_post _ _ _)).trans
    (noFuller_leaveCheckQueue i _)).beside rfl rfl
  have h4 : s4.inputLoad ≤ s3.inputLoad + 1 := modLine_load_le s3 i _
  have h5 : s5.inputLoad = s4.inputLoad + 1 := placeInput_load _ s4
  have hlaw : s5.inputLaw := by
    have hroom := s.roomForOpen_iff.mp h
    have := h3.le
    rw [State.inputLaw_iff]
    omega
  exact ((noFuller_kick i s5).trans (noFuller_fundsWarning _ _ _)).inputLaw hlaw

theorem inputLaw_judgeActive (i : LineId) (part : SignOnPart) (a : Account) {s : State} (h : s.inputLaw) :
    (judgeActive i part a s).inputLaw := by
  unfold judgeActive
  split
  · exact ((noFuller_leaveCheckQueue i s).trans (noFuller_refuseCaller i _ _)).inputLaw h
  · split
    · next hroom => exact inputLaw_openSessionOn i part a hroom
    · exact (noFuller_beside (t := markWaiting i s) rfl rfl).inputLaw h

theorem noFuller_wrongCheckWord (a : Account) (s : State) : s.noFuller (wrongCheckWord a s) :=
  noFuller_ite (noFuller_ite ((noFuller_modAccount s _ _).trans (noFuller_latchA _ _)) (noFuller_modAccount s _ _))
    (.refl s)

theorem inputLaw_verdictFor (i : LineId) {s : State} (h : s.inputLaw) : (verdictFor i s).inputLaw := by
  have hleave : ∀ u : State, u.noFuller (leaveCheckQueue i u) := noFuller_leaveCheckQueue i
  unfold verdictFor
  split
  · exact (hleave s).inputLaw h
  · next part _ =>
    split
    · exact ((hleave s).trans (noFuller_badAttempt i _)).inputLaw h
    · next a _ =>
      split
      · exact (((noFuller_wrongCheckWord a s).trans (hleave _)).trans (noFuller_badAttempt i _)).inputLaw h
      · have hrefuse := ((hleave s).trans (noFuller_refuseCaller i 4 _)).inputLaw h
        split
        · exact inputLaw_judgeActive i part a h
        · exact hrefuse
        · split
          · exact inputLaw_judgeActive i part _ ((noFuller_modAccount s _ _).inputLaw h)
          · exact hrefuse

theorem inputLaw_verdictAccess {s : State} (h : s.inputLaw) : (verdictAccess s).inputLaw := by
  unfold verdictAccess
  split
  · exact h
  · exact inputLaw_verdictFor _ h

theorem inputLaw_verdictGranted {s : State} (h : s.inputLaw) : (verdictGranted s).inputLaw := by
  unfold verdictGranted
  split
  · exact (noFuller_giveBack _).inputLaw (inputLaw_verdictAccess ((noFuller_granted .checker s).inputLaw h))
  · exact h

/-! ### Power events: the queue is emptied (R28, R162) -/

theorem noFuller_sweepPost (user u : Nat) (s : State) : s.noFuller (sweepPost user u s) :=
  noFuller_ite (.refl s) (noFuller_modAccount s _ _)

theorem noFuller_sweepWork (i : LineId) (x : Session) (s : State) : s.noFuller (sweepWork i x s) := by
  unfold sweepWork
  extract_lets s1 up cu s2
  have h1 : s.noFuller s1 := noFuller_sweepPost _ _ s
  have hcu : s.noFuller cu.2 := by
    unfold cu
    split
    · exact h1.trans (noFuller_addStated _ _ _ s1)
    · exact h1
  have h2 : s.noFuller s2 := noFuller_ite (hcu.trans (noFuller_modAccount _ _ _)) hcu
  exact (h2.trans (noFuller_writeRecord _ s2)).trans (noFuller_modAccount _ _ _)

theorem noFuller_sweepSeconds (x : Session) (s : State) : s.noFuller (sweepSeconds x s) :=
  noFuller_ite (noFuller_beside rfl rfl) (.refl s)

theorem noFuller_sweepLine (i : LineId) (s : State) : s.noFuller (sweepLine i s) := by
  unfold sweepLine
  split
  · exact .refl s
  · next x _ =>
    extract_lets s1
    have h1 : s.noFuller s1 :=
      noFuller_ite (noFuller_sweepWork i _ s) (noFuller_ite (noFuller_sweepWork i x s) (.refl s))
    exact (h1.trans (noFuller_sweepSeconds x s1)).trans
      (noFuller_modLine _ i fun h => absurd h (by simp [LineRec.opened]))

theorem noFuller_sweepDeferred (s : State) : s.noFuller (sweepDeferred s) :=
  (noFuller_fold (fun s (e : Deferred) => noFuller_modAccount s e.user _) s.deferred s).beside rfl rfl

theorem noFuller_sweep (s : State) : s.noFuller (sweep s) := by
  unfold sweep
  extract_lets s1
  have h1 : s.noFuller s1 :=
    ((noFuller_sweepDeferred s).trans (noFuller_forLines noFuller_sweepLine _)).trans (noFuller_payDueList _)
  clear_value s1
  exact h1.beside rfl rfl

theorem inputLaw_powerUp (s : State) : (powerUp s).inputLaw := by
  have hreset : ({ operatingReset (finishAccess s) with mainPower := true } : State).inputLaw :=
    State.inputLaw_of_empty rfl
  have hend : ∀ u : State, u.noFuller (endSweep u) := fun u =>
    ((noFuller_latchLevels .t _).trans (noFuller_latchLevels .a _)).ofBeside rfl rfl
  exact ((noFuller_sweep _).trans (hend _)).inputLaw hreset

/-! ### The step -/

theorem inputLaw_next {u t : State} (hu : u.inputLaw) (ht : (.next u : Host.Outcome State Fault Refusal) = .next t) :
    t.inputLaw := Host.Outcome.next.inj ht ▸ hu

/-- A row whose operation keeps the law, taken by the powered part. -/
theorem inputLaw_powered {f : State → State} {s t : State} (hf : s.inputLaw → (f s).inputLaw) (hs : s.inputLaw)
    (ht : (.next (whenPowered s f) : Host.Outcome State Fault Refusal) = .next t) : t.inputLaw := by
  refine inputLaw_next ?_ ht
  unfold whenPowered
  split
  · exact hf hs
  · exact hs

/-- A row whose operation does not load the queue. -/
theorem inputLaw_row {f : State → State} {s t : State} (hf : s.noFuller (f s)) (hs : s.inputLaw)
    (ht : (.next (whenPowered s f) : Host.Outcome State Fault Refusal) = .next t) : t.inputLaw :=
  inputLaw_powered hf.inputLaw hs ht

/-- A command row, by what its work does to the load. -/
theorem inputLaw_command {p : PortId} {c : Instr} {work : State → State} {s t : State}
    (hw : ∀ s : State, s.noFuller (work s)) (hs : s.inputLaw)
    (ht : (.next (whenPowered s (give p c work)) : Host.Outcome State Fault Refusal) = .next t) : t.inputLaw :=
  inputLaw_row (noFuller_give p c hw s) hs ht

/-- Each row keeps the law: the two rows of characters and the verdict by the room that they ask for, the power events
by emptying the queue, and every other row by not loading it. -/
theorem inputLaw_exec {c : Instr} {s t : State} (hs : s.inputLaw) (ht : exec c s = .next t) : t.inputLaw := by
  cases c with
  | dataWrite p w => exact inputLaw_row (noFuller_dataWriteAt p w s) hs ht
  | dataRead p => exact inputLaw_row (noFuller_dataReadAt p s) hs ht
  | go p => exact inputLaw_row (noFuller_requestAt p _ s) hs ht
  | abortBuild p => exact inputLaw_row (noFuller_requestAt p _ s) hs ht
  | reread p => exact inputLaw_row (noFuller_requestAt p _ s) hs ht
  | controlWriteNoRequest p w => exact inputLaw_row (f := controlWriteAt p w) (noFuller_requestAt p _ s) hs ht
  | attentionWrite p w => exact inputLaw_row (noFuller_attentionWrite p w s) hs ht
  | maskWrite p w => exact inputLaw_row (f := maskWrite p w) (noFuller_modPort s p _) hs ht
  | groupSet p g rc cw sl lc ss rf ie => exact inputLaw_command (noFuller_workGroupSet p g rc cw sl lc ss rf ie) hs ht
  | lineEnable p line on => exact inputLaw_command (noFuller_workLineEnable p line on) hs ht
  | groupEnable p group on => exact inputLaw_command (noFuller_workGroupEnable p group on) hs ht
  | clearFault p line => exact inputLaw_command (noFuller_workClearFault p line) hs ht
  | lineTest p line speed => exact inputLaw_command (noFuller_workLineTest p line speed) hs ht
  | readLine p line => exact inputLaw_command (noFuller_workReadLine p line) hs ht
  | takeInput p maximum => exact inputLaw_command (noFuller_workTakeInput p maximum) hs ht
  | send p line serial count chars => exact inputLaw_command (noFuller_workSend p line serial count chars) hs ht
  | readSpace p => exact inputLaw_command (noFuller_workReadSpace p) hs ht
  | writeMessage p slot final offset count chars =>
    exact inputLaw_command (noFuller_workWriteMessage p slot final offset count chars) hs ht
  | setClock p y mo d h mi se wd => exact inputLaw_command (noFuller_workSetClock p _) hs ht
  | readClock p => exact inputLaw_command (fun s => noFuller_complete s p .ok false _) hs ht
  | tariffWrite p sc fb fi n ws => exact inputLaw_command (noFuller_workTariffWrite p sc fb fi n ws) hs ht
  | dayMapWrite p d1 d2 d3 d4 d5 d6 d7 =>
    exact inputLaw_command (noFuller_workDayMapWrite p d1 d2 d3 d4 d5 d6 d7) hs ht
  | classWrite p k su fl wa gr iw il ro fa lo => exact inputLaw_command (noFuller_workClassWrite p k _) hs ht
  | holdRequest p limit => exact inputLaw_command (noFuller_workHoldRequest p limit) hs ht
  | holdRelease p => exact inputLaw_command (noFuller_workHoldRelease p) hs ht
  | holdStatus p => exact inputLaw_command (fun s => noFuller_complete s p .ok false _) hs ht
  | readSession p line => exact inputLaw_command (noFuller_workReadSession p line) hs ht
  | setWatch p window limit => exact inputLaw_command (noFuller_workSetWatch p window limit) hs ht
  | watchStatus p => exact inputLaw_command (fun s => noFuller_complete s p .ok false _) hs ht
  | admission p vote => exact inputLaw_command (noFuller_workAdmission p vote) hs ht
  | peekBilling p => exact inputLaw_command (noFuller_workPeekBilling p) hs ht
  | releaseBilling p sequence => exact inputLaw_command (noFuller_workReleaseBilling p sequence) hs ht
  | commandTableAccess => exact inputLaw_row (noFuller_serveGranted s) hs ht
  | qualifiedRing i => exact inputLaw_row (noFuller_qualifiedRingOn i s) hs ht
  | ringGapExpiry i => exact inputLaw_row (noFuller_ringGapOver i s) hs ht
  | carrierPresent i => exact inputLaw_row (noFuller_carrierPresentOn i s) hs ht
  | carrierWaitExpiry i => exact inputLaw_row (noFuller_phaseOver _ i s) hs ht
  | carrierLoss i => exact inputLaw_row (noFuller_carrierLossOn i s) hs ht
  | speedMeasurement i m => exact inputLaw_row (noFuller_speedMeasuredOn i m s) hs ht
  | speedMarkWaitEnd i => exact inputLaw_row (f := markSeen i) (noFuller_keepSession s i rfl) hs ht
  | speedWaitExpiry i => exact inputLaw_row (noFuller_phaseOver _ i s) hs ht
  | hangupGuardExpiry i => exact inputLaw_row (noFuller_guardOver i s) hs ht
  | stuckCarrier i => exact inputLaw_row (noFuller_stuckCarrierOn i s) hs ht
  | ringStuck i => exact inputLaw_row (noFuller_ringStuckOn i s) hs ht
  | lineTestEnd i => exact inputLaw_row (noFuller_lineTestEnded i s) hs ht
  | characterReceived i d stop => exact inputLaw_powered (inputLaw_receive i d (!stop)) hs ht
  | breakReceived i => exact inputLaw_powered (inputLaw_receiveBreak i) hs ht
  | characterSent i => exact inputLaw_row (noFuller_characterEnded i s) hs ht
  | signOnTimerExpiry i => exact inputLaw_row (noFuller_signOnOver i s) hs ht
  | verdict => exact inputLaw_powered inputLaw_verdictGranted hs ht
  | clockAdvance => exact inputLaw_next ((noFuller_clockTick s).inputLaw hs) ht
  | rememberedTickPass => exact inputLaw_row (noFuller_passOn s) hs ht
  | meteringPassAccess => exact inputLaw_row (f := fun s => (passStep s).1) (noFuller_passStep s) hs ht
  | graceTimerExpiry i => exact inputLaw_row (noFuller_passStepOn i _ s) hs ht
  | idleLimit i => exact inputLaw_row (noFuller_passStepOn i _ s) hs ht
  | idleWarnThreshold i => exact inputLaw_row (noFuller_passStepOn i _ s) hs ht
  | closeAccountWork => exact inputLaw_row (noFuller_closeWorkGranted s) hs ht
  | holdGrant => exact inputLaw_row (noFuller_holdGrantOn s) hs ht
  | holdLimitExpiry => exact inputLaw_row (noFuller_holdLimitOver s) hs ht
  | releasePosting => exact inputLaw_row (noFuller_releasePostingOn s) hs ht
  | secondsDueAccess => exact inputLaw_row (noFuller_secondsDueOn s) hs ht
  | watchTimerExpiry => exact inputLaw_row (noFuller_watchTimerOver s) hs ht
  | holdDownExpiry => exact inputLaw_row (noFuller_holdDownExpired s) hs ht
  | scan ring carrier => exact inputLaw_row (noFuller_scanAll ring carrier s) hs ht
  | mainPowerFailure => exact inputLaw_next (State.inputLaw_of_empty (by rfl)) ht
  | mainPowerUp => exact inputLaw_next (inputLaw_powerUp s) ht
  | reset => exact inputLaw_powered (fun _ => inputLaw_powerUp s) hs ht
  | retainedPowerUp => exact inputLaw_next (State.inputLaw_of_empty (by rfl)) ht
  -- what is left is the commands with table work, which their port's access makes
  | _ => exact inputLaw_command (noFuller_serveNext _) hs ht

/-- Settles O56: every row keeps the law, and the step runs the row at the front of its queue. -/
theorem everyStepKeepsTheInputLaw : Obligations.EveryStepKeepsTheInputLaw := by
  intro s t hs ht
  unfold step at ht
  split at ht
  · cases ht; exact hs
  · next c rest _ =>
    have hrest : ({ s with pending := rest } : State).inputLaw := hs
    exact inputLaw_exec hrest ht

end Sys2Proof.Machine
end

section
/-! PROOFS. The transport commands that take and stage (TAKE INPUT, READ SPACE, WRITE MESSAGE: R35, R39, R41), and the
characters and breaks of a session (R29, R31 to R34). -/

namespace Sys2Proof.Machine

/-! ### TAKE INPUT and READ SPACE (R35, R39, R58) -/

theorem allLines_ascending : allLines.Pairwise (· < ·) := by decide

/-- TAKE INPUT with a maximum in its range (R35): with an empty queue nothing leaves and no mark is cleared. -/
theorem workTakeInput_ok {p : PortId} {m : Word} (s : State) (hlow : 1 ≤ m.toNat) (hhigh : m.toNat ≤ 32) :
    workTakeInput p m s = complete p .ok false
      (w16 (min m.toNat s.input.length) :: (s.input.take m.toNat).flatMap InputEntry.words)
      (if s.input = [] then s else arbitrate (clearWaiting { s with input := s.input.drop m.toNat })) := by
  have hrange : inRange m.toNat 1 32 = true := (inRange_iff _ _ _).mpr ⟨hlow, hhigh⟩
  have hempty : (s.input.take m.toNat).isEmpty = true ↔ s.input = [] := by
    rw [List.isEmpty_iff, List.take_eq_nil_iff]
    exact or_iff_right (by omega)
  simp only [workTakeInput, if_pos hrange, List.length_take, completeOk]
  by_cases h : s.input = []
  · have hsame : { s with input := s.input.drop m.toNat } = s := by
      rw [h, List.drop_nil, ← h]
    rw [if_pos (hempty.mpr h), if_pos h, hsame]
  · rw [if_neg (mt hempty.mp h), if_neg h]

theorem workTakeInput_bad {p : PortId} {m : Word} (s : State) (h : m.toNat = 0 ∨ 32 < m.toNat) :
    workTakeInput p m s = refuse p .badArgument s := by
  have hrange : ¬ inRange m.toNat 1 32 = true := fun hr => by
    have := (inRange_iff _ _ _).mp hr
    omega
  rw [workTakeInput, if_neg hrange]

/-- Settles O21: the range of the maximum decides, and the space set is the marked lines in line order. -/
theorem takeInputAndReadSpaceDrain : Obligations.TakeInputAndReadSpaceDrain := by
  refine ⟨fun p m s hrun => ?_, fun p s hrun => ?_⟩
  · rw [exec_running (work := workTakeInput p m) rfl hrun]
    refine ⟨fun hlow hhigh => ?_, fun hbad => ?_⟩
    · rw [workTakeInput_ok s hlow hhigh]; rfl
    · rw [workTakeInput_bad s hbad]; rfl
  · rw [exec_running (work := workReadSpace p) rfl hrun]
    refine ⟨s.spaceSet, (s.mapLines fun _ l => { l with inSpaceSet := false }).lines, ?_, fun i => ?_, fun i => ?_, rfl⟩
    · exact allLines_ascending.filter _
    · simp [State.spaceSet]
    · exact s.line_mapLines _ i

/-! ### WRITE MESSAGE (R41) -/

/-- The whole text goes to its slot at the final part, and to the staging area at another. -/
theorem acceptMessage_eq (p : PortId) (k : Fin 16) (final : Bool) (text : List Byte) (s : State) :
    acceptMessage p k final text s = complete p .ok false []
      (if final then { s with slots := s.slots.set k text, stagingSlot := none, staged := [] }
        else { s with stagingSlot := some k.val, staged := text }) := by
  cases final <;> rfl

/-- WRITE MESSAGE with slot, count and offset in range, by the offset. -/
theorem workWriteMessage_inRange {p : PortId} {sl : Byte} {final : Bool} {o c : Word} {cs : List Byte} {k : Fin 16}
    (s : State) (hk : k.val = sl.toNat) (hc : c.toNat ≤ 32) (hsum : o.toNat + c.toNat ≤ 128) :
    workWriteMessage p sl final o c cs s =
      if o.toNat = 0 then acceptMessage p k final cs s
      else if s.stagingSlot = some k.val ∧ o.toNat = s.staged.length then acceptMessage p k final (s.staged ++ cs) s
      else refuse p .badArgument { s with stagingSlot := none, staged := [] } := by
  obtain ⟨v, hv⟩ := k
  dsimp only at hk
  subst hk
  rw [workWriteMessage, dif_pos hv, if_pos ⟨by omega, hc, hsum⟩]

theorem workWriteMessage_outOfRange {p : PortId} {sl : Byte} {final : Bool} {o c : Word} {cs : List Byte} (s : State)
    (h : 16 ≤ sl.toNat ∨ 32 < c.toNat ∨ 128 < o.toNat + c.toNat) :
    workWriteMessage p sl final o c cs s = refuse p .badArgument s := by
  unfold workWriteMessage
  split
  · rw [if_neg (by omega)]
  · rfl

/-- Settles O23: by the offset, the staging area starts anew, goes on, or is emptied with the refusal. -/
theorem writeMessageStagesAndInstalls : Obligations.WriteMessageStagesAndInstalls := by
  intro p sl fin o c cs s hrun
  rw [exec_running (work := workWriteMessage p sl fin o c cs) rfl hrun]
  refine ⟨fun k hk hc hsum => ?_, fun hbad => ?_⟩
  · have hzero : o.toNat = 0 ↔ o = 0 := by simp [BitVec.toNat_eq]
    rw [workWriteMessage_inRange s hk hc hsum]
    refine ⟨fun ho => ?_, fun ho hstaging hlength => ?_, fun ho hother => ?_⟩
    · rw [if_pos (hzero.mpr ho), acceptMessage_eq]
    · rw [if_neg (mt hzero.mp ho), if_pos ⟨hstaging, hlength.symm⟩, acceptMessage_eq]
    · have hno : ¬ (s.stagingSlot = some k.val ∧ o.toNat = s.staged.length) := fun ⟨hslot, hlength⟩ =>
        hother.elim (fun h => h hslot) fun h => h hlength.symm
      rw [if_neg (mt hzero.mp ho), if_neg hno]
      rfl
  · rw [workWriteMessage_outOfRange s hbad]
    rfl

/-! ### Session characters (R29, R31 to R34) -/

theorem setOverrun_eq (i : LineId) (s : State) : setOverrun i s = s.setLine i { s.line i with overrun := true } := rfl

/-- An idle event on a line with a session part (R34). -/
theorem idleEvent_eq {i : LineId} {s : State} {x : Session} (h : (s.line i).session = some x) :
    idleEvent i s = s.setLine i { s.line i with session := some { x with activity := true } } := by
  simp [idleEvent, State.modSession, State.modLine_eq, h]

theorem idleEvent_openCount (i : LineId) (s : State) : (idleEvent i s).openCount = s.openCount := by
  have h := openCount_change (s := s) (t := idleEvent i s) (State.sameLinesBut_setLine s i _)
  have hopened : ((idleEvent i s).line i).opened = (s.line i).opened := by
    simp only [idleEvent, State.modSession, State.line_modLine, LineRec.opened]
    cases (s.line i).session <;> rfl
  rw [hopened] at h
  omega

theorem idleEvent_roomForInput (i : LineId) (s : State) : (idleEvent i s).roomForInput = s.roomForInput := by
  unfold State.roomForInput
  rw [idleEvent_openCount]
  rfl

/-- An entry placed, seen as a change of the queue and of the INPUT latch (R28). -/
theorem placeInput_eq (e : InputEntry) (s : State) :
    placeInput e s = { s with input := s.input ++ [e], tPort := s.tPort.latch TCause.input.bit } := rfl

/-- A character or a break of a METERED or GRACE session is an idle event and is offered; of a HELD one it is lost. -/
theorem receive_session {i : LineId} {s : State} (d : Byte) (framing : Bool) {x : Session}
    (hstate : (s.line i).state = .session) (hx : (s.line i).session = some x) :
    (x.state = .metered ∨ x.state = .grace → receive i d framing s = offerChar i d framing (idleEvent i s) ∧
      receiveBreak i s = offerBreak i (idleEvent i s)) ∧
    (x.state = .held → receive i d framing s = setOverrun i s ∧ receiveBreak i s = setOverrun i s) ∧
    (x.state = .closing → receive i d framing s = s ∧ receiveBreak i s = s) := by
  have hmap : (s.session i).map Session.state = some x.state := by rw [State.session, hx]; rfl
  refine ⟨fun h => ?_, fun h => ?_, fun h => ?_⟩
  · rcases h with h | h <;> simp [receive, receiveBreak, hstate, hmap, h]
  · simp [receive, receiveBreak, hstate, hmap, h]
  · simp [receive, receiveBreak, hstate, hmap, h]

/-- Settles O24: by the state of the session, and in METERED and GRACE by the reserve of R29. -/
theorem receivedCharactersAreOffered : Obligations.ReceivedCharactersAreOffered := by
  intro i d stop x s hp hstate hx room active input
  rw [exec_powered (f := receive i d (!stop)) rfl hp, exec_powered (f := receiveBreak i) rfl hp]
  obtain ⟨hactive, hheld, hclosed⟩ := receive_session d (!stop) hstate hx
  have hline : (idleEvent i s).line i = active := by rw [idleEvent_eq hx, State.line_setLine]
  refine ⟨fun h => ?_, fun h => ?_, fun h => ?_⟩
  · obtain ⟨hchar, hbreak⟩ := hactive h
    rw [hchar, hbreak]
    refine ⟨fun hroom => ?_, fun hfull => ?_⟩
    · have hr : (idleEvent i s).roomForInput = true :=
        (idleEvent_roomForInput i s).trans (s.roomForInput_iff.mpr hroom)
      rw [offerChar, if_pos hr, offerBreak, if_pos hr, placeInput_eq, placeInput_eq, hline, idleEvent_eq hx]
      refine ⟨?_, rfl⟩
      simp [State.modLine, State.setLine, State.line, Bank.set_set, active, input]
    · have hr : ¬ (idleEvent i s).roomForInput = true := fun h => by
        rw [idleEvent_roomForInput] at h
        exact hfull (s.roomForInput_iff.mp h)
      rw [offerChar, if_neg hr, offerBreak, if_neg hr, setOverrun_eq, hline, idleEvent_eq hx, State.setLine_setLine]
      exact ⟨rfl, rfl⟩
  · obtain ⟨hchar, hbreak⟩ := hheld h
    rw [hchar, hbreak, setOverrun_eq]
    exact ⟨rfl, rfl⟩
  · obtain ⟨hchar, hbreak⟩ := hclosed h
    rw [hchar, hbreak]
    exact ⟨rfl, rfl⟩

end Sys2Proof.Machine
end

section
/-! PROOFS. The transmitter's choice by the state of the line (R38, R42 to R46, R50, R67, R24), and the looped character
(R24). -/

namespace Sys2Proof.Machine

/-! ### What the sources give -/

/-- The character in progress on line i has ended, and the next is not yet chosen (R42). -/
def State.txEnded (s : State) (i : LineId) : State := s.setLine i { s.line i with txChar := none }

theorem State.txEnded_line (s : State) (i : LineId) : (s.txEnded i).line i = { s.line i with txChar := none } :=
  s.line_setLine i _

theorem State.txEnded_setLine (s : State) (i : LineId) (l : LineRec) : (s.txEnded i).setLine i l = s.setLine i l :=
  s.setLine_setLine i _ l

/-- The item in progress is not touched by the end of a character. -/
theorem State.txEnded_continued (s : State) (i : LineId) :
    (s.txEnded i).continued ((s.txEnded i).line i) = s.continued (s.line i) := by
  rw [s.txEnded_line]; rfl

/-- CHARACTER_SENT with a character in progress: it ends, and the transmitter chooses (R42). -/
theorem exec_characterSent {i : LineId} {s : State} (hp : s.mainPower = true) (h : (s.line i).txChar ≠ none) :
    exec (.characterSent i) s = .next (choose i (s.txEnded i)) := by
  rw [exec_powered (f := characterEnded i) rfl hp, characterEnded, if_pos (Option.isSome_iff_ne_none.mpr h)]
  rfl

theorem State.itemChar_slot {s : State} {k : Fin 16} {c : Byte} {text : List Byte} (h : s.slots.get k = c :: text) :
    s.itemChar (.slot k.val) 0 = some c := by
  rw [State.itemChar, s.slotText_val, h]; rfl

theorem State.itemChar_emptySlot {s : State} {k : Fin 16} (h : s.slots.get k = []) :
    s.itemChar (.slot k.val) 0 = none := by
  rw [State.itemChar, s.slotText_val, h]; rfl

/-! ### SESSION (R38, R43, R44) -/

theorem choose_session {i : LineId} {s : State} (h : (s.line i).state = .session) : choose i s = chooseSession i s := by
  simp only [choose, h]

theorem chooseSession_continued {i : LineId} {s : State} {c : Byte} {it : OutItem} {n : Nat}
    (h : s.continued (s.line i) = some (c, it, n)) :
    chooseSession i s = s.setLine i ((s.line i).sending (some c) (some (it, n + 1))) := by
  simp only [chooseSession, h, State.modLine_eq]

theorem chooseSession_message {i : LineId} {s : State} {c : Byte} {text : List Byte} {k : Fin 16} {rest : List Nat}
    (h : s.continued (s.line i) = none) (hm : (s.line i).messages = k.val :: rest) (hk : s.slots.get k = c :: text) :
    chooseSession i s =
      s.setLine i { (s.line i).sending (some c) (some (.slot k.val, 1)) with messages := rest } := by
  have hnext : s.nextMessage (k.val :: rest) = some (k.val, rest, c) := by
    rw [State.nextMessage, State.itemChar_slot hk]
  simp only [chooseSession, h, hm, hnext, State.modLine_eq]

theorem chooseSession_idle {i : LineId} {s : State} (h : s.continued (s.line i) = none)
    (hm : (s.line i).messages = []) (hb : (s.line i).buffer = []) :
    chooseSession i s = s.setLine i ((s.line i).sending none none) := by
  have hsame : { (s.line i).sending none none with messages := [] } = (s.line i).sending none none := by
    rw [← hm]; rfl
  simp only [chooseSession, h, hm, hb, State.nextMessage, State.modLine_eq, hsame]

/-- A session with its activity mark set where the group counts output as activity (R44). -/
def Session.sentTo (x : Session) (counts : Bool) : Session := { x with activity := x.activity || counts }

/-- A line that takes the oldest character of its buffer; `joins` says whether it joins the space set (R38, R44). -/
def LineRec.buffered (l : LineRec) (c : Byte) (rest : List Byte) (joins counts : Bool) : LineRec :=
  { l with
    txChar := some c, txItem := none, buffer := rest, notice := l.notice && !joins, inSpaceSet := l.inSpaceSet || joins
    messages := [], session := l.session.map fun x => x.sentTo counts }

theorem Session.sentTo_false (x : Session) : x.sentTo false = x := by
  cases x; simp [Session.sentTo]

theorem Session.sentTo_true (x : Session) : x.sentTo true = { x with activity := true } := by
  cases x; simp [Session.sentTo]

theorem bufferFree_eq_64 (n : Nat) : Config.bufferCapacity - n = 64 ↔ n = 64 := by
  unfold Config.bufferCapacity; omega

theorem Session.map_sentTo_false (o : Option Session) : (o.map fun x => x.sentTo false) = o := by
  cases o <;> simp [Session.sentTo_false]

/-- The state with line i's record and the T port's unit replaced: all that the choice of a buffered character
changes. -/
def State.setLineAndT (s : State) (i : LineId) (l : LineRec) (u : PortUnit) : State :=
  { s.setLine i l with tPort := u }

theorem idleEvent_setLineAndT (i : LineId) (s : State) (l : LineRec) (u : PortUnit) :
    idleEvent i (s.setLineAndT i l u) =
      s.setLineAndT i { l with session := l.session.map fun x => x.sentTo true } u := by
  simp [State.setLineAndT, idleEvent, State.modSession, State.modLine, State.setLine, State.line, Bank.set_set,
    Session.sentTo_true]

/-- A character taken from the buffer in SESSION: one line changes, and the SPACE latch where it joins the space set. -/
theorem takeBuffered_eq (i : LineId) (c : Byte) (rest : List Byte) (s : State) :
    let joins := (s.line i).notice && decide (rest.length = 64)
    takeBuffered i c rest s = s.setLineAndT i ((s.line i).buffered c rest joins (s.lineGroup i).idleTx)
      (if joins then s.tPort.latch TCause.space.bit else s.tPort) := by
  intro joins
  have hjoins : ((s.line i).notice && decide (Config.bufferCapacity - rest.length = 64)) = joins := by
    simp only [joins, bufferFree_eq_64]
  unfold takeBuffered
  extract_lets j s1 s2
  have h2 : s2 = s.setLineAndT i ((s.line i).buffered c rest joins false)
      (if joins then s.tPort.latch TCause.space.bit else s.tPort) := by
    have h1 : s1 = s.setLine i ((s.line i).buffered c rest joins false) := by
      simp only [s1, j, hjoins, State.modLine_eq, LineRec.buffered, Session.map_sentTo_false]
      rfl
    simp only [s2, j, hjoins, h1]
    cases joins <;> rfl
  have hgroup : s2.lineGroup i = s.lineGroup i := by rw [h2]; rfl
  rw [hgroup, h2]
  cases (s.lineGroup i).idleTx with
  | false => rfl
  | true =>
    rw [if_pos rfl, idleEvent_setLineAndT]
    simp only [LineRec.buffered, Session.map_sentTo_false]

theorem chooseSession_buffer {i : LineId} {s : State} {c : Byte} {rest : List Byte}
    (h : s.continued (s.line i) = none) (hm : (s.line i).messages = []) (hb : (s.line i).buffer = c :: rest) :
    chooseSession i s = takeBuffered i c rest s := by
  simp only [chooseSession, h, hm, hb, State.nextMessage]

/-! ### CLOSING (R45, R46) -/

theorem choose_closing {i : LineId} {s : State} (h : (s.line i).state = .closing) : choose i s = chooseClosing i s := by
  simp only [choose, h]

theorem chooseClosing_continued {i : LineId} {s : State} {c : Byte} {it : OutItem} {n : Nat}
    (h : s.continued (s.line i) = some (c, it, n)) :
    chooseClosing i s = s.setLine i ((s.line i).sending (some c) (some (it, n + 1))) := by
  simp only [chooseClosing, h, State.modLine_eq]

theorem chooseClosing_buffer {i : LineId} {s : State} {c : Byte} {rest : List Byte}
    (h : s.continued (s.line i) = none) (hb : (s.line i).buffer = c :: rest) :
    chooseClosing i s = s.setLine i { (s.line i).sending (some c) none with buffer := rest } := by
  simp only [chooseClosing, h, hb, State.modLine_eq]

theorem chooseClosing_message {i : LineId} {s : State} {c : Byte} {text : List Byte} {k : Fin 16}
    (h : s.continued (s.line i) = none) (hb : (s.line i).buffer = []) (hk : (s.line i).closingSlot = some k.val)
    (htext : s.slots.get k = c :: text) :
    chooseClosing i s =
      s.setLine i { (s.line i).sending (some c) (some (.slot k.val, 1)) with closingSlot := none } := by
  simp only [chooseClosing, h, hb, hk, Option.bind_some, State.itemChar_slot htext, Option.map_some, State.modLine_eq]

/-- With nothing left to send, an empty closing slot included, the line goes by its account work (R19, R45, R146). -/
theorem chooseClosing_done {i : LineId} {s : State} (h : s.continued (s.line i) = none) (hb : (s.line i).buffer = [])
    (hk : (s.line i).closingSlot = none ∨ ∃ k : Fin 16, (s.line i).closingSlot = some k.val ∧ s.slots.get k = []) :
    chooseClosing i s = endClosing i (s.setLine i { (s.line i).sending none none with closingSlot := none }) := by
  rcases hk with hk | ⟨k, hk, htext⟩
  · simp only [chooseClosing, h, hb, hk, Option.bind_none, State.modLine_eq]
  · simp only [chooseClosing, h, hb, hk, Option.bind_some, State.itemChar_emptySlot htext, Option.map_none,
      State.modLine_eq]

theorem endClosing_pending {i : LineId} {s : State} (h : (s.line i).session.any (·.work == some .pending) = true) :
    endClosing i s = s := if_pos h

theorem endClosing_settled {i : LineId} {s : State} (h : (s.line i).session.any (·.work == some .pending) = false) :
    endClosing i s = hangup i s := if_neg (by rw [State.session, h]; decide)

/-! ### SIGNON (R50, R67) -/

theorem choose_signOn {i : LineId} {s : State} (h : (s.line i).state = .signOn) : choose i s = chooseSignOn i s := by
  simp only [choose, h]

/-- A character chosen from the sign-on output list. -/
theorem chooseSignOn_sends {i : LineId} {s : State} {q : SignOnPart} {output : List OutItem} {n : Nat} {c : Byte}
    (hq : (s.line i).signOn = some q) (h : s.nextOutput q.output q.outPos = (output, n, some c)) :
    chooseSignOn i s = s.setLine i
      { (s.line i).sending (some c) none with signOn := some { q with output := output, outPos := n } } := by
  simp only [chooseSignOn, hq, h, State.modLine_eq]
  rw [if_neg (by simp)]

/-- Nothing is left on the sign-on output list; in REFUSING this ends the call (R67). -/
theorem chooseSignOn_done {i : LineId} {s : State} {q : SignOnPart} (hq : (s.line i).signOn = some q)
    (h : s.nextOutput q.output q.outPos = ([], 0, none)) :
    chooseSignOn i s =
      let u := s.setLine i
        { (s.line i).sending none none with signOn := some { q with output := [], outPos := 0 } }
      if q.phase = .refusing then hangup i u else u := by
  simp only [chooseSignOn, hq, h, State.modLine_eq, true_and]

/-- The whole text of an output item (R50). -/
def State.itemText (s : State) : OutItem → List Byte
  | .slot k => s.slotText k
  | .echo c => [c]
  | .erase => [0x08, 0x20, 0x08]

theorem State.itemChar_eq (s : State) (it : OutItem) (n : Nat) : s.itemChar it n = (s.itemText it)[n]? := by
  cases it <;> rfl

theorem State.nextOutput_goes_on {s : State} {it : OutItem} {rest : List OutItem} {n : Nat} {c : Byte}
    (h : (s.itemText it)[n]? = some c) : s.nextOutput (it :: rest) n = (it :: rest, n + 1, some c) := by
  rw [State.nextOutput, State.itemChar_eq, h]

/-- An item that is over leaves the list (R50). -/
theorem State.nextOutput_over {s : State} {it : OutItem} {rest : List OutItem} {n : Nat}
    (h : (s.itemText it).length ≤ n) : s.nextOutput (it :: rest) n = s.nextOutput rest 0 := by
  rw [State.nextOutput, State.itemChar_eq, List.getElem?_eq_none h]

/-! ### TEST (R24) -/

theorem choose_test {i : LineId} {s : State} (h : (s.line i).state = .test) : choose i s = chooseTest i s := by
  simp only [choose, h]

theorem chooseTest_continued {i : LineId} {s : State} {c : Byte} {it : OutItem} {n : Nat} {q : TestPart}
    (h : s.continued (s.line i) = some (c, it, n)) (hq : (s.line i).test = some q) :
    chooseTest i s = s.setLine i
      { (s.line i).sending (some c) (some (it, n + 1)) with
        test := some { q with sent := q.sent + 1, awaiting := q.awaiting ++ [c] } } := by
  simp only [chooseTest, h, State.modLine_eq, hq, Option.map_some]

theorem chooseTest_over {i : LineId} {s : State} (h : s.continued (s.line i) = none) :
    chooseTest i s = s.setLine i { s.line i with txChar := none } := by
  simp only [chooseTest, h, State.modLine_eq]

/-- A looped character in TEST is judged, and nothing else changes (R24). -/
theorem receive_test {i : LineId} {s : State} {q : TestPart} (d : Byte) (framing : Bool)
    (hstate : (s.line i).state = .test) (hq : (s.line i).test = some q) :
    receive i d framing s = s.setLine i { s.line i with test := some (judgeLooped d framing q) } := by
  simp only [receive, hstate, State.modLine_eq, hq, Option.map_some]

end Sys2Proof.Machine
end

section
/-! PROOFS. The statements on the transmitter (R42 to R46, R50, R67, R24) and on SEND (R37). -/

namespace Sys2Proof.Machine

/-! ### The transmitter -/

theorem mismatch_iff (stop : Bool) (d c : Byte) : (!stop || d != c) = true ↔ stop = false ∨ d ≠ c := by
  cases stop <;> simp

/-- A looped character judged against the oldest one sent (R24). -/
theorem judgeLooped_cons {q : TestPart} {c : Byte} {rest : List Byte} (d : Byte) (stop : Bool)
    (h : q.awaiting = c :: rest) :
    judgeLooped d (!stop) q = { q with
      awaiting := rest, mismatches := if stop = false ∨ d ≠ c then q.mismatches + 1 else q.mismatches } := by
  simp only [judgeLooped, h, mismatch_iff]

theorem judgeLooped_nil {q : TestPart} (d : Byte) (framing : Bool) (h : q.awaiting = []) :
    judgeLooped d framing q = q := by
  simp only [judgeLooped, h]

theorem State.setLine_self (s : State) (i : LineId) : s.setLine i (s.line i) = s := by
  rw [State.setLine, State.line, Bank.set_get_self]

/-- A line in CLOSING with nothing left to send: it waits for its account work, or it hangs up (R19, R45, R146). -/
theorem endClosing_spec {i : LineId} {s : State} (hs : (s.line i).state = .closing) (hc : (s.line i).txChar = none)
    (hk : (s.line i).closingSlot = none) :
    ((endClosing i s).line i).txChar = none ∧ ((endClosing i s).line i).closingSlot = none ∧
      ((s.line i).session.any (·.work == some .pending) = true → endClosing i s = s) ∧
      ((s.line i).session.any (·.work == some .pending) = false →
        ((endClosing i s).line i).state = .hangup ∧ ((endClosing i s).line i).phaseTimer = some 20 ∧
          ((endClosing i s).line i).session = none) := by
  cases hw : (s.line i).session.any (·.work == some .pending) with
  | true =>
    rw [endClosing_pending hw]
    exact ⟨hc, hk, fun _ => rfl, fun h => absurd h (by decide)⟩
  | false =>
    obtain ⟨hline, -⟩ := hangup_spec i s
    rw [endClosing_settled hw, hline, LineRec.hungUp_eq (by rw [hs]; decide)]
    exact ⟨rfl, rfl, fun h => absurd h (by decide), fun _ => ⟨rfl, rfl, rfl⟩⟩

/-- Settles O25: in each state the source that the rule names is the first that has something to send. -/
theorem transmitterChoosesInOrder : Obligations.TransmitterChoosesInOrder := by
  refine ⟨fun i s hp hc => ?_, fun i d stop q s hp hstate hq => ?_⟩
  · intro l text
    let u := s.txEnded i
    have hline : u.line i = { l with txChar := none } := s.txEnded_line i
    have hset : ∀ m, u.setLine i m = s.setLine i m := s.txEnded_setLine i
    have hcont : u.continued (u.line i) = s.continued l := s.txEnded_continued i
    have hstate : (u.line i).state = l.state := by rw [hline]
    have hothers : s.sameLinesBut u i := State.sameLinesBut_setLine s i _
    rw [exec_characterSent hp hc]
    refine ⟨fun hs => ?session, fun hs c it n h => ?going, fun hs hnone => ?closing, fun q hs hq => ?signOn,
      fun q hs hq => ?test⟩
    case session =>
      rw [choose_session (hstate.trans hs)]
      refine ⟨fun c it n h => ?_, fun c text k rest h hm hk => ?_, fun c rest h hm hb => ?_, fun h hm hb => ?_⟩
      · rw [chooseSession_continued (hcont.trans h), hset, hline]; rfl
      · rw [chooseSession_message (hcont.trans h) (by rw [hline]; exact hm) hk, hset, hline]; rfl
      · refine ⟨_, rfl, ?_⟩
        rw [chooseSession_buffer (hcont.trans h) (by rw [hline]; exact hm) (by rw [hline]; exact hb),
          takeBuffered_eq, hline]
        refine ⟨fun j hj => ?_, rfl, ?_, rfl⟩
        · exact (u.line_setLine_ne _ (Ne.symm hj)).trans (hothers j hj)
        · refine (u.line_setLine i _).trans ?_
          rw [LineRec.buffered, ← hm]
          rfl
      · rw [chooseSession_idle (hcont.trans h) (by rw [hline]; exact hm) (by rw [hline]; exact hb), hset, hline]
        rfl
    case going =>
      rw [choose_closing (hstate.trans hs), chooseClosing_continued (hcont.trans h), hset, hline]
      rfl
    case closing =>
      rw [choose_closing (hstate.trans hs)]
      refine ⟨fun c rest hb => ?_, fun c text k hb hk htext => ?_, fun hb hk => ⟨_, rfl, ?_⟩⟩
      · rw [chooseClosing_buffer (hcont.trans hnone) (by rw [hline]; exact hb), hset, hline]; rfl
      · rw [chooseClosing_message (hcont.trans hnone) (by rw [hline]; exact hb) (by rw [hline]; exact hk) htext, hset,
          hline]
        rfl
      · rw [chooseClosing_done (hcont.trans hnone) (by rw [hline]; exact hb) (by rw [hline]; exact hk), hset, hline]
        let m : LineRec := { l with txChar := none, txItem := none, closingSlot := none }
        have hm : (s.setLine i m).line i = m := s.line_setLine i m
        obtain ⟨hchar, hslot, hpending, hsettled⟩ := endClosing_spec (i := i) (s := s.setLine i m)
          (by rw [hm]; exact hs) (by rw [hm]) (by rw [hm])
        rw [hm] at hpending hsettled
        refine ⟨hchar, hslot, fun hw => ?_, hsettled⟩
        have hwait : endClosing i (s.setLine i m) = s.setLine i m := hpending hw
        show ((endClosing i (s.setLine i m)).line i).state = _ ∧ s.sameLinesBut (endClosing i (s.setLine i m)) i
        rw [hwait, hm]
        exact ⟨hs, State.sameLinesBut_setLine s i m⟩
    case signOn =>
      have hpart : (u.line i).signOn = some q := by rw [hline]; exact hq
      have htext : ∀ it, u.itemText it = text it := fun it => by cases it <;> rfl
      have hsends : ∀ output n c, u.nextOutput q.output q.outPos = (output, n, some c) →
          choose i u = s.setLine i
            { l with txChar := some c, txItem := none, signOn := some { q with output := output, outPos := n } } := by
        intro output n c h
        rw [choose_signOn (hstate.trans hs), chooseSignOn_sends hpart h, hset, hline]
        rfl
      refine ⟨fun c it rest ho hc => ?_, fun c cs it jt rest ho hover hnext => ?_, fun hdone => ?_⟩
      · rw [hsends q.output (q.outPos + 1) c (by rw [ho, State.nextOutput_goes_on (by rw [htext]; exact hc)])]
      · rw [hsends (jt :: rest) 1 c]
        rw [ho, State.nextOutput_over (by rw [htext]; exact hover)]
        exact State.nextOutput_goes_on (by rw [htext, hnext]; rfl)
      · have hempty : u.nextOutput q.output q.outPos = ([], 0, none) := by
          rcases hdone with ho | ⟨it, ho, hover⟩
          · rw [ho]; rfl
          · rw [ho, State.nextOutput_over (by rw [htext]; exact hover)]; rfl
        rw [choose_signOn (hstate.trans hs), chooseSignOn_done hpart hempty, hset, hline]
        refine ⟨fun hphase => ?_, fun hphase => ⟨_, rfl, ?_⟩⟩
        · rw [if_neg hphase]; rfl
        · rw [if_pos hphase]
          obtain ⟨hhung, -⟩ := hangup_spec i (s.setLine i
            { LineRec.sending { l with txChar := none } none none with
              signOn := some { q with output := [], outPos := 0 } })
          rw [hhung]
          exact ⟨rfl, rfl, rfl, rfl⟩
    case test =>
      rw [choose_test (hstate.trans hs)]
      refine ⟨fun c it n h => ?_, fun h => ?_⟩
      · rw [chooseTest_continued (hcont.trans h) (by rw [hline]; exact hq), hset, hline]; rfl
      · rw [chooseTest_over (hcont.trans h), hset, hline]
  · rw [exec_powered (f := receive i d (!stop)) rfl hp, receive_test d (!stop) hstate hq]
    refine ⟨fun hnone => ?_, fun c rest hc => ?_⟩
    · rw [judgeLooped_nil d _ hnone, ← hq]
      exact congrArg _ (s.setLine_self i)
    · rw [judgeLooped_cons d stop hc]

/-! ### SEND (R37) -/

/-- A session that the serial names, in a line in SESSION (R37). -/
theorem State.sendable_iff (s : State) (i : LineId) (n : Nat) :
    s.sendable i n = true ↔ (s.line i).state = .session ∧ n ≠ 0 ∧
      ∃ x, (s.line i).session = some x ∧ x.state.isCharged = true ∧ x.serial = n := by
  unfold State.sendable State.namedSession State.session
  cases (s.line i).session with
  | none => simp
  | some x => simp [Option.filter, and_comm, and_assoc]

/-- SEND with its arguments in range, to a session that takes output (R37). -/
theorem workSend_ok {p : PortId} {n sr c : Word} {cs : List Byte} {i : LineId} (s : State) (hi : i.val = n.toNat)
    (hlow : 1 ≤ c.toNat) (hhigh : c.toNat ≤ 32) (hlen : cs.length = c.toNat) (hs : s.sendable i sr.toNat = true) :
    let free := 128 - (s.line i).buffer.length
    workSend p n sr c cs s =
      complete p .ok (decide (free < c.toNat)) [w16 (min free c.toNat)] (appendOutput i cs s) := by
  have hrange : inRange c.toNat 1 32 = true := (inRange_iff _ _ _).mpr ⟨hlow, hhigh⟩
  simp only [workSend, lineArg_val hi, hrange, hs, if_true, hlen]
  rfl

/-- What SEND appends: as much as fits, with the notice armed where not all does (R37). -/
def LineRec.appended (l : LineRec) (cs : List Byte) : LineRec :=
  let free := 128 - l.buffer.length
  { l with buffer := l.buffer ++ cs.take free, notice := l.notice || decide (free < cs.length) }

theorem appendOutput_eq (i : LineId) (cs : List Byte) (s : State) :
    appendOutput i cs s = kick i (s.setLine i ((s.line i).appended cs)) := rfl

theorem kick_busy {i : LineId} {s : State} (h : (s.line i).txChar ≠ none) : kick i s = s :=
  if_pos (Option.isSome_iff_ne_none.mpr h)

theorem kick_idle {i : LineId} {s : State} (h : (s.line i).txChar = none) : kick i s = choose i s :=
  if_neg (by simp [h])

theorem State.lineFrame.sameTables {s t : State} (h : s.lineFrame t) : s.sameTables t := by
  unfold State.lineFrame at h
  rw [h]
  exact ⟨rfl, rfl, rfl, rfl, rfl, rfl, rfl, rfl⟩

theorem State.lineFrame.input {s t : State} (h : s.lineFrame t) : t.input = s.input := by
  unfold State.lineFrame at h
  rw [h]

/-- An idle transmitter with nothing else to send takes the first character appended at once (R42, log entry 7). -/
theorem appendOutput_idle {i : LineId} {s : State} {cs : List Byte} (hs : (s.line i).state = .session)
    (hc : (s.line i).txChar = none) (hitem : (s.line i).txItem = none) (hm : (s.line i).messages = [])
    (hb : (s.line i).buffer = []) (hlow : 1 ≤ cs.length) (hhigh : cs.length ≤ 128) :
    ((appendOutput i cs s).line i).txChar = cs.head? ∧ ((appendOutput i cs s).line i).buffer = cs.tail ∧
      s.sameLinesBut (appendOutput i cs s) i := by
  obtain ⟨a, rest, rfl⟩ := List.exists_cons_of_length_pos hlow
  let u := s.setLine i ((s.line i).appended (a :: rest))
  have hline : u.line i = (s.line i).appended (a :: rest) := s.line_setLine i _
  have hbuffer : (u.line i).buffer = a :: rest := by
    rw [hline, LineRec.appended, hb]
    exact List.take_of_length_le hhigh
  have hnone : u.continued (u.line i) = none := by
    rw [hline, State.continued, show ((s.line i).appended (a :: rest)).txItem = none from hitem]
  have htake : appendOutput i (a :: rest) s = takeBuffered i a rest u := by
    rw [appendOutput_eq, kick_idle (by rw [hline]; exact hc), choose_session (by rw [hline]; exact hs),
      chooseSession_buffer hnone (by rw [hline]; exact hm) hbuffer]
  obtain ⟨joins, counts, port, htaken⟩ : ∃ joins counts port,
      appendOutput i (a :: rest) s = u.setLineAndT i ((u.line i).buffered a rest joins counts) port :=
    ⟨_, _, _, htake.trans (takeBuffered_eq i a rest u)⟩
  have hafter : (appendOutput i (a :: rest) s).line i = (u.line i).buffered a rest joins counts := by
    rw [htaken]; exact u.line_setLine i _
  refine ⟨by rw [hafter]; rfl, by rw [hafter]; rfl, fun j hj => ?_⟩
  rw [htaken]
  exact (u.line_setLine_ne _ (Ne.symm hj)).trans (State.sameLinesBut_setLine s i _ j hj)

theorem lineFrame_appendOutput (s : State) (i : LineId) (cs : List Byte) : s.lineFrame (appendOutput i cs s) :=
  (lineFrame_modLine s i _).trans (lineFrame_kick _ i)

/-- Settles O22: the buffer takes what fits, and an idle transmitter its first character. -/
theorem sendAppendsWhatFits : Obligations.SendAppendsWhatFits := by
  intro p n sr c cs s hrun
  rw [exec_running (work := workSend p n sr c cs) rfl hrun]
  refine ⟨fun i x hi hlow hhigh hlen hstate hx hcharged hserial hsr => ?_, fun i hi hlow hhigh hno => ?_,
    fun hbad => ?_⟩
  · have hzero : sr.toNat ≠ 0 := fun h => hsr (BitVec.eq_of_toNat_eq h)
    have hsend : s.sendable i sr.toNat = true := (s.sendable_iff i _).mpr
      ⟨hstate, hzero, x, hx, by rcases hcharged with h | h <;> rw [h] <;> rfl, hserial⟩
    rw [workSend_ok s hi hlow hhigh hlen hsend]
    refine ⟨fun hbusy => ?_, fun hidle hitem hmessages hbuffer => ?_⟩
    · rw [appendOutput_eq, kick_busy (by rw [State.line_setLine]; exact hbusy), ← hlen]
      rfl
    · obtain ⟨hchar, hrest, hothers⟩ := appendOutput_idle (cs := cs) hstate hidle hitem hmessages hbuffer
        (by omega) (by omega)
      have hframe := lineFrame_appendOutput s i cs
      have hfits : ¬ 128 < c.toNat := by omega
      have hcount : w16 (min 128 c.toNat) = c := by
        rw [Nat.min_eq_right (by omega), w16, BitVec.ofNat_toNat, BitVec.setWidth_eq]
      refine ⟨appendOutput i cs s, ?_, hchar, hrest, hothers, hframe.input, hframe.sameTables⟩
      rw [hbuffer, List.length_nil, Nat.sub_zero, hcount, decide_eq_false hfits]
  · have hnot : ¬ s.sendable i sr.toNat = true := fun h => by
      obtain ⟨hstate, hzero, x, hx, hcharged, hserial⟩ := (s.sendable_iff i _).mp h
      rcases hno with h | h | h
      · exact h hstate
      · exact hzero (by rw [h]; rfl)
      · exact (h x hx).elim (by simp [hcharged]) fun h => h hserial
    simp only [workSend, lineArg_val hi, (inRange_iff _ _ _).mpr ⟨hlow, hhigh⟩, if_true, if_neg hnot]
    rfl
  · by_cases hn : n.toNat < 32
    · have hrange : ¬ inRange c.toNat 1 32 = true := fun h => by
        have := (inRange_iff _ _ _).mp h
        omega
      simp only [workSend, lineArg_val (i := ⟨n.toNat, hn⟩) rfl, if_neg hrange]
      rfl
    · simp only [workSend, lineArg_none (Nat.not_lt.mp hn)]
      rfl

end Sys2Proof.Machine
end

section
/-! PROOFS. The sign-on dialog (R50 to R55, R66): the sign-on part of a line replaced, what its transmitter then
chooses, and what each character does to the part. -/

namespace Sys2Proof.Machine

/-! ### The sign-on part of a line -/

/-- The state with the sign-on part of line i replaced. -/
def State.setSignOn (s : State) (i : LineId) (r : SignOnPart) : State :=
  s.setLine i { s.line i with signOn := some r }

theorem State.setSignOn_line (s : State) (i : LineId) (r : SignOnPart) :
    (s.setSignOn i r).line i = { s.line i with signOn := some r } := s.line_setLine i _

theorem State.modSignOn_eq {s : State} {i : LineId} {q : SignOnPart} (f : SignOnPart → SignOnPart)
    (hq : (s.line i).signOn = some q) : s.modSignOn i f = s.setSignOn i (f q) := by
  rw [State.modSignOn, State.modLine_eq, hq]; rfl

theorem LineRec.signOn_self {l : LineRec} {q : SignOnPart} (hq : l.signOn = some q) :
    { l with signOn := some q } = l := by
  rw [← hq]

theorem State.setSignOn_self {s : State} {i : LineId} {q : SignOnPart} (hq : (s.line i).signOn = some q) :
    s.setSignOn i q = s := by
  rw [State.setSignOn, LineRec.signOn_self hq, State.setLine_self]

/-- The choice in SIGNON, by what the output list gives (R50, R67). -/
theorem chooseSignOn_eq {i : LineId} {s : State} {q : SignOnPart} (hq : (s.line i).signOn = some q) :
    chooseSignOn i s =
      let next := s.nextOutput q.output q.outPos
      let u := s.setLine i
        { (s.line i).sending next.2.2 none with signOn := some { q with output := next.1, outPos := next.2.1 } }
      if next.2.2 = none ∧ q.phase = .refusing then hangup i u else u := by
  simp only [chooseSignOn, hq, State.modLine_eq]

/-- Outside REFUSING the transmitter changes what is sent and the output list, and nothing else. -/
theorem kick_dialog {i : LineId} {s : State} {q : SignOnPart} (hs : (s.line i).state = .signOn)
    (hq : (s.line i).signOn = some q) (hphase : q.phase ≠ .refusing) :
    ∃ c it output n, kick i s = s.setLine i
      { s.line i with txChar := c, txItem := it, signOn := some { q with output := output, outPos := n } } := by
  by_cases hc : (s.line i).txChar = none
  · rw [kick_idle hc, choose_signOn hs, chooseSignOn_eq hq, if_neg fun h => hphase h.2]
    exact ⟨_, _, _, _, rfl⟩
  · refine ⟨(s.line i).txChar, (s.line i).txItem, q.output, q.outPos, ?_⟩
    rw [kick_busy hc]
    exact (State.setSignOn_self hq).symm

/-! ### What a character does to the part -/

/-- The output list with an echo placed, which only a list of fewer than 48 items takes (R50). -/
def SignOnPart.echoed (q : SignOnPart) (it : OutItem) : List OutItem :=
  if q.output.length < 48 then q.output ++ [it] else q.output

theorem SignOnPart.echo_eq (q : SignOnPart) (it : OutItem) : q.echo it = { q with output := q.echoed it } := by
  unfold SignOnPart.echo SignOnPart.echoed; split <;> rfl

/-- A digit in ID_ENTRY (R52). -/
theorem SignOnPart.idChar_digit (q : SignOnPart) {c : Byte} (hlow : 0x30 ≤ c.toNat) (hhigh : c.toNat ≤ 0x39) :
    q.idChar c =
      if q.entry.length < 6 then { q with entry := q.entry ++ [c], output := q.echoed (.echo c) } else q := by
  have hcr : c ≠ 0x0D := by rintro rfl; exact absurd hlow (by decide)
  rw [SignOnPart.idChar, if_neg hcr, if_pos ⟨hlow, hhigh⟩, SignOnPart.echo_eq]

/-- The two erase characters are neither CR nor in a range from 21h to 7Eh. -/
theorem erase_separate {c : Byte} (h : c = 0x08 ∨ c = 0x7F) :
    c ≠ 0x0D ∧ ¬ (0x30 ≤ c.toNat ∧ c.toNat ≤ 0x39) ∧ ¬ (0x21 ≤ c.toNat ∧ c.toNat ≤ 0x7E) := by
  rcases h with rfl | rfl <;> decide

/-- An erase in ID_ENTRY (R52). -/
theorem SignOnPart.idChar_erase (q : SignOnPart) {c : Byte} (h : c = 0x08 ∨ c = 0x7F) :
    q.idChar c = if q.entry = [] then q else { q with entry := q.entry.dropLast, output := q.echoed .erase } := by
  obtain ⟨hcr, hdigit, -⟩ := erase_separate h
  simp only [SignOnPart.idChar, if_neg hcr, if_neg hdigit, if_pos h, SignOnPart.echo_eq, List.isEmpty_iff]

/-- CR in ID_ENTRY (R53). -/
theorem SignOnPart.idChar_return (q : SignOnPart) :
    q.idChar 0x0D =
      { q with user := some (decimal q.entry), entry := [], phase := .passEntry, output := q.output ++ [.slot 2] } :=
  if_pos rfl

theorem SignOnPart.idChar_other (q : SignOnPart) {c : Byte} (hdigit : ¬ (0x30 ≤ c.toNat ∧ c.toNat ≤ 0x39))
    (hbs : c ≠ 0x08) (hdel : c ≠ 0x7F) (hcr : c ≠ 0x0D) : q.idChar c = q := by
  rw [SignOnPart.idChar, if_neg hcr, if_neg hdigit, if_neg (by rintro (h | h) <;> contradiction)]

/-- A character of the passcode (R54). -/
theorem SignOnPart.passChar_graphic (q : SignOnPart) {c : Byte} (hlow : 0x21 ≤ c.toNat) (hhigh : c.toNat ≤ 0x7E) :
    q.passChar c = { q with entry := if q.entry.length < 12 then q.entry ++ [c] else q.entry } := by
  rw [SignOnPart.passChar, if_pos ⟨hlow, hhigh⟩]
  split <;> rfl

/-- An erase in PASS_ENTRY (R54). -/
theorem SignOnPart.passChar_erase (q : SignOnPart) {c : Byte} (h : c = 0x08 ∨ c = 0x7F) :
    q.passChar c = { q with entry := q.entry.dropLast } := by
  obtain ⟨-, -, hgraphic⟩ := erase_separate h
  rw [SignOnPart.passChar, if_neg hgraphic, if_pos h]

theorem SignOnPart.passChar_other (q : SignOnPart) {c : Byte} (hgraphic : ¬ (0x21 ≤ c.toNat ∧ c.toNat ≤ 0x7E))
    (hbs : c ≠ 0x08) (hdel : c ≠ 0x7F) : q.passChar c = q := by
  rw [SignOnPart.passChar, if_neg hgraphic, if_neg (by rintro (h | h) <;> contradiction)]

/-- A character other than CR changes the entry alone in PASS_ENTRY: nothing of the passcode is echoed (R54). -/
theorem SignOnPart.passChar_entry (q : SignOnPart) (c : Byte) : ∃ entry, q.passChar c = { q with entry := entry } := by
  unfold SignOnPart.passChar
  split
  · split
    · exact ⟨_, rfl⟩
    · exact ⟨q.entry, rfl⟩
  · split
    · exact ⟨_, rfl⟩
    · exact ⟨q.entry, rfl⟩

/-- The first and the second bad attempt (R66). -/
theorem SignOnPart.badAttempt_again {q : SignOnPart} (h : q.attempts < 2) :
    q.badAttempt = { q with
      attempts := q.attempts + 1, user := none, check := none, entry := [], phase := .idEntry
      output := q.output ++ [.slot 3, .slot 1] } := if_neg (Nat.not_le.mpr h)

/-- The third bad attempt (R66). -/
theorem SignOnPart.badAttempt_third {q : SignOnPart} (h : 2 ≤ q.attempts) :
    q.badAttempt = { q with phase := .refusing, entry := [], output := q.output ++ [.slot 3] } := if_pos h

theorem badAttempt_eq {i : LineId} {s : State} {q : SignOnPart} (hq : (s.line i).signOn = some q) :
    badAttempt i s = kick i (s.setSignOn i q.badAttempt) := by
  rw [badAttempt, State.modSignOn_eq _ hq]

/-! ### A character by the phase (R51) -/

section
variable {i : LineId} {s : State} {q : SignOnPart}

theorem signOnChar_framing (d : Byte) (hq : (s.line i).signOn = some q) : signOnChar i d true s = s := by
  simp only [signOnChar, hq, if_true]

theorem signOnChar_ignored (d : Byte) (hq : (s.line i).signOn = some q)
    (hphase : q.phase = .checkWait ∨ q.phase = .refusing) : signOnChar i d false s = s := by
  rcases hphase with h | h <;> simp [signOnChar, hq, h]

theorem signOnChar_id (d : Byte) (hq : (s.line i).signOn = some q) (hphase : q.phase = .idEntry) :
    signOnChar i d false s = kick i (s.setSignOn i (q.idChar (d &&& 0x7F))) := by
  simp [signOnChar, hq, hphase, State.modSignOn_eq _ hq]

theorem signOnChar_pass {d : Byte} (hq : (s.line i).signOn = some q) (hphase : q.phase = .passEntry)
    (hcr : d &&& 0x7F ≠ 0x0D) : signOnChar i d false s = s.setSignOn i (q.passChar (d &&& 0x7F)) := by
  simp only [signOnChar, hq, hphase, if_neg hcr, State.modSignOn_eq _ hq]
  rfl

theorem signOnChar_passEnd {d : Byte} (hq : (s.line i).signOn = some q) (hphase : q.phase = .passEntry)
    (hcr : d &&& 0x7F = 0x0D) : signOnChar i d false s = passEnd i q s := by
  simp only [signOnChar, hq, hphase, if_pos hcr]
  rfl

/-- A passcode that fails the local checks is a bad attempt (R55). -/
theorem passEnd_bad {u : Nat} (hq : (s.line i).signOn = some q) (hu : q.user = some u)
    (h : u = 0 ∨ q.entry.length < 4) : passEnd i q s = kick i (s.setSignOn i q.badAttempt) := by
  rw [← badAttempt_eq hq]
  simp only [passEnd, hu, Option.getD_some, if_pos h]

/-- A passcode that passes them forms the check word, and the line joins the check request queue (R55, R56, R57). -/
theorem passEnd_check {u : Nat} (hq : (s.line i).signOn = some q) (hu : q.user = some u) (hzero : u ≠ 0)
    (hlen : 4 ≤ q.entry.length) :
    passEnd i q s = arbitrate { s.setSignOn i
        { q with check := some (checkWord u q.entry), entry := [], phase := .checkWait } with
      checkQueue := s.checkQueue ++ [⟨i, false⟩] } := by
  have hno : ¬ (u = 0 ∨ q.entry.length < 4) := by omega
  simp only [passEnd, hu, Option.getD_some, if_neg hno, State.modSignOn_eq _ hq]
  rfl

end

/-- Settles O26: by the phase and the character, with the transmitter busy and idle. -/
theorem dialogEditsEntries : Obligations.DialogEditsEntries := by
  intro i d q s hp hstate hwait hq c answer
  have hexec : ∀ stop, exec (.characterReceived i d stop) s = .next (signOnChar i d (!stop) s) := fun stop => by
    rw [exec_powered (f := receive i d (!stop)) rfl hp]
    simp [receive, hstate, hwait]
  have hmark : exec (.characterReceived i d true) s = .next (signOnChar i d false s) := hexec true
  -- what the dialog makes of the part is answered, whatever the transmitter then takes of the output list
  have hgives : ∀ (r : SignOnPart) ch it output n, signOnChar i d false s = s.setLine i
      { s.line i with txChar := ch, txItem := it, signOn := some { r with output := output, outPos := n } } →
      r.timer = q.timer → answer r.phase r.entry r.user r.check r.attempts := by
    intro r ch it output n hr htimer
    refine ⟨_, { r with output := output, outPos := n }, hmark.trans (congrArg _ hr), ?_⟩
    rw [State.line_setLine]
    exact ⟨rfl, hstate, rfl, rfl, rfl, rfl, rfl, htimer, State.sameLinesBut_setLine s i _, rfl⟩
  have hquiet : ∀ r : SignOnPart, signOnChar i d false s = s.setSignOn i r → r.timer = q.timer →
      answer r.phase r.entry r.user r.check r.attempts := fun r => hgives r _ _ r.output r.outPos
  have hkick : ∀ r : SignOnPart, signOnChar i d false s = kick i (s.setSignOn i r) → r.phase ≠ .refusing →
      r.timer = q.timer → answer r.phase r.entry r.user r.check r.attempts := by
    intro r hr hphase
    have hline := s.setSignOn_line i r
    obtain ⟨ch, it, output, n, hk⟩ := kick_dialog (s := s.setSignOn i r) (by rw [hline]; exact hstate) (by rw [hline])
      hphase
    rw [hline, State.setSignOn, State.setLine_setLine] at hk
    exact hgives r ch it output n (hr.trans hk)
  refine ⟨(hexec false).trans (congrArg _ (signOnChar_framing d hq)),
    fun h => hmark.trans (congrArg _ (signOnChar_ignored d hq h)), fun hphase => ?idEntry, fun hphase => ?passEntry,
    fun hbusy => ?busy⟩
  case idEntry =>
    have hid := signOnChar_id d hq hphase
    refine ⟨fun hlow hhigh => ?_, fun h => ?_, fun hcr => ?_, fun hdigit hbs hdel hcr => ?_⟩
    · rw [SignOnPart.idChar_digit q hlow hhigh] at hid
      split at hid
      · next h => rw [if_pos h, ← hphase]; exact hkick _ hid (by simp [hphase]) rfl
      · next h => rw [if_neg h, ← hphase]; exact hkick _ hid (by simp [hphase]) rfl
    · rw [SignOnPart.idChar_erase q h] at hid
      split at hid
      · next h =>
        rw [show q.entry.dropLast = q.entry by rw [h]; rfl, ← hphase]
        exact hkick _ hid (by simp [hphase]) rfl
      · rw [← hphase]; exact hkick _ hid (by simp [hphase]) rfl
    · rw [show d &&& 0x7F = 0x0D from hcr, SignOnPart.idChar_return] at hid
      exact hkick _ hid (by simp) rfl
    · rw [SignOnPart.idChar_other q hdigit hbs hdel hcr] at hid
      rw [← hphase]; exact hkick _ hid (by simp [hphase]) rfl
  case passEntry =>
    refine ⟨fun hlow hhigh => ?_, fun h => ?_, fun hgraphic hbs hdel hcr => ?_, fun u hcr hu => ⟨?_, ?_⟩⟩
    · have hcr : c ≠ 0x0D := by intro h; rw [h] at hlow; exact absurd hlow (by decide)
      have hpass := signOnChar_pass hq hphase hcr
      rw [SignOnPart.passChar_graphic q hlow hhigh] at hpass
      rw [← hphase]; exact hquiet _ hpass rfl
    · have hpass := signOnChar_pass hq hphase (erase_separate h).1
      rw [SignOnPart.passChar_erase q h] at hpass
      rw [← hphase]; exact hquiet _ hpass rfl
    · have hpass := signOnChar_pass hq hphase hcr
      rw [SignOnPart.passChar_other q hgraphic hbs hdel] at hpass
      rw [← hphase]; exact hquiet _ hpass rfl
    · intro hzero hlen
      exact hmark.trans (congrArg _ ((signOnChar_passEnd hq hphase hcr).trans (passEnd_check hq hu hzero hlen)))
    · intro hbad hattempts
      have hend := (signOnChar_passEnd hq hphase hcr).trans (passEnd_bad hq hu hbad)
      rw [SignOnPart.badAttempt_again hattempts] at hend
      exact hkick _ hend (by simp) rfl
  case busy =>
    intro gives echo
    have hkicked : ∀ r, signOnChar i d false s = kick i (s.setSignOn i r) → gives r := fun r hr => by
      rw [kick_busy (by rw [State.setSignOn_line]; exact hbusy)] at hr
      exact hmark.trans (congrArg _ hr)
    refine ⟨fun hphase => ?_, fun hphase => ⟨fun hcr => ?_, fun u hcr hu hbad => ?_⟩⟩
    · have hid := hkicked _ (signOnChar_id d hq hphase)
      refine ⟨fun hlow hhigh => ?_, fun h => ?_, fun hdigit hbs hdel hcr => ?_, fun hcr => ?_⟩
      · rw [SignOnPart.idChar_digit q hlow hhigh] at hid
        exact ⟨fun h => by rwa [if_pos h] at hid, fun h => by rwa [if_neg (Nat.not_lt.mpr h)] at hid⟩
      · rw [SignOnPart.idChar_erase q h] at hid
        exact ⟨fun h => by rwa [if_neg h] at hid, fun h => by rwa [if_pos h] at hid⟩
      · rwa [SignOnPart.idChar_other q hdigit hbs hdel hcr] at hid
      · rwa [show d &&& 0x7F = 0x0D from hcr, SignOnPart.idChar_return] at hid
    · obtain ⟨entry, hentry⟩ := q.passChar_entry c
      exact ⟨entry, hmark.trans (congrArg _ ((signOnChar_pass hq hphase hcr).trans (by rw [hentry]; rfl)))⟩
    · have hend := hkicked _ ((signOnChar_passEnd hq hphase hcr).trans (passEnd_bad hq hu hbad))
      exact ⟨fun h => by rwa [SignOnPart.badAttempt_again h] at hend,
        fun h => by rwa [SignOnPart.badAttempt_third h] at hend⟩

end Sys2Proof.Machine
end

section
/-! PROOFS. The verdict that does not admit (R57, R60 to R63, R66, R67): the messages that a verdict places, the accounts
that it leaves, and the order of its tests. -/

namespace Sys2Proof.Machine

/-! ### Messages placed on the sign-on output list (R50, R67) -/

/-- The output list made of messages: the empty ones before the first that is not leave it (R50, log entry 37). -/
theorem State.nextOutput_slots (s : State) (slots : List (Fin 16)) :
    let sent := slots.dropWhile fun k => (s.slots.get k).isEmpty
    s.nextOutput (slots.map fun k => .slot k.val) 0 =
      (sent.map fun k => .slot k.val, if sent = [] then 0 else 1, sent.head?.bind fun k => (s.slots.get k).head?) := by
  induction slots with
  | nil => rfl
  | cons k rest ih =>
    cases hk : s.slots.get k with
    | nil =>
      rw [List.map_cons, State.nextOutput, State.itemChar_emptySlot hk, List.dropWhile_cons_of_pos (by rw [hk]; rfl)]
      exact ih
    | cons c text =>
      rw [List.map_cons, State.nextOutput, State.itemChar_slot hk, List.dropWhile_cons_of_neg (by rw [hk]; simp)]
      simp [hk]

/-- What the messages of some slots, placed by a verdict on line i, make of the lines. The sign-on part was `q`, and is `r`
but for its output list: the messages join the list behind a character in progress, and an idle transmitter begins the
first that is not empty (log entry 7), or in REFUSING ends the call (R67). -/
def State.placed (s t : State) (i : LineId) (q r : SignOnPart) (slots : List (Fin 16)) : Prop :=
  let l := s.line i
  let sent := slots.dropWhile fun k => (s.slots.get k).isEmpty
  (l.txChar ≠ none → s.sameLinesBut t i ∧ t.line i =
    { l with signOn := some { r with output := q.output ++ slots.map fun k => .slot k.val } }) ∧
  (l.txChar = none → q.output = [] → q.outPos = 0 →
    (∀ k : Fin 16, sent.head? = some k → s.sameLinesBut t i ∧ t.line i =
      { l with
        txChar := (s.slots.get k).head?, txItem := none
        signOn := some { r with output := sent.map fun k => .slot k.val, outPos := 1 } }) ∧
    (sent = [] → r.phase ≠ .refusing → s.sameLinesBut t i ∧ t.line i =
      { l with txItem := none, signOn := some { r with output := [], outPos := 0 } }) ∧
    (sent = [] → r.phase = .refusing → (t.line i).state = .hangup ∧ (t.line i).signOn = none ∧
      (t.line i).reserved = false))

theorem State.placed.giveBack {s t : State} {i : LineId} {q r : SignOnPart} {slots : List (Fin 16)}
    (h : s.placed t i q r slots) : s.placed (giveBack t) i q r slots := by
  simpa only [State.placed, State.sameLinesBut, giveBack_line] using h

/-- The part with the messages of some slots placed at the tail of the output list (R50). -/
def SignOnPart.withMessages (r : SignOnPart) (slots : List (Fin 16)) : SignOnPart :=
  { r with output := r.output ++ slots.map fun k => .slot k.val }

/-- The state with the part of line i replaced by one with messages placed, and its transmitter let choose. -/
def State.messaged (s : State) (i : LineId) (r : SignOnPart) (slots : List (Fin 16)) : State :=
  kick i (s.setSignOn i (r.withMessages slots))

section
variable {i : LineId} {s : State} {q r : SignOnPart}

theorem State.sameLinesBut_of_lines {t u : State} {l : LineRec} (hlines : u.lines = s.lines) (ht : t = u.setLine i l) :
    s.sameLinesBut t i ∧ t.line i = l := by
  refine ⟨fun j hj => ?_, by rw [ht, State.line_setLine]⟩
  rw [ht, u.line_setLine_ne l (Ne.symm hj), State.line, hlines]
  rfl

/-- An idle transmitter with an empty list chooses from the messages placed (R50, R67). -/
theorem State.messaged_idle {u : State} (hstate : (u.line i).state = .signOn) (hc : (u.line i).txChar = none)
    (hout : r.output = []) (hpos : r.outPos = 0) (slots : List (Fin 16)) :
    let sent := slots.dropWhile fun k => (u.slots.get k).isEmpty
    let first := sent.head?.bind fun k => (u.slots.get k).head?
    let v := u.setLine i
      { (u.line i).sending first none with
        signOn := some { r with output := sent.map fun k => .slot k.val, outPos := if sent = [] then 0 else 1 } }
    u.messaged i r slots = if first = none ∧ r.phase = .refusing then hangup i v else v := by
  intro sent first v
  have hline := u.setSignOn_line i (r.withMessages slots)
  have hset : ∀ m, (u.setSignOn i (r.withMessages slots)).setLine i m = u.setLine i m := u.setLine_setLine i _
  have hnext : (u.setSignOn i (r.withMessages slots)).nextOutput (r.withMessages slots).output
      (r.withMessages slots).outPos = (sent.map fun k => .slot k.val, if sent = [] then 0 else 1, first) := by
    rw [show (r.withMessages slots).output = slots.map fun k => .slot k.val by simp [SignOnPart.withMessages, hout],
      show (r.withMessages slots).outPos = 0 from hpos]
    exact (u.setSignOn i (r.withMessages slots)).nextOutput_slots slots
  rw [State.messaged, kick_idle (by rw [hline]; exact hc), choose_signOn (by rw [hline]; exact hstate),
    chooseSignOn_eq (q := r.withMessages slots) (by rw [hline]), hnext, hline]
  simp only [hset]
  rfl

theorem hangup_ends (i : LineId) (s : State) :
    ((hangup i s).line i).state = .hangup ∧ ((hangup i s).line i).signOn = none ∧
      ((hangup i s).line i).reserved = false := by
  obtain ⟨hline, -⟩ := hangup_spec i s
  rw [hline]
  exact ⟨rfl, rfl, rfl⟩

/-- The first message sent has a first character. -/
theorem Bank.head_of_dropWhile {slots : List (Fin 16)} {b : Bank (List Byte) 16} {k : Fin 16}
    (h : (slots.dropWhile fun k => (b.get k).isEmpty).head? = some k) : (b.get k).head? ≠ none := by
  have := List.head?_dropWhile_not (fun k => (b.get k).isEmpty) slots
  rw [h] at this
  simpa using this

theorem State.placed_messaged {u : State} (hlines : u.lines = s.lines) (hslots : u.slots = s.slots)
    (hstate : (s.line i).state = .signOn) (hout : r.output = q.output) (hpos : r.outPos = q.outPos)
    (slots : List (Fin 16)) : s.placed (u.messaged i r slots) i q r slots := by
  have hline : u.line i = s.line i := by rw [State.line, hlines]; rfl
  refine ⟨fun hbusy => State.sameLinesBut_of_lines hlines ?_, fun hidle hempty hzero => ?_⟩
  · rw [State.messaged, kick_busy (by rw [State.setSignOn_line, hline]; exact hbusy), State.setSignOn, hline,
      SignOnPart.withMessages, hout]
  · have hchoice := State.messaged_idle (u := u) (r := r) (by rw [hline]; exact hstate) (by rw [hline]; exact hidle)
      (hout.trans hempty) (hpos.trans hzero) slots
    simp only [hslots, hline] at hchoice
    refine ⟨fun k hk => State.sameLinesBut_of_lines hlines ?_,
      fun hnone hphase => State.sameLinesBut_of_lines hlines ?_, fun hnone hphase => ?_⟩
    · have hsent : (slots.dropWhile fun k => (s.slots.get k).isEmpty) ≠ [] := by
        intro h; rw [h] at hk; contradiction
      rw [hchoice, hk, Option.bind_some, if_neg fun h => Bank.head_of_dropWhile hk h.1, if_neg hsent]
      rfl
    · rw [hchoice, if_neg fun h => hphase h.2, hnone, LineRec.sending]
      simp [← hidle]
    · rw [hchoice, if_pos ⟨by rw [hnone]; rfl, hphase⟩, hnone]
      exact hangup_ends i _

/-- The check request queue, which a line has left, is not changed by what the transmitter of the line then does. -/
theorem State.messaged_checkQueue {u : State} (hstate : (u.line i).state = .signOn)
    (hleft : u.checkQueue.filter (fun f => f.line != i) = u.checkQueue) (slots : List (Fin 16)) :
    (u.messaged i r slots).checkQueue = u.checkQueue := by
  have hline := u.setSignOn_line i (r.withMessages slots)
  rw [State.messaged]
  by_cases hc : (u.line i).txChar = none
  · rw [kick_idle (by rw [hline]; exact hc), choose_signOn (by rw [hline]; exact hstate),
      chooseSignOn_eq (by rw [hline])]
    dsimp only
    split
    · obtain ⟨-, -, hqueue, -⟩ := hangup_spec i _
      rw [hqueue]
      exact hleft
    · rfl
  · rw [kick_busy (by rw [hline]; exact hc)]
    rfl

end

/-! ### The row -/

/-- VERDICT, with the checker granted next and an entry eligible (R57, R60): one verdict, and the table is given back. The
grant changes the arbiter alone. -/
theorem exec_verdict {e : CheckEntry} {s : State} (hp : s.mainPower = true) (hnext : s.nextGrant = some .checker)
    (he : s.checkQueue.find? (fun e => !e.waiting) = some e) :
    ∃ arbiter : Arbiter, exec .verdict s = .next (giveBack (verdictFor e.line { s with arbiter := arbiter })) := by
  have heligible : ({ s with arbiter := (granted .checker s).arbiter } : State).eligibleCheck = some e := he
  refine ⟨(granted .checker s).arbiter, ?_⟩
  rw [exec_powered (f := verdictGranted) rfl hp, verdictGranted, if_pos hnext, granted_eq, verdictAccess, heligible]

/-! ### What a verdict does to the account (R60, R61) -/

/-- A wrong check word is counted on an ACTIVE account, which is locked out at the fail limit of its class (R60). -/
theorem wrongCheckWord_active {a : Account} (s : State) (ha : a.state = .active) :
    let out := (s.classRec a.cls).failLimit ≤ a.failCount + 1
    wrongCheckWord a s = { s with
      accounts := s.accounts.map fun b =>
        if b.user = a.user then
          { b with
            failCount := a.failCount + 1
            state := if out then .lockedOut else b.state
            lockedUntil := if out then some (s.clock.stamp.addMinutes (s.classRec a.cls).lockout) else b.lockedUntil }
        else b
      aPort := if out then s.aPort.latch ACause.lockout.bit else s.aPort } := by
  simp only [wrongCheckWord, if_pos ha, State.modAccount, beq_iff_eq]
  by_cases h : (s.classRec a.cls).failLimit ≤ a.failCount + 1
  · simp only [if_pos h]; rfl
  · simp only [if_neg h]

theorem wrongCheckWord_inactive {a : Account} (s : State) (ha : a.state ≠ .active) : wrongCheckWord a s = s := if_neg ha

/-- The account that the tests of R62 judge: with a lockout that has passed ended (R61). -/
def Account.eased (a : Account) : Account := if a.state = .active then a else a.unlocked

theorem Account.eased_eq (a : Account) :
    a.eased = { a with
      state := a.eased.state, failCount := a.eased.failCount, lockedUntil := a.eased.lockedUntil } := by
  unfold Account.eased; split <;> rfl

/-- The account table with a lockout of the account ended (R61). -/
def State.easedAccounts (s : State) (a : Account) : List Account :=
  if a.state = .active then s.accounts else s.accounts.map fun b =>
    if b.user = a.user then { b with state := .active, failCount := 0, lockedUntil := none } else b

/-- The account may sign on: it is ACTIVE, or its lockout has passed (R61). -/
def State.signsOn (s : State) (a : Account) : Prop :=
  a.state = .active ∨ (a.state = .lockedOut ∧ a.lockedUntil.any (·.le s.clock.stamp) = true)

section
variable {i : LineId} {q : SignOnPart} {u h : Nat} {a : Account} {s : State}

theorem verdictFor_unknown (hq : (s.line i).signOn = some q) (hu : q.user = some u) (ha : s.account u = none) :
    verdictFor i s = badAttempt i (leaveCheckQueue i s) := by
  simp only [verdictFor, hq, hu, Option.getD_some, ha]

theorem verdictFor_wrong (hq : (s.line i).signOn = some q) (hu : q.user = some u) (hh : q.check = some h)
    (ha : s.account u = some a) (hcheck : a.check ≠ h) :
    verdictFor i s = badAttempt i (leaveCheckQueue i (wrongCheckWord a s)) := by
  simp only [verdictFor, hq, hu, hh, Option.getD_some, ha, if_pos hcheck]

theorem verdictFor_refused (hq : (s.line i).signOn = some q) (hu : q.user = some u) (hh : q.check = some h)
    (ha : s.account u = some a) (hcheck : a.check = h)
    (hstate : a.state = .suspended ∨ (a.state = .lockedOut ∧ a.lockedUntil.any (·.le s.clock.stamp) = false)) :
    verdictFor i s = refuseCaller i 4 (leaveCheckQueue i s) := by
  have hmatch : ¬ a.check ≠ h := not_not_intro hcheck
  rcases hstate with hstate | ⟨hstate, hlock⟩
  · simp only [verdictFor, hq, hu, hh, Option.getD_some, ha, if_neg hmatch, hstate]
  · simp only [verdictFor, hq, hu, hh, Option.getD_some, ha, if_neg hmatch, hstate, hlock]
    rfl

/-- A caller whose check word matches, and whose account may sign on, is judged by R62 to R64. -/
theorem verdictFor_judged (hq : (s.line i).signOn = some q) (hu : q.user = some u) (hh : q.check = some h)
    (ha : s.account u = some a) (hcheck : a.check = h) (hsigns : s.signsOn a) :
    verdictFor i s = judgeActive i q a.eased { s with accounts := s.easedAccounts a } := by
  have hmatch : ¬ a.check ≠ h := not_not_intro hcheck
  rcases hsigns with hstate | ⟨hstate, hlock⟩
  · simp only [verdictFor, hq, hu, hh, Option.getD_some, ha, if_neg hmatch, hstate, Account.eased,
      State.easedAccounts, if_true]
  · have hactive : ¬ a.state = .active := by rw [hstate]; decide
    simp only [verdictFor, hq, hu, hh, Option.getD_some, ha, if_neg hmatch, hstate, hlock, Account.eased,
      State.easedAccounts, if_true, State.modAccount, beq_iff_eq, Account.unlocked]
    rfl

/-! ### The tests of R62, in their order -/

theorem State.refusalTest_eased (s : State) (a : Account) :
    ({ s with accounts := s.easedAccounts a } : State).refusalTest a.eased = s.refusalTest a := by
  rw [Account.eased_eq]; rfl

theorem State.refusalTest_closed (hclosed : s.tPort.vote = .closed ∨ s.aPort.vote = .closed) :
    s.refusalTest a = some 7 := if_pos hclosed

theorem State.refusalTest_limit (hclosed : ¬ (s.tPort.vote = .closed ∨ s.aPort.vote = .closed))
    (hlimit : a.limit ≤ a.openCount) : s.refusalTest a = some 5 := by
  simp only [State.refusalTest, if_neg hclosed, if_pos hlimit]

theorem State.refusalTest_funds (hclosed : ¬ (s.tPort.vote = .closed ∨ s.aPort.vote = .closed))
    (hlimit : ¬ a.limit ≤ a.openCount)
    (hfunds : a.balance - ((s.classRec a.cls).setup : Int) ≤ -((s.classRec a.cls).floor : Int)) :
    s.refusalTest a = some 6 := by
  simp only [State.refusalTest, if_neg hclosed, if_neg hlimit, if_pos hfunds]

theorem State.refusalTest_passed (hclosed : ¬ (s.tPort.vote = .closed ∨ s.aPort.vote = .closed))
    (hlimit : ¬ a.limit ≤ a.openCount)
    (hfunds : ¬ a.balance - ((s.classRec a.cls).setup : Int) ≤ -((s.classRec a.cls).floor : Int)) :
    s.refusalTest a = none := by
  simp only [State.refusalTest, if_neg hclosed, if_neg hlimit, if_neg hfunds]

theorem judgeActive_refuses {slot : Nat} (h : s.refusalTest a = some slot) :
    judgeActive i q a s = refuseCaller i slot (leaveCheckQueue i s) := by
  simp only [judgeActive, h]

/-- Past the three tests the room for the OPEN mark decides (R63). -/
theorem judgeActive_passed (h : s.refusalTest a = none) :
    judgeActive i q a s = if s.roomForOpen then openSessionOn i q a s else markWaiting i s := by
  simp only [judgeActive, h]

/-! ### The messages of a verdict -/

theorem badAttempt_messaged (hq : (s.line i).signOn = some q) :
    (q.attempts < 2 → badAttempt i s = s.messaged i { q with
      phase := .idEntry, entry := [], user := none, check := none, attempts := q.attempts + 1 } [3, 1]) ∧
    (2 ≤ q.attempts → badAttempt i s = s.messaged i { q with phase := .refusing, entry := [] } [3]) := by
  rw [badAttempt_eq hq]
  exact ⟨fun h => by rw [SignOnPart.badAttempt_again h]; rfl, fun h => by rw [SignOnPart.badAttempt_third h]; rfl⟩

theorem refuseCaller_messaged (slot : Fin 16) (hq : (s.line i).signOn = some q) :
    refuseCaller i slot.val s = s.messaged i { q with phase := .refusing } [slot] := by
  rw [refuseCaller, State.modSignOn_eq _ hq]
  rfl

/-- Before its messages a verdict changes the arbiter, the accounts and the A port at most. -/
def State.tableFrame (s v : State) : Prop :=
  v = { s with arbiter := v.arbiter, accounts := v.accounts, aPort := v.aPort }

/-- Whatever follows for the lines, messages placed by a verdict change no account, no entry of the input queue and, but
for the line's own, no check request. -/
theorem State.messaged_frame {v : State} {r : SignOnPart} (hv : s.tableFrame v) (hstate : (s.line i).state = .signOn)
    (hout : r.output = q.output) (hpos : r.outPos = q.outPos) (slots : List (Fin 16)) :
    let t := giveBack ((leaveCheckQueue i v).messaged i r slots)
    t.accounts = v.accounts ∧ t.checkQueue = s.checkQueue.filter (fun f => f.line != i) ∧ t.input = s.input ∧
      s.placed t i q r slots := by
  have hlines : (leaveCheckQueue i v).lines = s.lines := by rw [hv]; rfl
  have hslots : (leaveCheckQueue i v).slots = s.slots := by rw [hv]; rfl
  have hqueue : (leaveCheckQueue i v).checkQueue = s.checkQueue.filter (fun f => f.line != i) := by rw [hv]; rfl
  have hframe : (leaveCheckQueue i v).lineFrame ((leaveCheckQueue i v).messaged i r slots) :=
    (lineFrame_setLine _ i _).trans (lineFrame_kick _ i)
  refine ⟨?_, ?_, ?_, (State.placed_messaged hlines hslots hstate hout hpos slots).giveBack⟩
  · rw [giveBack_accounts]
    exact hframe.sameTables.1
  · rw [giveBack_checkQueue, State.messaged_checkQueue (by rw [State.line, hlines]; exact hstate), hqueue]
    rw [hqueue, List.filter_filter]
    simp only [Bool.and_self]
  · rw [giveBack_input, hframe.input, hv]
    rfl

end

/-- Outside GRANTED no hold limit expires, so the A port stands when the table is given back (R106). -/
theorem giveBack_aPort {s : State} (h : s.hold.state ≠ .granted) : (giveBack s).aPort = s.aPort := by
  rw [giveBack, endAccess, arbitrate_eq, settleRelease_eq]
  rcases limitOver_cases (makeInstalls { s with arbiter := { s.arbiter with grant := none } }) with ⟨k, -⟩ | ⟨k, -⟩
  · exact absurd k h
  · rw [k]; rfl

/-- A bad attempt stays on the line: the A port and the hold stand. -/
theorem badAttempt_beside (i : LineId) (s : State) :
    (badAttempt i s).aPort = s.aPort ∧ (badAttempt i s).hold = s.hold := by
  have h : s.lineFrame (badAttempt i s) := (lineFrame_modLine s i _).trans (lineFrame_kick _ i)
  unfold State.lineFrame at h
  rw [h]
  exact ⟨rfl, rfl⟩

/-- Settles O27: by the account and the check word, and then by the tests of R62 and R63 in their order. -/
theorem verdictCountsAndRefuses : Obligations.VerdictCountsAndRefuses := by
  intro e q u h s hp hnext he hstate hq hu hh hphase c left l gives bad refused counted
  obtain ⟨arbiter, hexec⟩ := exec_verdict hp hnext he
  let g : State := { s with arbiter := arbiter }
  have hgives : ∀ (v : State) (slots : List (Fin 16)) (r : SignOnPart), s.tableFrame v →
      verdictFor e.line g = (leaveCheckQueue e.line v).messaged e.line r slots → r.output = q.output →
      r.outPos = q.outPos → gives v.accounts slots r := by
    intro v slots r hv hr hout hpos
    exact ⟨_, hexec.trans (congrArg _ (congrArg _ hr)), State.messaged_frame hv hstate hout hpos slots⟩
  have hpart : ∀ v : State, s.tableFrame v → ((leaveCheckQueue e.line v).line e.line).signOn = some q := fun v hv => by
    rw [hv]; exact hq
  have hbad : ∀ v : State, s.tableFrame v → verdictFor e.line g = badAttempt e.line (leaveCheckQueue e.line v) →
      bad v.accounts := by
    intro v hv hr
    obtain ⟨hagain, hthird⟩ := badAttempt_messaged (hpart v hv)
    exact ⟨fun hn => hgives v _ _ hv (hr.trans (hagain hn)) rfl rfl,
      fun hn => hgives v _ _ hv (hr.trans (hthird hn)) rfl rfl⟩
  have hrefused : ∀ (v : State) (slot : Fin 16), s.tableFrame v →
      verdictFor e.line g = refuseCaller e.line slot.val (leaveCheckQueue e.line v) → refused v.accounts slot :=
    fun v slot hv hr => hgives v _ _ hv (hr.trans (refuseCaller_messaged slot (hpart v hv))) rfl rfl
  refine ⟨fun ha => hbad g rfl (verdictFor_unknown hq hu ha), fun a ha => ⟨fun hcheck hactive => ?counted,
    fun hcheck hactive => ?uncounted, fun hcheck hsuspended => ?suspended, fun hcheck hlocked hlock => ?locked,
    fun hcheck hsigns => ?judged⟩⟩
  case counted =>
    have hwrong := verdictFor_wrong (s := g) hq hu hh ha hcheck
    rw [wrongCheckWord_active g hactive] at hwrong
    refine ⟨hbad _ (by rfl) hwrong, _, hexec, ?_⟩
    by_cases hhold : s.hold.state = .granted
    · exact .inl hhold
    · refine .inr ?_
      rw [show verdictFor e.line { s with arbiter := arbiter } = _ from hwrong, giveBack_aPort]
      · rw [(badAttempt_beside _ _).1]; rfl
      · rw [(badAttempt_beside _ _).2]; exact hhold
  case uncounted =>
    have hwrong := verdictFor_wrong (s := g) hq hu hh ha hcheck
    rw [wrongCheckWord_inactive g hactive] at hwrong
    exact hbad g rfl hwrong
  case suspended => exact hrefused g 4 rfl (verdictFor_refused hq hu hh ha hcheck (.inl hsuspended))
  case locked => exact hrefused g 4 rfl (verdictFor_refused hq hu hh ha hcheck (.inr ⟨hlocked, hlock⟩))
  case judged =>
    have hjudged := verdictFor_judged (s := g) hq hu hh ha hcheck hsigns
    let v : State := { g with accounts := g.easedAccounts a }
    have htest : v.refusalTest a.eased = s.refusalTest a := g.refusalTest_eased a
    intro kept closed atLimit short
    have hslot : ∀ slot : Fin 16, s.refusalTest a = some slot.val → refused kept slot := fun slot hslot =>
      hrefused v slot rfl (hjudged.trans (judgeActive_refuses (htest.trans hslot)))
    refine ⟨fun hclosed => hslot 7 (State.refusalTest_closed hclosed),
      fun hclosed hlimit => hslot 5 (State.refusalTest_limit hclosed hlimit),
      fun hclosed hlimit hshort => hslot 6 (State.refusalTest_funds hclosed hlimit hshort),
      fun hclosed hlimit hshort hfull => ⟨_, hexec, ?_⟩⟩
    have hroom : ¬ v.roomForOpen = true := fun hroom => by
      have : s.input.length + s.openCount + 2 ≤ 256 := v.roomForOpen_iff.mp hroom
      omega
    have hwaits : verdictFor e.line g = markWaiting e.line v := by
      rw [hjudged, judgeActive_passed (htest.trans (State.refusalTest_passed hclosed hlimit hshort)), if_neg hroom]
    rw [show verdictFor e.line { s with arbiter := arbiter } = _ from hwaits, giveBack_accounts, giveBack_input,
      giveBack_checkQueue, giveBack_eq]
    refine ⟨rfl, rfl, rfl, ?_⟩
    simp only [markWaiting, beq_iff_eq]
    rfl

end Sys2Proof.Machine
end

section
/-! PROOFS. What the transmitter, and what a posting with all it brings about, leave of the lines (R42, R86 to R89): a
session goes on but for its marks, and a caller in SIGNON stands. -/

namespace Sys2Proof.Machine

/-! ### What sending leaves of a line -/

/-- What sending, here or on another line, can make of a line record: a session part changes in its activity mark and its
FUNDS_WARN mark alone, if the line does not lose it, and a line in SESSION stays there with its session part. -/
structure LineRec.sendsOn (l m : LineRec) : Prop where
  session : ∀ z, m.session = some z →
    ∃ x, l.session = some x ∧ z = { x with activity := z.activity, fundsWarned := z.fundsWarned }
  stays : l.state = .session → m.state = .session ∧ m.signOn = l.signOn ∧ m.reserved = l.reserved ∧
    m.speed = l.speed ∧ m.session.isSome = l.session.isSome

theorem LineRec.sendsOn.refl (l : LineRec) : l.sendsOn l := ⟨fun z h => ⟨z, h, rfl⟩, fun h => ⟨h, rfl, rfl, rfl, rfl⟩⟩

theorem LineRec.sendsOn.trans {l m n : LineRec} (h : l.sendsOn m) (k : m.sendsOn n) : l.sendsOn n := by
  refine ⟨fun z hz => ?_, fun hl => ?_⟩
  · obtain ⟨y, hy, hzy⟩ := k.session z hz
    obtain ⟨x, hx, hyx⟩ := h.session y hy
    exact ⟨x, hx, by rw [hzy, hyx]⟩
  · obtain ⟨hm, h1, h2, h3, h4⟩ := h.stays hl
    obtain ⟨hn, k1, k2, k3, k4⟩ := k.stays hm
    exact ⟨hn, k1.trans h1, k2.trans h2, k3.trans h3, k4.trans h4⟩

/-- A change of the marks of the session part, beside the fields that a session rests on. -/
theorem LineRec.sendsOn_map {l m : LineRec} {f : Session → Session}
    (hf : ∀ x, f x = { x with activity := (f x).activity, fundsWarned := (f x).fundsWarned })
    (hsession : m.session = l.session.map f)
    (hkeeps : l.state = .session →
      m.state = .session ∧ m.signOn = l.signOn ∧ m.reserved = l.reserved ∧ m.speed = l.speed) : l.sendsOn m := by
  refine ⟨fun z hz => ?_, fun hl => ?_⟩
  · rw [hsession, Option.map_eq_some_iff] at hz
    obtain ⟨x, hx, rfl⟩ := hz
    exact ⟨x, hx, hf x⟩
  · obtain ⟨h1, h2, h3, h4⟩ := hkeeps hl
    exact ⟨h1, h2, h3, h4, by rw [hsession, Option.isSome_map]⟩

/-- A change beside the session part and what a line in SESSION rests on. -/
theorem LineRec.sendsOn_beside {l m : LineRec} (hsession : m.session = l.session)
    (hkeeps : l.state = .session →
      m.state = .session ∧ m.signOn = l.signOn ∧ m.reserved = l.reserved ∧ m.speed = l.speed) : l.sendsOn m :=
  LineRec.sendsOn_map (f := id) (fun _ => rfl) (by rw [hsession, Option.map_id_fun, id]) hkeeps

theorem LineRec.sendsOn_rejudge (l : LineRec) (e r : Bool) : l.sendsOn (l.rejudge e r) :=
  LineRec.sendsOn_beside (l.rejudge_session e r) fun hl => by
    rw [LineRec.rejudge_stands e r (by rw [hl]; rfl) (by rw [hl]; decide)]
    exact ⟨hl, rfl, rfl, rfl⟩

/-! ### All that a choice of the transmitter can do -/

/-- A choice on line i, seen from outside: the line's record goes on as `LineRec.sendsOn` says with the latches of the T
port, or, where the line is not in SESSION, it has then entered HANGUP. -/
def State.chooses (s t : State) (i : LineId) : Prop :=
  ∃ l : LineRec, (s.line i).sendsOn l ∧
    ((∃ u : PortUnit, t = s.setLineAndT i l u) ∨ ((s.line i).state ≠ .session ∧ t = hangup i (s.setLine i l)))

section
variable {i : LineId} {s : State} {f : LineRec → LineRec}

/-- A choice that changes the line's record beside its session part, its reservation and its place in SESSION. -/
theorem chooses_modLine (hsession : (f (s.line i)).session = (s.line i).session)
    (hkeeps : (s.line i).state = .session → (f (s.line i)).state = .session ∧
      (f (s.line i)).signOn = (s.line i).signOn ∧ (f (s.line i)).reserved = (s.line i).reserved ∧
      (f (s.line i)).speed = (s.line i).speed) : s.chooses (s.modLine i f) i :=
  ⟨_, LineRec.sendsOn_beside hsession hkeeps, .inl ⟨s.tPort, rfl⟩⟩

theorem chooses_hangup (hs : (s.line i).state ≠ .session) (hsession : (f (s.line i)).session = (s.line i).session) :
    s.chooses (hangup i (s.modLine i f)) i :=
  ⟨_, LineRec.sendsOn_beside hsession fun h => absurd h hs, .inr ⟨hs, rfl⟩⟩

theorem chooseSession_chooses : s.chooses (chooseSession i s) i := by
  unfold chooseSession
  split
  · exact chooses_modLine rfl fun h => ⟨h, rfl, rfl, rfl⟩
  · split
    · exact chooses_modLine rfl fun h => ⟨h, rfl, rfl, rfl⟩
    · split
      · next c rest _ =>
        refine ⟨_, ?_, .inl ⟨_, takeBuffered_eq i c rest s⟩⟩
        exact LineRec.sendsOn_map (f := fun x => x.sentTo (s.lineGroup i).idleTx) (fun _ => rfl) rfl
          fun h => ⟨h, rfl, rfl, rfl⟩
      · exact chooses_modLine rfl fun h => ⟨h, rfl, rfl, rfl⟩

theorem chooseClosing_chooses (hs : (s.line i).state = .closing) : s.chooses (chooseClosing i s) i := by
  have hno : (s.line i).state ≠ .session := by rw [hs]; decide
  unfold chooseClosing
  split
  · exact chooses_modLine rfl fun h => absurd h hno
  · split
    · exact chooses_modLine rfl fun h => absurd h hno
    · split
      · exact chooses_modLine rfl fun h => absurd h hno
      · unfold endClosing
        split
        · exact chooses_modLine rfl fun h => absurd h hno
        · exact chooses_hangup hno rfl

theorem chooseSignOn_chooses (hs : (s.line i).state = .signOn) : s.chooses (chooseSignOn i s) i := by
  have hno : (s.line i).state ≠ .session := by rw [hs]; decide
  unfold chooseSignOn
  split
  · exact chooses_modLine rfl fun h => absurd h hno
  · dsimp only
    split
    · exact chooses_hangup hno rfl
    · exact chooses_modLine rfl fun h => absurd h hno

/-- A choice of the transmitter, whatever the state of its line (R42). -/
theorem choose_chooses : s.chooses (choose i s) i := by
  unfold choose
  split
  · next h => exact chooseSignOn_chooses h
  · exact chooseSession_chooses
  · next h => exact chooseClosing_chooses h
  · unfold chooseTest
    split <;> exact chooses_modLine rfl fun h => ⟨h, rfl, rfl, rfl⟩
  all_goals exact chooses_modLine rfl fun h => ⟨h, rfl, rfl, rfl⟩

end

theorem kick_chooses (i : LineId) (s : State) : s.chooses (kick i s) i := by
  unfold kick
  split
  · exact ⟨s.line i, .refl _, .inl ⟨s.tPort, (s.setLine_self i).symm⟩⟩
  · exact choose_chooses

/-- The other lines at a choice of the transmitter: they stand, or they re-judge their readiness (R20). -/
theorem kick_others {i j : LineId} (s : State) (h : j ≠ i) :
    (kick i s).line j = s.line j ∨ ∃ e r, (kick i s).line j = (s.line j).rejudge e r := by
  obtain ⟨l, -, ⟨u, hk⟩ | ⟨-, hk⟩⟩ := kick_chooses i s
  · rw [hk]
    exact .inl (s.line_setLine_ne l (Ne.symm h))
  · obtain ⟨-, -, -, hothers, -⟩ := hangup_spec i (s.setLine i l)
    rw [hk, hothers j h, s.line_setLine_ne l (Ne.symm h)]
    exact .inr ⟨_, _, rfl⟩

/-! ### What sending leaves of all lines -/

/-- Sending changes each line as `LineRec.sendsOn` says, and no line joins the check request queue. -/
structure State.sendsOn (s t : State) : Prop where
  line : ∀ j, (s.line j).sendsOn (t.line j)
  checks : ∀ f ∈ t.checkQueue, f ∈ s.checkQueue

theorem State.sendsOn.refl (s : State) : s.sendsOn s := ⟨fun _ => .refl _, fun _ h => h⟩

theorem State.sendsOn.trans {s t u : State} (h : s.sendsOn t) (k : t.sendsOn u) : s.sendsOn u :=
  ⟨fun j => (h.line j).trans (k.line j), fun f hf => h.checks f (k.checks f hf)⟩

theorem sendsOn_setLine (s : State) {i : LineId} {l : LineRec} (h : (s.line i).sendsOn l) :
    s.sendsOn (s.setLine i l) := by
  refine ⟨fun j => ?_, fun f hf => hf⟩
  by_cases e : i = j
  · subst e; rwa [State.line_setLine]
  · rw [s.line_setLine_ne l e]; exact .refl _

theorem sendsOn_kick (i : LineId) (s : State) : s.sendsOn (kick i s) := by
  refine ⟨fun j => ?_, ?_⟩
  · by_cases e : j = i
    · subst e
      obtain ⟨l, hl, ⟨u, hk⟩ | ⟨hs, hk⟩⟩ := kick_chooses j s
      · rw [hk, show (s.setLineAndT j l u).line j = l from s.line_setLine j l]
        exact hl
      · obtain ⟨hline, -⟩ := hangup_spec j (s.setLine j l)
        rw [hk, hline]
        exact ⟨fun z hz => absurd hz (by simp [LineRec.hungUp]), fun h => absurd h hs⟩
    · rcases kick_others s e with h | ⟨_, _, h⟩ <;> rw [h]
      · exact .refl _
      · exact LineRec.sendsOn_rejudge _ _ _
  · obtain ⟨l, -, ⟨u, hk⟩ | ⟨-, hk⟩⟩ := kick_chooses i s <;> rw [hk]
    · exact fun f hf => hf
    · obtain ⟨-, -, hqueue, -⟩ := hangup_spec i (s.setLine i l)
      rw [hqueue]
      exact fun f hf => (List.mem_filter.mp hf).1

theorem LineRec.sendsOn_request (l : LineRec) (k : Nat) : l.sendsOn (l.request k) := by
  unfold LineRec.request
  split
  · exact .refl l
  · exact LineRec.sendsOn_beside rfl fun h => ⟨h, rfl, rfl, rfl⟩

theorem sendsOn_requestMessage (i : LineId) (k : Nat) (s : State) : s.sendsOn (requestMessage i k s) :=
  (sendsOn_setLine s (LineRec.sendsOn_request (s.line i) k)).trans (sendsOn_kick i _)

theorem sendsOn_warnLine (spared : List LineId) (user : Nat) (i : LineId) (s : State) :
    s.sendsOn (warnLine spared user i s) := by
  unfold warnLine
  split
  · split
    · refine (sendsOn_setLine s ?_).trans (sendsOn_requestMessage i 9 _)
      exact LineRec.sendsOn_map (fun _ => rfl) rfl fun h => ⟨h, rfl, rfl, rfl⟩
    · exact .refl s
  · exact .refl s

theorem sendsOn_fold {α : Type} {f : State → α → State} (hf : ∀ (s : State) a, s.sendsOn (f s a)) (l : List α)
    (s : State) : s.sendsOn (l.foldl f s) :=
  List.foldlRecOn (motive := fun t : State => s.sendsOn t) l f (.refl s) fun _ h a _ => h.trans (hf _ a)

/-- The funds warning sets marks and places messages (R89). -/
theorem sendsOn_fundsWarning (spared : List LineId) (user : Nat) (s : State) :
    s.sendsOn (fundsWarning spared user s) :=
  sendsOn_fold (f := fun s i => warnLine spared user i s) (fun s i => sendsOn_warnLine spared user i s) allLines s

/-! ### A caller in SIGNON stands while postings are made -/

/-- If line i is in SIGNON with no session part, it stands. -/
def State.keepsCaller (i : LineId) (s t : State) : Prop :=
  (s.line i).state = .signOn → (s.line i).session = none → t.line i = s.line i

theorem State.keepsCaller.refl (i : LineId) (s : State) : s.keepsCaller i s := fun _ _ => rfl

theorem State.keepsCaller.trans {i : LineId} {s t u : State} (h : s.keepsCaller i t) (k : t.keepsCaller i u) :
    s.keepsCaller i u := fun hs hn => by
  have ht := h hs hn
  rw [k (by rw [ht]; exact hs) (by rw [ht]; exact hn), ht]

section
variable {i j : LineId}

theorem keepsCaller_ite {s t u : State} {c : Prop} [Decidable c] (ht : s.keepsCaller i t) (hu : s.keepsCaller i u) :
    s.keepsCaller i (if c then t else u) := by split <;> assumption

theorem keepsCaller_fold {α : Type} {f : State → α → State} (hf : ∀ (s : State) a, s.keepsCaller i (f s a))
    (l : List α) (s : State) : s.keepsCaller i (l.foldl f s) :=
  List.foldlRecOn (motive := fun t : State => s.keepsCaller i t) l f (.refl i s) fun _ h a _ => h.trans (hf _ a)

/-- A change beside the lines. -/
theorem keepsCaller_beside {s t : State} (h : t.lines = s.lines) : s.keepsCaller i t := fun _ _ => by
  rw [State.line, h]; rfl

theorem keepsCaller_modLine (s : State) (f : LineRec → LineRec) (h : j ≠ i) : s.keepsCaller i (s.modLine j f) :=
  fun _ _ => s.line_modLine_ne f h

theorem keepsCaller_modSession (s : State) (j : LineId) (f : Session → Session) : s.keepsCaller i (s.modSession j f) := by
  intro _ hn
  by_cases h : j = i
  · subst h
    rw [State.modSession, State.line_modLine, hn, Option.map_none, ← hn]
  · exact s.line_modLine_ne _ h

theorem keepsCaller_mapSessions (s : State) (f : LineId → Session → Session) :
    s.keepsCaller i (s.mapSessions f) := by
  intro _ hn
  rw [State.mapSessions, State.line_mapLines, hn, Option.map_none, ← hn]

theorem keepsCaller_kick (s : State) (h : j ≠ i) : s.keepsCaller i (kick j s) := by
  intro hs _
  rcases kick_others s (Ne.symm h) with hk | ⟨e, r, hk⟩
  · exact hk
  · rw [hk, LineRec.rejudge_stands e r (by rw [hs]; rfl) (by rw [hs]; decide)]

theorem keepsCaller_requestMessage (s : State) (k : Nat) (h : j ≠ i) : s.keepsCaller i (requestMessage j k s) :=
  (keepsCaller_modLine s _ h).trans (keepsCaller_kick _ h)

theorem keepsCaller_enterClosing (s : State) (h : j ≠ i) : s.keepsCaller i (enterClosing j s) :=
  (keepsCaller_modLine s _ h).trans (keepsCaller_kick _ h)

/-- A line with an open session is not the caller's. -/
theorem State.openSession_ne {s : State} {x : Session} (hn : (s.line i).session = none)
    (hx : s.openSession j = some x) : j ≠ i := by
  rintro rfl
  have := ((s.openSession_iff j x).mp hx).1
  rw [hn] at this
  contradiction

theorem keepsCaller_warnLine (spared : List LineId) (user : Nat) (j : LineId) (s : State) :
    s.keepsCaller i (warnLine spared user j s) := by
  intro hs hn
  unfold warnLine
  split
  · next x hx =>
    have hne := State.openSession_ne hn hx
    exact keepsCaller_ite ((keepsCaller_modSession s j _).trans (keepsCaller_requestMessage _ 9 hne)) (.refl i s) hs hn
  · rfl

theorem keepsCaller_fundsWarning (spared : List LineId) (user : Nat) (s : State) :
    s.keepsCaller i (fundsWarning spared user s) :=
  keepsCaller_fold (f := fun s j => warnLine spared user j s) (fun s j => keepsCaller_warnLine spared user j s)
    allLines s

theorem keepsCaller_closeDecision (r : CloseReason) (stamp : Stamp) (s : State) (h : j ≠ i) :
    s.keepsCaller i (closeDecision r stamp j s) := by
  unfold closeDecision
  split
  · extract_lets s1 s2
    have h2 : s.keepsCaller i s2 := (keepsCaller_modSession s j _).trans
      (keepsCaller_ite (keepsCaller_beside (placeInput_lines _ _)) (.refl i _))
    exact h2.trans (keepsCaller_modLine s2 _ h)
  · exact .refl i s

theorem keepsCaller_writeRecord (r : Nat → BillingRecord) (s : State) : s.keepsCaller i (writeRecord r s) := by
  refine keepsCaller_beside ?_
  unfold writeRecord
  dsimp only
  split <;> rfl

theorem keepsCaller_modAccount (s : State) (user : Nat) (f : Account → Account) :
    s.keepsCaller i (s.modAccount user f) := keepsCaller_beside rfl

theorem keepsCaller_dropReservation (s : State) (h : j ≠ i) : s.keepsCaller i (dropReservation j s) := by
  rw [dropReservation_eq]
  exact fun _ _ => s.line_setLine_ne _ h

/-- The account work of a close on another line, given that the posting it may make leaves the caller. -/
theorem keepsCaller_accountWork {post : Nat → Nat → State → State}
    (hp : ∀ (user u : Nat) (s : State), s.keepsCaller i (post user u s)) (s : State) (h : j ≠ i) :
    s.keepsCaller i (accountWork post j s) := by
  unfold accountWork
  split
  · exact .refl i s
  · extract_lets up cu s1 x1 x2 kept s2 s3 s4 s5
    have h1 : s1.lines = s.lines := by
      unfold s1 cu
      split
      · exact addStated_lines ..
      · rfl
    have h2 : s2.lines = s.lines := by
      unfold s2
      split
      · rw [divertClose_lines, h1]
      · exact h1
    have h3 : s.keepsCaller i s3 := (keepsCaller_beside h2).trans (keepsCaller_modSession s2 j _)
    have h4 : s.keepsCaller i s4 :=
      (h3.trans (keepsCaller_writeRecord _ _)).trans (keepsCaller_dropReservation _ h)
    have h5 : s.keepsCaller i s5 := h4.trans (keepsCaller_modAccount _ _ _)
    exact keepsCaller_ite (h5.trans (hp _ _ _)) h5

theorem keepsCaller_closeInAccess {post : Nat → Nat → State → State}
    (hp : ∀ (user u : Nat) (s : State), s.keepsCaller i (post user u s)) (r : CloseReason) (j : LineId) (s : State) :
    s.keepsCaller i (closeInAccess post r j s) := by
  intro hs hn
  unfold closeInAccess
  split
  · rfl
  · next x hx =>
    have hne := State.openSession_ne hn hx
    have hclosed := (keepsCaller_closeDecision r s.clock.stamp s hne).trans (keepsCaller_accountWork hp _ hne)
    exact keepsCaller_ite (hclosed.trans (keepsCaller_enterClosing _ hne)) hclosed hs hn

theorem keepsCaller_postLevels (n : Nat) (spared : List LineId) (user u : Nat) (s : State) :
    s.keepsCaller i (postLevels n spared user u s) := by
  induction n generalizing spared user u s with
  | zero => exact (keepsCaller_modAccount s user _).trans (keepsCaller_fundsWarning spared user _)
  | succ n ih =>
    unfold postLevels
    split
    · exact .refl i s
    · extract_lets s1 zero close
      have h : s.keepsCaller i (exhaust user s1) :=
        (keepsCaller_modAccount s user _).trans (keepsCaller_mapSessions s1 _)
      exact (h.trans (keepsCaller_fold (fun s j => keepsCaller_closeInAccess (ih _) .funds j s) _ _)).trans
        (keepsCaller_fundsWarning spared user _)

/-- A posting, with the sessions it exhausts and closes, leaves a caller in SIGNON as it stands. -/
theorem keepsCaller_post (user u : Nat) (s : State) : s.keepsCaller i (post user u s) :=
  keepsCaller_postLevels 33 [] user u s

end

end Sys2Proof.Machine
end

section
/-! PROOFS. The verdict that admits (R61 to R65, R148, R149): serials, a posting that exhausts no session, and the
admission. -/

namespace Sys2Proof.Machine

/-! ### Serials (R149) -/

/-- The counter after some steps: it goes on from its value, and from 65,535 on it begins again at 1. -/
theorem nextCounter_iterate (n k : Nat) (hk : k < 65535) :
    nextCounter^[k + 1] n =
      if min n 65535 + (k + 1) ≤ 65535 then min n 65535 + (k + 1) else min n 65535 + (k + 1) - 65535 := by
  induction k with
  | zero =>
    show nextCounter n = _
    unfold nextCounter
    split <;> split <;> omega
  | succ k ih =>
    rw [Function.iterate_succ_apply', ih (by omega), nextCounter]
    split <;> split <;> split <;> omega

/-- Fewer than 65,535 steps of the counter do not come back to where they began. -/
theorem nextCounter_iterate_ne (n : Nat) {k : Nat} (h1 : 1 ≤ k) (h2 : k < 65535) : nextCounter^[k] n ≠ n := by
  obtain ⟨k, rfl⟩ := Nat.exists_eq_add_of_le' h1
  rw [nextCounter_iterate n k (by omega)]
  split <;> omega

/-- The serials that are tried one after another are different. -/
theorem nextCounter_tries_nodup (n : Nat) : ((List.range 33).map fun k => nextCounter^[k] n).Nodup := by
  have hlt : ∀ j k, j < k → k < 33 → nextCounter^[j] n ≠ nextCounter^[k] n := by
    intro j k hjk hk h
    rw [show k = (k - j) + j by omega, Function.iterate_add_apply] at h
    exact nextCounter_iterate_ne _ (by omega) (by omega) h.symm
  refine List.Nodup.map_on (fun j hj k hk h => ?_) List.nodup_range
  have hj := List.mem_range.mp hj
  have hk := List.mem_range.mp hk
  rcases Nat.lt_trichotomy j k with hlt' | heq | hgt
  · exact absurd h (hlt j k hlt' hk)
  · exact heq
  · exact absurd h.symm (hlt k j hgt hj)

/-- The serials that session parts carry. -/
def State.serials (s : State) : List Nat := allLines.filterMap fun i => (s.session i).map Session.serial

theorem State.serialUsed_iff (s : State) (n : Nat) : s.serialUsed n = true ↔ n ∈ s.serials := by
  simp [State.serialUsed, State.serials, Option.any_eq_true]

/-- A search finds a serial that no session part carries, or each serial that it tried is carried. -/
theorem State.findSerial_cases (s : State) (k n : Nat) :
    s.serialUsed (s.findSerial k n) = false ∨ ∀ j < k, s.serialUsed (nextCounter^[j] n) = true := by
  induction k generalizing n with
  | zero => exact .inr fun j hj => absurd hj (Nat.not_lt_zero j)
  | succ k ih =>
    rw [State.findSerial]
    cases hn : s.serialUsed n with
    | false => exact .inl hn
    | true =>
      rw [if_pos rfl]
      refine (ih (nextCounter n)).imp_right fun h j hj => ?_
      cases j with
      | zero => exact hn
      | succ j => exact h j (by omega)

/-- 33 tries find a serial that none of the 32 lines' session parts carries (R149). -/
theorem State.nextSerial_fresh (s : State) : s.serialUsed s.nextSerial = false := by
  refine (s.findSerial_cases 33 s.serialCounter).resolve_right fun h => ?_
  have hsub : ((List.range 33).map fun k => nextCounter^[k] s.serialCounter) ⊆ s.serials := by
    intro n hn
    obtain ⟨k, hk, rfl⟩ := List.mem_map.mp hn
    exact (s.serialUsed_iff _).mp (h k (List.mem_range.mp hk))
  have hle := ((nextCounter_tries_nodup s.serialCounter).subperm hsub).length_le
  have hserials : s.serials.length ≤ 32 := List.length_filterMap_le _ allLines
  rw [List.length_map, List.length_range] at hle
  omega

theorem State.serial_ne_nextSerial {s : State} {j : LineId} {x : Session} (h : s.session j = some x) :
    x.serial ≠ s.nextSerial := fun e => by
  have hused : s.serialUsed s.nextSerial = true :=
    (s.serialUsed_iff _).mpr (List.mem_filterMap.mpr ⟨j, mem_allLines j, by rw [h, ← e]; rfl⟩)
  rw [s.nextSerial_fresh] at hused
  contradiction

/-! ### Accounts changed one by one -/

theorem State.account_modAccount {s : State} {user : Nat} {a : Account} {f : Account → Account}
    (ha : s.account user = some a) (hf : ∀ b, (f b).user = b.user) :
    (s.modAccount user f).account user = some (f a) := by
  have hpred : ((fun b : Account => b.user == user) ∘ fun b => if b.user == user then f b else b) =
      fun b => b.user == user := by
    funext b
    by_cases h : b.user = user <;> simp [h, hf]
  have hfind : s.accounts.find? (fun b => b.user == user) = some a := ha
  rw [State.account, State.modAccount, List.find?_map, hpred, hfind, Option.map_some,
    if_pos (List.find?_some hfind)]

theorem State.easedAccounts_eq (s : State) (a : Account) :
    ({ s with accounts := s.easedAccounts a } : State) =
      if a.state = .active then s else s.modAccount a.user Account.unlocked := by
  unfold State.easedAccounts State.modAccount
  simp only [beq_iff_eq]
  split <;> rfl

/-- The account that the tests judged is the one in the table. -/
theorem State.account_eased {s : State} {a : Account} (h : s.account a.user = some a) :
    ({ s with accounts := s.easedAccounts a } : State).account a.user = some a.eased := by
  rw [State.easedAccounts_eq, Account.eased]
  split
  · exact h
  · exact State.account_modAccount h fun _ => rfl

/-! ### A posting that exhausts no session (R86, R87) -/

theorem State.mapSessions_id (s : State) : (s.mapSessions fun _ x => x) = s := by
  have h : (Bank.ofFn fun i => ({ s.line i with session := (s.line i).session.map fun x => x } : LineRec)) = s.lines :=
    Bank.ext_get fun i => by
      rw [Bank.get_ofFn, Option.map_id']
      rfl
  rw [State.mapSessions, State.mapLines, h]

/-- With the balance above minus every floor, no session of the user is exhausted. -/
theorem State.exhaustedLines_nil {s : State} {user : Nat} {a : Account} (ha : s.account user = some a)
    (h : ∀ c : Fin 4, -((s.classRec c).floor : Int) < a.balance) : s.exhaustedLines user = [] := by
  refine List.filter_eq_nil_iff.mpr fun j _ hj => ?_
  obtain ⟨x, -, hx⟩ := (Option.any_eq_true _ _).mp hj
  simp only [Bool.and_eq_true, beq_iff_eq] at hx
  obtain ⟨⟨-, rfl⟩, hexhausted⟩ := hx
  rw [State.exhausted, ha, Option.any_some, decide_eq_true_iff] at hexhausted
  exact absurd (h x.cls) (Int.not_lt.mpr hexhausted)

theorem exhaust_none {s : State} {user : Nat} (h : s.exhaustedLines user = []) : exhaust user s = s := by
  simp only [exhaust, h, List.contains_nil, Bool.false_eq_true, if_false, State.mapSessions_id]

/-- A charge of 0 makes no posting. -/
theorem post_zero (user : Nat) (s : State) : post user 0 s = s := by
  rw [post, postLevels, if_pos rfl]

/-- A posting that exhausts no session debits the account and makes its funds warning (R86, R89). -/
theorem post_unexhausted {s : State} {user u : Nat} {a : Account} (hu : u ≠ 0) (ha : s.account user = some a)
    (h : ∀ c : Fin 4, -((s.classRec c).floor : Int) < debited a.balance u) :
    post user u s = fundsWarning [] user (debitBalance user u s) := by
  have hdebited : (debitBalance user u s).account user = some
      { a with balance := debited a.balance u, periodUnits := addHold32 a.periodUnits u } :=
    State.account_modAccount ha fun _ => rfl
  have hnil := State.exhaustedLines_nil hdebited h
  rw [post, postLevels, if_neg hu]
  simp only [State.zeroGraceLines, hnil, exhaust_none hnil, List.filter_nil, List.foldl_nil]

/-! ### The admission, in its parts (R64, R65, R148, log entry 30) -/

/-- The account at an admission, before the setup posting (R64). -/
def Account.signedOn (now : Stamp) (b : Account) : Account :=
  { b with failCount := 0, lastSignOn := some now, openCount := b.openCount + 1 }

/-- The state with the account signed on, the setup charge posted, and the line off the check request queue. -/
def State.charged (s : State) (i : LineId) (a : Account) : State :=
  leaveCheckQueue i (post a.user (s.classRec a.cls).setup (s.modAccount a.user (Account.signedOn s.clock.stamp)))

/-- The line record at an admission: in SESSION with a new session part and SIGNED_ON to send (R65). -/
def LineRec.admitted (l : LineRec) (q : SignOnPart) (x : Session) : LineRec :=
  { l with state := .session, signOn := none, session := some x, messages := [15], txItem := q.begun }

/-- The session part that an admission makes in a state. -/
def State.sessionFor (v : State) (i : LineId) (a : Account) : Session := newSession v i a.user a.cls v.nextSerial

/-- The state with the session part made and the OPEN mark placed. -/
def State.opened (v : State) (i : LineId) (q : SignOnPart) (a : Account) : State :=
  placeInput (.openMark i v.nextSerial a.user)
    ({ v with serialCounter := nextCounter v.nextSerial }.modLine i fun l => l.admitted q (v.sessionFor i a))

theorem openSessionOn_eq (i : LineId) (q : SignOnPart) (a : Account) (s : State) :
    openSessionOn i q a s = fundsWarning [] a.user (kick i ((s.charged i a).opened i q a)) := rfl

section
variable {i : LineId} {q : SignOnPart} {a : Account} {s : State}

theorem State.charged_frame : s.workFrame (s.charged i a) :=
  ((workFrame_modAccount s _ _).trans (workFrame_post _ _ _)).trans (lineFrame_leaveCheckQueue _ i).work

theorem State.charged_line (hs : (s.line i).state = .signOn) (hn : (s.line i).session = none) :
    (s.charged i a).line i = s.line i := keepsCaller_post (i := i) _ _ _ hs hn

theorem State.charged_left : ∀ f ∈ (s.charged i a).checkQueue, f.line ≠ i := fun f hf => by
  simpa using (List.mem_filter.mp hf).2

/-- A new session part reads the clock, the tariff, the classes and the ticks alone. -/
theorem State.workFrame.newSession {v : State} (h : s.workFrame v) (user : Nat) (c : Fin 4) (n : Nat) :
    newSession v i user c n = newSession s i user c n := by
  unfold State.workFrame at h
  rw [h]
  rfl

theorem State.opened_line : ((s.opened i q a).line i) = (s.line i).admitted q (s.sessionFor i a) := by
  rw [State.opened, State.line, placeInput_lines]
  exact State.line_modLine _ i _

theorem State.opened_others {j : LineId} (h : j ≠ i) : (s.opened i q a).line j = s.line j := by
  rw [State.opened, State.line, placeInput_lines]
  exact State.line_modLine_ne _ _ (Ne.symm h)

/-- What the admission does after the session part is made is sending. -/
theorem openSessionOn_sends : ((s.charged i a).opened i q a).sendsOn (openSessionOn i q a s) := by
  rw [openSessionOn_eq]
  exact (sendsOn_kick i _).trans (sendsOn_fundsWarning [] a.user _)

theorem openSessionOn_frame : ((s.charged i a).opened i q a).lineFrame (openSessionOn i q a s) := by
  rw [openSessionOn_eq]
  exact (lineFrame_kick _ i).trans (lineFrame_fundsWarning _ [] a.user)

/-- The account table after a setup charge that exhausts no session, and the input queue (R86, R148). -/
theorem State.charged_unexhausted (ha : s.account a.user = some a)
    (h : (s.classRec a.cls).setup = 0 ∨
      ∀ c : Fin 4, -((s.classRec c).floor : Int) < debited a.balance (s.classRec a.cls).setup) :
    (s.charged i a).input = s.input ∧ (s.charged i a).accounts = s.accounts.map fun b =>
      if b.user = a.user then
        { b.signedOn s.clock.stamp with
          balance := if (s.classRec a.cls).setup = 0 then b.balance else debited b.balance (s.classRec a.cls).setup
          periodUnits :=
            if (s.classRec a.cls).setup = 0 then b.periodUnits else addHold32 b.periodUnits (s.classRec a.cls).setup }
      else b := by
  let v := s.modAccount a.user (Account.signedOn s.clock.stamp)
  have hacct : v.account a.user = some (a.signedOn s.clock.stamp) := State.account_modAccount ha fun _ => rfl
  by_cases hzero : (s.classRec a.cls).setup = 0
  · rw [State.charged, hzero, post_zero]
    refine ⟨rfl, ?_⟩
    simp only [leaveCheckQueue, State.modAccount, beq_iff_eq, if_true]
    rfl
  · have hpost := post_unexhausted hzero hacct (h.resolve_left hzero)
    have hframe := (lineFrame_fundsWarning (debitBalance a.user (s.classRec a.cls).setup v) [] a.user).trans
      (lineFrame_leaveCheckQueue _ i)
    rw [State.charged, hpost]
    refine ⟨hframe.input, hframe.sameTables.1.trans ?_⟩
    simp only [v, debitBalance, State.modAccount, beq_iff_eq, List.map_map, if_neg hzero]
    refine List.map_congr_left fun b _ => ?_
    by_cases hb : b.user = a.user <;> simp [hb, Account.signedOn]

/-- The line at an admission: in SESSION with its new session part, whose marks alone the sending may have set (R65). -/
theorem openSessionOn_line (hs : (s.line i).state = .signOn) (hn : (s.line i).session = none) :
    let t := openSessionOn i q a s
    (t.line i).state = .session ∧ (t.line i).signOn = none ∧ (t.line i).reserved = (s.line i).reserved ∧
      (t.line i).speed = (s.line i).speed ∧ ∃ activity warned, (t.line i).session = some
        { newSession s i a.user a.cls (s.charged i a).nextSerial with activity := activity, fundsWarned := warned } := by
  intro t
  have hsends := (openSessionOn_sends (i := i) (q := q) (a := a) (s := s)).line i
  rw [State.opened_line, State.charged_line hs hn] at hsends
  obtain ⟨hstate, hsignOn, hreserved, hspeed, hsome⟩ := hsends.stays rfl
  obtain ⟨y, hy⟩ := Option.isSome_iff_exists.mp hsome
  obtain ⟨x, hx, hyx⟩ := hsends.session y hy
  obtain rfl : (s.charged i a).sessionFor i a = x := Option.some.inj hx
  refine ⟨hstate, hsignOn, hreserved, hspeed, y.activity, y.fundsWarned, hy.trans ?_⟩
  rw [← State.charged_frame.newSession]
  exact congrArg some hyx

/-- The serial of an admission is the one that no other session part carries, and the counter goes on from it (R149). -/
theorem openSessionOn_serial :
    let t := openSessionOn i q a s
    let n := (s.charged i a).nextSerial
    t.serialCounter = nextCounter n ∧
      ∀ (j : LineId) (z : Session), j ≠ i → t.session j = some z → z.serial ≠ n := by
  intro t n
  refine ⟨?_, fun j z hj hz => ?_⟩
  · obtain ⟨-, -, -, -, -, -, -, hcounter⟩ := (openSessionOn_frame (i := i) (q := q) (a := a) (s := s)).sameTables
    exact hcounter
  · obtain ⟨x, hx, hzx⟩ := (openSessionOn_sends.line j).session z hz
    rw [State.opened_others hj] at hx
    have hne := State.serial_ne_nextSerial hx
    rw [hzx]
    exact hne

theorem State.opened_checkQueue : (s.opened i q a).checkQueue = s.checkQueue := rfl

theorem openSessionOn_left : ∀ f ∈ (openSessionOn i q a s).checkQueue, f.line ≠ i := fun f hf => by
  have h := openSessionOn_sends.checks f hf
  rw [State.opened_checkQueue] at h
  exact State.charged_left f h

/-- The OPEN mark joins the tail, and the accounts are those that the setup charge leaves. -/
theorem openSessionOn_beside :
    (openSessionOn i q a s).input =
        (s.charged i a).input ++ [.openMark i (s.charged i a).nextSerial a.user] ∧
      (openSessionOn i q a s).accounts = (s.charged i a).accounts :=
  have hframe := openSessionOn_frame (i := i) (q := q) (a := a) (s := s)
  ⟨hframe.input.trans (placeInput_input _ _), hframe.sameTables.1⟩

end

/-- The accounts at an admission, with a lockout that has passed ended before the account is signed on (R61, R64). -/
theorem State.easedAccounts_signedOn (s : State) (a : Account) (balance : Account → Int) (units : Account → Nat)
    (hstate : a.state = .active ∨ a.state = .lockedOut)
    (hbalance : ∀ b : Account, balance b.unlocked = balance b) (hunits : ∀ b : Account, units b.unlocked = units b) :
    ((s.easedAccounts a).map fun b =>
        if b.user = a.user then { b.signedOn s.clock.stamp with balance := balance b, periodUnits := units b } else b) =
      s.accounts.map fun b =>
        if b.user = a.user then
          { b with
            state := if a.state = .lockedOut then .active else b.state
            lockedUntil := if a.state = .lockedOut then none else b.lockedUntil
            failCount := 0
            lastSignOn := some s.clock.stamp, openCount := b.openCount + 1
            balance := balance b, periodUnits := units b }
        else b := by
  rcases hstate with h | h
  · rw [State.easedAccounts, if_pos h]
    simp [h, Account.signedOn]
  · rw [State.easedAccounts, if_neg (by rw [h]; decide), List.map_map]
    refine List.map_congr_left fun b _ => ?_
    by_cases hb : b.user = a.user
    · have h1 : balance { b with state := .active, failCount := 0, lockedUntil := none } = balance b := hbalance b
      have h2 : units { b with state := .active, failCount := 0, lockedUntil := none } = units b := hunits b
      simp only [Function.comp_apply, if_pos hb, h1, h2, h, if_true, Account.signedOn]
    · simp [hb]

theorem giveBack_serialCounter (s : State) : (giveBack s).serialCounter = s.serialCounter := by rw [giveBack_eq]

/-- Settles O28: the verdict is an admission, whose parts are the account, the setup charge, the session part with its
fresh serial, and the OPEN mark. -/
theorem verdictAdmitsACaller : Obligations.VerdictAdmitsACaller := by
  intro e q a s hp hnext he hstate hq hnone hu hh ha hsigns htvote havote hlimit hfunds hroom
  obtain ⟨arbiter, hexec⟩ := exec_verdict hp hnext he
  let g : State := { s with arbiter := arbiter }
  let v : State := { g with accounts := g.easedAccounts a }
  let n := (v.charged e.line a.eased).nextSerial
  have huser : a.eased.user = a.user := by rw [Account.eased_eq]
  have hcls : a.eased.cls = a.cls := by rw [Account.eased_eq]
  have hbalance : a.eased.balance = a.balance := by rw [Account.eased_eq]
  have hadmits : verdictFor e.line g = openSessionOn e.line q a.eased v := by
    have htest : v.refusalTest a.eased = none := (g.refusalTest_eased a).trans
      (State.refusalTest_passed (by simp [g, htvote, havote]) (Nat.not_le.mpr hlimit) (Int.not_le.mpr hfunds))
    rw [verdictFor_judged (s := g) hq hu hh ha rfl hsigns, judgeActive_passed htest,
      if_pos (v.roomForOpen_iff.mpr hroom)]
  rw [show verdictFor e.line { s with arbiter := arbiter } = _ from hadmits] at hexec
  obtain ⟨hsession, hsignOn, hreserved, hspeed, activity, warned, hy⟩ :=
    openSessionOn_line (q := q) (a := a.eased) (s := v) hstate hnone
  obtain ⟨hcounter, hserial⟩ := openSessionOn_serial (i := e.line) (q := q) (a := a.eased) (s := v)
  obtain ⟨hinput, haccounts⟩ := openSessionOn_beside (i := e.line) (q := q) (a := a.eased) (s := v)
  refine ⟨_, n, { newSession s e.line a.user a.cls n with activity := activity, fundsWarned := warned }, hexec, ?_⟩
  simp only [giveBack_line, State.session, giveBack_checkQueue, giveBack_input, giveBack_accounts,
    giveBack_serialCounter]
  refine ⟨hsession, ?_, hsignOn, hreserved, hspeed, rfl, rfl, rfl, rfl, rfl, rfl, rfl, rfl, rfl, rfl, rfl, rfl, rfl, rfl,
    rfl, rfl, hcounter, hserial, openSessionOn_left, fun hsetup => ?_⟩
  · rw [hy, huser, hcls]
    rfl
  · obtain ⟨hchargedInput, hchargedAccounts⟩ := State.charged_unexhausted (i := e.line) (s := v)
      (by rw [huser]; exact State.account_eased ha) (by rw [hbalance, hcls]; exact hsetup)
    rw [hinput, haccounts, hchargedInput, hchargedAccounts, huser, hcls]
    exact ⟨rfl, g.easedAccounts_signedOn a _ _ (hsigns.imp_right And.left) (fun _ => rfl) fun _ => rfl⟩

end Sys2Proof.Machine
end

section
/-! PROOFS. The law of the account table (R70, R75): what lines, postings, closes and passes leave of the records. -/

namespace Sys2Proof.Machine

/-! ### Standings -/

/-- What postings, closes and passes leave of a record: whose it is, its state, and its lockout stamp. -/
def Account.standing (a : Account) : Nat × AccountState × Option Stamp := (a.user, a.state, a.lockedUntil)

/-- The standings of the account table, in its order. -/
def State.standings (s : State) : List (Nat × AccountState × Option Stamp) := s.accounts.map Account.standing

theorem State.accountsOrdered_iff (s : State) :
    s.accountsOrdered ↔ (s.standings.map Prod.fst).Pairwise (· < ·) ∧ s.standings.length ≤ Config.accountCapacity := by
  simp only [State.accountsOrdered, State.standings, List.map_map, List.pairwise_map, List.length_map]
  rfl

theorem State.lineFrame.accounts {s t : State} (h : s.lineFrame t) : t.accounts = s.accounts := h.sameTables.1

theorem State.standings_congr {s t : State} (h : t.accounts = s.accounts) : t.standings = s.standings :=
  congrArg (List.map Account.standing) h

theorem State.lineFrame.standings {s t : State} (h : s.lineFrame t) : t.standings = s.standings :=
  State.standings_congr h.accounts

theorem State.accountsOrdered.of_standings {s t : State} (hs : s.accountsOrdered) (h : t.standings = s.standings) :
    t.accountsOrdered := by
  rw [State.accountsOrdered_iff] at *
  rwa [h]

theorem State.accountsOrdered.of_accounts {s t : State} (hs : s.accountsOrdered) (h : t.accounts = s.accounts) :
    t.accountsOrdered := hs.of_standings (State.standings_congr h)

theorem modAccount_standings (s : State) (user : Nat) {f : Account → Account}
    (hf : ∀ b, (f b).standing = b.standing) : (s.modAccount user f).standings = s.standings := by
  simp only [State.standings, State.modAccount, List.map_map]
  refine List.map_congr_left fun b _ => ?_
  rw [Function.comp_apply]
  split
  · exact hf b
  · rfl

theorem foldl_standings {α : Type} {f : State → α → State} (hf : ∀ (s : State) a, (f s a).standings = s.standings)
    (l : List α) (s : State) : (l.foldl f s).standings = s.standings :=
  List.foldlRecOn (motive := fun t : State => t.standings = s.standings) l f rfl fun _ h a _ => (hf _ a).trans h

/-! ### Operations beside the account table -/

theorem completeOk_accounts (p : PortId) (f : List Word) (s : State) :
    (completeOk p f s).accounts = s.accounts := complete_accounts p _ _ f s

theorem refuse_accounts (p : PortId) (st : Status) (s : State) : (refuse p st s).accounts = s.accounts :=
  complete_accounts p st _ _ s

theorem latchA_accounts (c : ACause) (s : State) : (latchA c s).accounts = s.accounts := rfl
theorem latchCollision_accounts (p : PortId) (s : State) : (latchCollision p s).accounts = s.accounts :=
  s.modPort_accounts p _

theorem rejudge_accounts (s : State) : (rejudge s).accounts = s.accounts := rfl
theorem hangup_accounts (i : LineId) (s : State) : (hangup i s).accounts = s.accounts :=
  (lineFrame_hangup s i).accounts

theorem dropReservation_accounts (i : LineId) (s : State) : (dropReservation i s).accounts = s.accounts :=
  (lineFrame_dropReservation s i).accounts

theorem choose_accounts (i : LineId) (s : State) : (choose i s).accounts = s.accounts :=
  (lineFrame_choose s i).accounts

theorem kick_accounts (i : LineId) (s : State) : (kick i s).accounts = s.accounts :=
  (lineFrame_kick s i).accounts

theorem endClosing_accounts (i : LineId) (s : State) : (endClosing i s).accounts = s.accounts :=
  (lineFrame_endClosing s i).accounts

theorem enterClosing_accounts (i : LineId) (s : State) : (enterClosing i s).accounts = s.accounts :=
  (lineFrame_enterClosing s i).accounts

theorem granted_accounts (c : Client) (s : State) : (granted c s).accounts = s.accounts := by rw [granted_eq]

theorem takeInstall_accounts (x : Install) (s : State) : (takeInstall x s).accounts = s.accounts := by
  rw [takeInstall_eq]

theorem settleRelease_accounts (s : State) : (settleRelease s).accounts = s.accounts := by
  rw [settleRelease_eq]

theorem beginRelease_accounts (s : State) : (beginRelease s).accounts = s.accounts := by rw [beginRelease_eq]
theorem limitOver_accounts (s : State) : (limitOver s).accounts = s.accounts := by rw [limitOver_eq]

theorem writeRecord_accounts (r : Nat → BillingRecord) (s : State) :
    (writeRecord r s).accounts = s.accounts := by
  unfold writeRecord
  dsimp only
  split <;> rfl

theorem addStated_accounts (k : Config.Unstated) (x y : Nat) (s : State) :
    (addStated k x y s).2.accounts = s.accounts := by
  unfold addStated; split <;> rfl

theorem divertClose_accounts (x : Session) (s : State) : (divertClose x s).accounts = s.accounts := by
  unfold divertClose; dsimp only; split <;> split <;> rfl

theorem closeDecision_accounts (r : CloseReason) (t : Stamp) (i : LineId) (s : State) :
    (closeDecision r t i s).accounts = s.accounts := by
  unfold closeDecision
  split
  · dsimp only
    split <;> rfl
  · rfl

theorem closeOutside_accounts (r : CloseReason) (i : LineId) (s : State) :
    (closeOutside r i s).accounts = s.accounts := by
  unfold closeOutside
  split
  · rfl
  · dsimp only
    split
    · exact (enterClosing_accounts i _).trans (closeDecision_accounts r _ i s)
    · exact closeDecision_accounts r _ i s

/-! ### Postings, closes and passes -/

theorem lowerOpenCount_standings (user : Nat) (s : State) : (lowerOpenCount user s).standings = s.standings :=
  modAccount_standings s user fun _ => rfl

theorem accountWork_standings {post : Nat → Nat → State → State}
    (hp : ∀ (user u : Nat) (s : State), (post user u s).standings = s.standings) (i : LineId) (s : State) :
    (accountWork post i s).standings = s.standings := by
  unfold accountWork
  split
  · rfl
  · extract_lets up cu s1 x1 x2 kept s2 s3 s4 s5
    have h1 : s1.accounts = s.accounts := by
      unfold s1 cu
      split
      · exact addStated_accounts ..
      · rfl
    have h2 : s2.accounts = s1.accounts := by
      unfold s2
      split
      · exact divertClose_accounts _ s1
      · rfl
    have h4 : s4.accounts = s2.accounts := (dropReservation_accounts i _).trans (writeRecord_accounts _ s3)
    have h5 : s5.standings = s.standings :=
      (lowerOpenCount_standings _ s4).trans (State.standings_congr (h4.trans (h2.trans h1)))
    split
    · exact (hp _ _ s5).trans h5
    · exact h5

theorem closeInAccess_standings {post : Nat → Nat → State → State}
    (hp : ∀ (user u : Nat) (s : State), (post user u s).standings = s.standings) (r : CloseReason) (i : LineId)
    (s : State) : (closeInAccess post r i s).standings = s.standings := by
  unfold closeInAccess
  split
  · rfl
  · extract_lets s1
    have h1 : s1.standings = s.standings := (accountWork_standings hp i _).trans
      (State.standings_congr (closeDecision_accounts r s.clock.stamp i s))
    split
    · exact (lineFrame_enterClosing s1 i).standings.trans h1
    · exact h1

theorem debitBalance_standings (user u : Nat) (s : State) : (debitBalance user u s).standings = s.standings :=
  modAccount_standings s user fun _ => rfl

theorem postLevels_standings (n : Nat) (spared : List LineId) (user u : Nat) (s : State) :
    (postLevels n spared user u s).standings = s.standings := by
  induction n generalizing spared user u s with
  | zero => exact (lineFrame_fundsWarning _ spared user).standings.trans (debitBalance_standings user u s)
  | succ n ih =>
    unfold postLevels
    split
    · rfl
    · exact ((lineFrame_fundsWarning _ spared user).standings.trans
        (foldl_standings (fun s i => closeInAccess_standings (ih _) .funds i s) _ _)).trans
          (debitBalance_standings user u s)

theorem post_standings (user u : Nat) (s : State) : (post user u s).standings = s.standings :=
  postLevels_standings 33 [] user u s

theorem closeNow_standings (r : CloseReason) (i : LineId) (s : State) : (closeNow r i s).standings = s.standings :=
  closeInAccess_standings post_standings r i s

theorem closeMatching_standings (r : CloseReason) (covers : Session → Bool) (s : State) :
    (closeMatching r covers s).1.standings = s.standings := by
  unfold closeMatching
  refine List.foldlRecOn (motive := fun acc : State × Nat => acc.1.standings = s.standings) _ _ rfl
    fun acc h i _ => ?_
  split
  · split
    · exact (closeNow_standings r i _).trans h
    · exact h
  · exact h

theorem chargeSecond_standings (i : LineId) (t : Stamp) (s : State) :
    (chargeSecond i t s).standings = s.standings := by
  unfold chargeSecond
  split
  · rfl
  · extract_lets total u cs cu s1 x1 y s2 s3
    have h1 : s1.standings = s.standings :=
      State.standings_congr ((addStated_accounts ..).trans (addStated_accounts ..))
    have h3 : s3.standings = s2.standings := modAccount_standings s2 _ fun _ => rfl
    split
    · exact h1
    · exact (post_standings _ _ s3).trans (h3.trans h1)

theorem judgeIdle_standings (i : LineId) (s : State) : (judgeIdle i s).1.standings = s.standings := by
  unfold judgeIdle
  split
  · rfl
  · extract_lets x1 s1 c
    split
    · exact closeNow_standings .idle i s1
    · split
      · exact (lineFrame_requestMessage _ i 11).standings
      · rfl

theorem countGrace_standings (i : LineId) (s : State) : (countGrace i s).1.standings = s.standings := by
  unfold countGrace
  split
  · rfl
  · extract_lets g s1
    split
    · exact closeNow_standings .funds i s1
    · rfl

theorem passAccess_standings (i : LineId) (t : Tick) (s : State) : (passAccess i t s).1.standings = s.standings := by
  unfold passAccess
  extract_lets inGrace s1 j g
  have hj : j.1.standings = s.standings := (judgeIdle_standings i s1).trans (chargeSecond_standings i _ s)
  have hg : g.1.standings = s.standings := by
    unfold g
    split
    · exact (countGrace_standings i _).trans hj
    · exact hj
  exact (lineFrame_recompute i t _).standings.trans hg

theorem heldSecond_accounts (i : LineId) (s : State) : (heldSecond i s).accounts = s.accounts := by
  unfold heldSecond
  split
  · rfl
  · exact addStated_accounts ..

theorem visitLines_accounts (t : Tick) (l : List LineId) (s : State) :
    (visitLines t l s).accounts = s.accounts := by
  induction l generalizing s with
  | nil => rfl
  | cons i l ih =>
    unfold visitLines
    split
    · split
      · rfl
      · split
        · exact (ih _).trans (heldSecond_accounts i s)
        · exact ih s
    · exact ih s

theorem visit_accounts (s : State) : (visit s).accounts = s.accounts := by
  unfold visit
  split
  · rfl
  · unfold endPass
    split <;> exact visitLines_accounts ..

theorem startRemembered_accounts (s : State) : (startRemembered s).accounts = s.accounts := by
  unfold startRemembered
  split
  · split
    · rfl
    · exact visit_accounts _
  · rfl

theorem passOn_accounts (s : State) : (passOn s).accounts = s.accounts :=
  (settleRelease_accounts _).trans ((startRemembered_accounts _).trans (visit_accounts s))

theorem clockTick_accounts (s : State) : (clockTick s).accounts = s.accounts := by
  have htake : ∀ u : State, (takeTick u).accounts = u.accounts := fun u => by
    unfold takeTick
    dsimp only
    split
    · rfl
    · split
      · rfl
      · exact visit_accounts _
  unfold clockTick
  split
  · exact (htake _).trans (passOn_accounts s)
  · rfl

theorem addPeriodSeconds_standings (user n : Nat) (s : State) :
    (addPeriodSeconds user n s).standings = s.standings := modAccount_standings s user fun _ => rfl

theorem payDueList_standings (s : State) : (payDueList s).standings = s.standings :=
  foldl_standings (f := fun (s : State) (e : DueEntry) => addPeriodSeconds e.user e.seconds s)
    (fun s e => addPeriodSeconds_standings e.user e.seconds s) s.engine.secondsDue s

theorem payDue_standings (s : State) : (payDue s).standings = s.standings := by
  have hline : ∀ (u : State) (i : LineId), (payUnpostedSeconds i u).standings = u.standings := fun u i => by
    unfold payUnpostedSeconds
    split
    · rfl
    · next x _ =>
      exact (lineFrame_modSession _ i _).standings.trans (addPeriodSeconds_standings x.user x.unpostedSeconds u)
  unfold payDue
  extract_lets s1
  have h1 : s1.standings = s.standings :=
    (foldl_standings (f := fun s i => payUnpostedSeconds i s) hline allLines _).trans (payDueList_standings s)
  clear_value s1
  exact h1

theorem releaseStep_standings (s : State) : (releaseStep s).standings = s.standings := by
  unfold releaseStep
  split
  · exact post_standings ..
  · split
    · rfl
    · split
      · rfl
      · exact post_standings ..

theorem closeWorkAccess_standings (s : State) : (closeWorkAccess s).standings = s.standings := by
  unfold closeWorkAccess
  split
  · rfl
  · next i rest _ =>
    extract_lets e s1 s2
    have h2 : s2.standings = s.standings := accountWork_standings post_standings i s1
    split
    · split
      · exact (lineFrame_hangup s2 i).standings.trans h2
      · exact (lineFrame_kick s2 i).standings.trans h2
      · exact h2
    · rfl

theorem serveCloseWork_standings (s : State) : (serveCloseWork s).standings = s.standings :=
  foldl_standings (fun s _ => closeWorkAccess_standings s) _ s

theorem passStep_standings (s : State) : (passStep s).1.standings = s.standings := by
  have hafter : ∀ u : State, (afterAccess u).accounts = u.accounts := fun u =>
    (arbitrate_accounts _).trans ((passOn_accounts _).trans (limitOver_accounts _))
  have h1 : (passOn s).standings = s.standings := State.standings_congr (passOn_accounts s)
  unfold passStep
  dsimp only
  split
  · exact h1
  · split
    · exact h1
    · split
      · exact ((State.standings_congr (hafter _)).trans (passAccess_standings _ _ _)).trans h1
      · exact h1

theorem passStepOn_standings (i : LineId) (hit : PassNote → Bool) (s : State) :
    (passStepOn i hit s).standings = s.standings := by
  unfold passStepOn
  split
  · split
    · exact passStep_standings s
    · rfl
  · rfl

theorem closeWorkGranted_standings (s : State) : (closeWorkGranted s).standings = s.standings := by
  unfold closeWorkGranted
  split
  · exact (State.standings_congr (giveBack_accounts _)).trans (closeWorkAccess_standings s)
  · rfl

/-! ### The hold -/

theorem holdGrantOn_accounts (s : State) : (holdGrantOn s).accounts = s.accounts := by
  unfold holdGrantOn
  dsimp only
  split
  · exact (arbitrate_accounts _).trans (passOn_accounts s)
  · rfl

theorem holdLimitOver_accounts (s : State) : (holdLimitOver s).accounts = s.accounts := by
  unfold holdLimitOver
  split
  · exact limitOver_accounts s
  · rfl

theorem releasePostingOn_standings (s : State) : (releasePostingOn s).standings = s.standings := by
  have h1 : (passOn s).standings = s.standings := State.standings_congr (passOn_accounts s)
  unfold releasePostingOn
  dsimp only
  split
  · exact (State.standings_congr (settleRelease_accounts _)).trans ((releaseStep_standings _).trans h1)
  · exact h1

theorem secondsDueOn_standings (s : State) : (secondsDueOn s).standings = s.standings := by
  unfold secondsDueOn
  split
  · exact (State.standings_congr ((arbitrate_accounts _).trans (startRemembered_accounts _))).trans (payDue_standings s)
  · rfl

end Sys2Proof.Machine
end


section
/-! PROOFS. The law of the account table (R70, R75): lines, ports and commands, and the step that keeps the law. -/

namespace Sys2Proof.Machine

/-! ### The watch and the lines -/

theorem forLines_accounts {f : LineId → State → State} (hf : ∀ i (s : State), (f i s).accounts = s.accounts)
    (s : State) : (s.forLines f).accounts = s.accounts :=
  List.foldlRecOn (motive := fun t : State => t.accounts = s.accounts) allLines _ rfl fun _ h i _ => (hf i _).trans h

theorem accounts_ite {c : Prop} [Decidable c] {s t u : State} (ht : t.accounts = s.accounts)
    (hu : u.accounts = s.accounts) : (if c then t else u).accounts = s.accounts := by split <;> assumption

theorem lineDown_accounts (i : LineId) (s : State) : (lineDown i s).accounts = s.accounts := by
  unfold lineDown
  split
  · exact hangup_accounts i s
  · exact hangup_accounts i s
  · exact enterClosing_accounts i _
  · rfl

theorem watchDown_accounts (s : State) : (watchDown s).accounts = s.accounts := by
  unfold watchDown
  extract_lets w s1 s2
  rw [arbitrate_accounts, latchA_accounts, rejudge_accounts]
  exact forLines_accounts lineDown_accounts (rejudge s2)

theorem resumeLine_accounts (i : LineId) (s : State) : (resumeLine i s).accounts = s.accounts := by
  unfold resumeLine
  split
  · rfl
  · split
    · rfl
    · dsimp only
      split
      · rfl
      · split
        · split
          · exact closeOutside_accounts .funds i _
          · rfl
        · rfl

theorem takenByWatch_accounts (s : State) : (takenByWatch s).accounts = s.accounts := by
  unfold takenByWatch watchUp
  extract_lets w s1 w2 s2
  split
  · rw [rejudge_accounts, latchA_accounts]
    exact forLines_accounts resumeLine_accounts s2
  · rfl

theorem watchTimerOver_accounts (s : State) : (watchTimerOver s).accounts = s.accounts := by
  unfold watchTimerOver
  split
  · exact watchDown_accounts s
  · rfl

theorem holdDownExpired_accounts (s : State) : (holdDownExpired s).accounts = s.accounts := by
  unfold holdDownExpired
  split
  · refine forLines_accounts (fun i u => ?_) _
    split
    · exact closeOutside_accounts .systemDown i u
    · rfl
  · rfl

theorem qualifiedRingOn_accounts (i : LineId) (s : State) : (qualifiedRingOn i s).accounts = s.accounts := by
  have hanswer : ∀ u : State, (answer i u).accounts = u.accounts := fun u => by
    unfold answer; split <;> rfl
  have hring : ∀ u : State, (ringOn i u).accounts = u.accounts := fun u => by
    unfold ringOn
    extract_lets count s1
    split
    · exact hanswer s1
    · rfl
  unfold qualifiedRingOn
  extract_lets s1
  split
  · split
    · exact hring _
    · exact hring _
    · rfl
  · rfl

theorem ringGapOver_accounts (i : LineId) (s : State) : (ringGapOver i s).accounts = s.accounts := by
  unfold ringGapOver; split <;> rfl

theorem carrierPresentOn_accounts (i : LineId) (s : State) : (carrierPresentOn i s).accounts = s.accounts := by
  unfold carrierPresentOn
  dsimp only
  split
  · split <;> rfl
  · rfl

theorem phaseOver_accounts (st : LineState) (i : LineId) (s : State) : (phaseOver st i s).accounts = s.accounts := by
  unfold phaseOver
  split
  · exact hangup_accounts i s
  · rfl

theorem carrierLossOn_accounts (i : LineId) (s : State) : (carrierLossOn i s).accounts = s.accounts := by
  unfold carrierLossOn loseCarrier
  split
  · split
    · exact hangup_accounts i _
    · exact hangup_accounts i _
    · exact closeOutside_accounts .carrier i _
    · exact endClosing_accounts i _
    · rfl
  · rfl

theorem stuckCarrierOn_accounts (i : LineId) (s : State) : (stuckCarrierOn i s).accounts = s.accounts := by
  unfold stuckCarrierOn
  dsimp only
  split
  · split <;> rfl
  · rfl

theorem ringStuckOn_accounts (i : LineId) (s : State) : (ringStuckOn i s).accounts = s.accounts := by
  unfold ringStuckOn
  dsimp only
  split
  · split <;> rfl
  · rfl

theorem speedMeasuredOn_accounts (i : LineId) (ticks : Nat) (s : State) :
    (speedMeasuredOn i ticks s).accounts = s.accounts := by
  unfold speedMeasuredOn measured
  split
  · split
    · exact kick_accounts i _
    · split
      · exact hangup_accounts i s
      · rfl
  · rfl

theorem guardOver_accounts (i : LineId) (s : State) : (guardOver i s).accounts = s.accounts := by
  unfold guardOver; split <;> rfl

theorem leaveTest_accounts (i : LineId) (abandoned : Bool) (s : State) :
    (leaveTest i abandoned s).accounts = s.accounts := by rw [leaveTest_eq]; rfl

theorem endTest_accounts (i : LineId) (s : State) : (endTest i s).accounts = s.accounts := by
  unfold endTest
  split
  · rfl
  · exact (completeOk_accounts .t _ _).trans (leaveTest_accounts i false s)

theorem lineTestEnded_accounts (i : LineId) (s : State) : (lineTestEnded i s).accounts = s.accounts := by
  unfold lineTestEnded
  split
  · exact endTest_accounts i s
  · rfl

theorem characterEnded_accounts (i : LineId) (s : State) : (characterEnded i s).accounts = s.accounts := by
  unfold characterEnded
  split
  · exact choose_accounts i _
  · rfl

theorem badAttempt_accounts (i : LineId) (s : State) : (badAttempt i s).accounts = s.accounts := kick_accounts i _

theorem refuseCaller_accounts (i : LineId) (slot : Nat) (s : State) :
    (refuseCaller i slot s).accounts = s.accounts := kick_accounts i _

theorem signOnChar_accounts (i : LineId) (data : Byte) (framing : Bool) (s : State) :
    (signOnChar i data framing s).accounts = s.accounts := by
  unfold signOnChar
  split
  · rfl
  · split
    · rfl
    · dsimp only
      split
      · exact kick_accounts i _
      · split
        · unfold passEnd
          dsimp only
          split
          · exact badAttempt_accounts i s
          · exact arbitrate_accounts _
        · rfl
      · rfl
      · rfl

theorem receive_accounts (i : LineId) (data : Byte) (framing : Bool) (s : State) :
    (receive i data framing s).accounts = s.accounts := by
  unfold receive
  split
  · split
    · rfl
    · exact signOnChar_accounts i data framing s
  · split
    · unfold offerChar; split <;> rfl
    · unfold offerChar; split <;> rfl
    · rfl
    · rfl
  · rfl
  · rfl

theorem receiveBreak_accounts (i : LineId) (s : State) : (receiveBreak i s).accounts = s.accounts := by
  unfold receiveBreak
  split
  · split
    · unfold offerBreak; split <;> rfl
    · unfold offerBreak; split <;> rfl
    · rfl
    · rfl
  · rfl

theorem signOnOver_accounts (i : LineId) (s : State) : (signOnOver i s).accounts = s.accounts := by
  unfold signOnOver
  split
  · exact hangup_accounts i s
  · rfl

theorem scanAll_accounts (ring carrier : BitVec 32) (s : State) : (scanAll ring carrier s).accounts = s.accounts := rfl

theorem restartLineWork_accounts (s : State) : (restartLineWork s).accounts = s.accounts := by
  have hclear : ∀ u : State, (clearTransport u).accounts = u.accounts := fun _ => rfl
  unfold restartLineWork
  extract_lets testing w s1 s2 s3
  have h2 : s2.accounts = s.accounts := (hclear _).trans (lineFrame_forLines lineFrame_restartLine s1).accounts
  have h3 : s3.accounts = s2.accounts := accounts_ite (refuse_accounts .t .restarted s2) rfl
  exact h3.trans h2

/-! ### Commands with table work -/

theorem accountsOrdered_modAccount {s : State} (user : Nat) {f : Account → Account} (hf : ∀ b, (f b).user = b.user)
    (h : s.accountsOrdered) : (s.modAccount user f).accountsOrdered := by
  obtain ⟨hpair, hlen⟩ := h
  refine ⟨List.pairwise_map.mpr (hpair.imp fun {a b} hab => ?_), by rwa [State.modAccount, List.length_map]⟩
  have huser : ∀ c : Account, (if c.user == user then f c else c).user = c.user := fun c => by
    split
    · exact hf c
    · rfl
  rwa [huser, huser]

theorem State.account_none_iff (s : State) (user : Nat) : s.account user = none ↔ ∀ b ∈ s.accounts, b.user ≠ user := by
  simp [State.account]

theorem insertAccount_perm (a : Account) (l : List Account) : (insertAccount a l).Perm (a :: l) := by
  induction l with
  | nil => exact .refl _
  | cons b l ih =>
    unfold insertAccount
    split
    · exact .refl _
    · exact (ih.cons b).trans (.swap a b l)

/-- A record takes its place in the ascending order of a table that has none for its user (R70). -/
theorem insertAccount_pairwise {a : Account} {l : List Account} (hl : l.Pairwise fun x y => x.user < y.user)
    (ha : ∀ b ∈ l, b.user ≠ a.user) : (insertAccount a l).Pairwise fun x y => x.user < y.user := by
  induction l with
  | nil => exact List.pairwise_singleton _ _
  | cons b l ih =>
    obtain ⟨hb, hl⟩ := List.pairwise_cons.mp hl
    obtain ⟨hab, ha⟩ := List.forall_mem_cons.mp ha
    unfold insertAccount
    split
    · next hlt =>
      exact List.pairwise_cons.mpr
        ⟨List.forall_mem_cons.mpr ⟨hlt, fun c hc => Nat.lt_trans hlt (hb c hc)⟩, List.pairwise_cons.mpr ⟨hb, hl⟩⟩
    · next hge =>
      refine List.pairwise_cons.mpr ⟨fun c hc => ?_, ih hl ha⟩
      rcases List.mem_cons.mp ((insertAccount_perm a l).mem_iff.mp hc) with rfl | hc
      · omega
      · exact hb c hc

theorem accountsOrdered_workAccountAdd (p : PortId) (user : Nat) (cls : Fin 4) (check limit : Nat) (balance : Int)
    {s : State} (h : s.accountsOrdered) : (workAccountAdd p user cls check limit balance s).accountsOrdered := by
  have hkeep : ∀ st, (refuse p st s).accountsOrdered := fun st => h.of_accounts (refuse_accounts p st s)
  unfold workAccountAdd
  split
  · exact hkeep _
  · next hnone =>
    split
    · exact hkeep _
    · next hroom =>
      have habsent := (s.account_none_iff user).mp (by simpa using hnone)
      refine State.accountsOrdered.of_accounts ⟨?_, ?_⟩ (completeOk_accounts p _ _)
      · exact insertAccount_pairwise h.1 habsent
      · rw [(insertAccount_perm _ _).length_eq, List.length_cons]
        omega

theorem accountsOrdered_workAccountDelete (p : PortId) (user : Nat) {s : State} (h : s.accountsOrdered) :
    (workAccountDelete p user s).accountsOrdered := by
  have hkeep : ∀ st, (refuse p st s).accountsOrdered := fun st => h.of_accounts (refuse_accounts p st s)
  obtain ⟨hpair, hlen⟩ := h
  unfold workAccountDelete
  split
  · exact hkeep _
  · split
    · exact hkeep _
    · exact State.accountsOrdered.of_accounts ⟨hpair.filter _, Nat.le_trans (List.length_filter_le _ _) hlen⟩
        (completeOk_accounts p _ _)

/-- A command that changes a record of the table, by a change that keeps its user number, and is completed. -/
theorem accountsOrdered_changed (p : PortId) (st : Status) (cl : Bool) (fields : List Word) {s : State} (user : Nat)
    {f : Account → Account} (hf : ∀ b, (f b).user = b.user) (h : s.accountsOrdered) :
    (complete p st cl fields (s.modAccount user f)).accountsOrdered :=
  (accountsOrdered_modAccount user hf h).of_accounts (complete_accounts p st cl fields _)

theorem Account.resumed_user (a : Account) : a.resumed.user = a.user := by
  unfold Account.resumed; split <;> rfl

theorem Account.lockoutEnded_user (a : Account) : a.lockoutEnded.user = a.user := by
  unfold Account.lockoutEnded; split <;> rfl

theorem creditPosting_standings (user u : Nat) (s : State) : (creditPosting user u s).standings = s.standings :=
  modAccount_standings s user fun _ => rfl

theorem accountsOrdered_workSuspend (p : PortId) (user : Nat) (logout : Bool) {s : State} (h : s.accountsOrdered) :
    (workSuspend p user logout s).accountsOrdered := by
  unfold workSuspend
  split
  · exact h.of_accounts (refuse_accounts p _ s)
  · extract_lets s1 r
    have h1 : s1.accountsOrdered := accountsOrdered_modAccount user (fun _ => rfl) h
    have hr : r.1.standings = s1.standings := by
      unfold r
      split
      · exact closeMatching_standings _ _ s1
      · rfl
    exact (h1.of_standings hr).of_accounts (completeOk_accounts p _ _)

theorem workPostCharge_standings (p : PortId) (user units serial : Nat) (s : State) :
    (workPostCharge p user units serial s).standings = s.standings := by
  have hadd : ∀ u : State, (addResource user units serial u).accounts = u.accounts := fun u => accounts_ite rfl rfl
  unfold workPostCharge
  split
  · exact State.standings_congr (refuse_accounts p _ s)
  · extract_lets s1 s2
    have h1 : s1.accounts = s.accounts := hadd _
    have h2 : s2.standings = s.standings := (post_standings _ _ _).trans (State.standings_congr (hadd s))
    split
    · exact State.standings_congr (refuse_accounts p _ s)
    · split
      · split
        · exact State.standings_congr (refuse_accounts p _ s)
        · exact State.standings_congr ((completeOk_accounts p _ s1).trans h1)
      · exact (State.standings_congr (complete_accounts p _ _ _ s2)).trans h2

theorem workLogoff_standings (p : PortId) (i : LineId) (serial : Nat) (s : State) :
    (workLogoff p i serial s).standings = s.standings := by
  unfold workLogoff
  split
  · exact State.standings_congr (refuse_accounts p _ s)
  · extract_lets s1
    have h1 : s1.standings = s.standings := (accountWork_standings post_standings i _).trans
      (State.standings_congr (closeDecision_accounts .logoff s.clock.stamp i s))
    exact (State.standings_congr ((completeOk_accounts p _ _).trans (enterClosing_accounts i s1))).trans h1

theorem completeRestart_accounts (p : PortId) (n : Nat) (s : State) :
    (completeRestart p n s).accounts = s.accounts := by
  have hwatch : ∀ u : State, (startWatchTimer u).accounts = u.accounts := fun u => accounts_ite rfl rfl
  exact (hwatch _).trans (completeOk_accounts p _ s)

theorem workRestart_standings (p : PortId) (s : State) : (workRestart p s).standings = s.standings := by
  unfold workRestart
  extract_lets r
  have hr : r.1.standings = s.standings := (closeMatching_standings _ _ _).trans (serveCloseWork_standings s)
  exact (State.standings_congr ((completeRestart_accounts p _ _).trans (restartLineWork_accounts _))).trans hr

/-- An access of a command unit keeps the order: ACCOUNT ADD by the place of the new record, ACCOUNT DELETE by leaving
the others where they stand, and every other command by leaving each record its user number. -/
theorem accountsOrdered_commandAccess (p : PortId) (c : Instr) {s : State} (h : s.accountsOrdered) :
    (commandAccess p c s).accountsOrdered := by
  have hrefuse : ∀ st, (refuse p st s).accountsOrdered := fun st => h.of_accounts (refuse_accounts p st s)
  unfold commandAccess
  split
  case h_1 =>
    split
    · exact accountsOrdered_workAccountAdd p _ _ _ _ _ h
    · exact hrefuse _
  case h_2 =>
    split
    · unfold workAccountSet
      split
      · exact hrefuse _
      · exact accountsOrdered_changed p _ _ _ _ (fun _ => rfl) h
    · exact hrefuse _
  case h_3 => exact accountsOrdered_workAccountDelete p _ h
  case h_4 =>
    unfold workCredit
    split
    · exact hrefuse _
    · exact (h.of_standings (creditPosting_standings _ _ s)).of_accounts (complete_accounts p _ _ _ _)
  case h_5 =>
    unfold workDebit
    split
    · exact hrefuse _
    · exact (h.of_standings (post_standings _ _ s)).of_accounts (complete_accounts p _ _ _ _)
  case h_6 => exact accountsOrdered_workSuspend p _ _ h
  case h_7 =>
    unfold workResume
    split
    · exact hrefuse _
    · exact accountsOrdered_changed p _ _ _ _ Account.resumed_user h
  case h_8 =>
    unfold workUnlock
    split
    · exact hrefuse _
    · exact accountsOrdered_changed p _ _ _ _ Account.lockoutEnded_user h
  case h_9 =>
    unfold workReadAccount
    split
    · exact hrefuse _
    · exact h.of_accounts (completeOk_accounts p _ s)
  case h_10 =>
    unfold workSweep
    split
    · exact hrefuse _
    · exact h.of_accounts (completeOk_accounts p _ s)
  case h_11 =>
    unfold workClosePeriod
    split
    · refine State.accountsOrdered.of_accounts ⟨?_, ?_⟩ (completeOk_accounts p _ _)
      · exact List.pairwise_map.mpr h.1
      · rw [List.length_map]
        exact h.2
    · exact hrefuse _
  case h_12 =>
    split
    · exact h.of_standings (workLogoff_standings p _ _ s)
    · exact hrefuse _
  case h_13 => exact (h.of_standings (closeMatching_standings _ _ s)).of_accounts (completeOk_accounts p _ _)
  case h_14 => exact h.of_standings (workPostCharge_standings p _ _ _ s)
  case h_15 => exact h.of_standings (workRestart_standings p s)
  case h_16 => exact h

theorem accountsOrdered_serve (p : PortId) {s : State} (h : s.accountsOrdered) : (serve p s).accountsOrdered := by
  unfold serve
  split
  · exact (accountsOrdered_commandAccess p _ (h.of_accounts (granted_accounts _ s))).of_accounts (giveBack_accounts _)
  · exact h.of_accounts (giveBack_accounts s)

theorem accountsOrdered_serveNext (p : PortId) {s : State} (h : s.accountsOrdered) :
    (serveNext p s).accountsOrdered := by
  unfold serveNext
  split
  · exact accountsOrdered_serve p h
  · exact h

theorem accountsOrdered_serveGranted {s : State} (h : s.accountsOrdered) : (serveGranted s).accountsOrdered := by
  unfold serveGranted
  split
  · exact accountsOrdered_serve _ h
  · exact h

/-! ### GO and whole commands -/

/-- The command that a RESTART ends may be in its access, which is then made to its end (R194). -/
theorem accountsOrdered_endOther (q : PortId) {s : State} (h : s.accountsOrdered) : (endOther q s).accountsOrdered := by
  unfold endOther
  split
  · split
    · exact (accountsOrdered_commandAccess q _ h).of_accounts
        ((giveBack_accounts _).trans (refuse_accounts q _ _))
    · exact h.of_accounts (refuse_accounts q _ s)
  · exact h.of_accounts (refuse_accounts q _ s)
  · exact h

theorem restartHold_accounts (s : State) : (restartHold s).accounts = s.accounts := by
  unfold restartHold
  split
  · rfl
  · rfl
  · rfl
  · exact beginRelease_accounts _

theorem askAccess_accounts (p : PortId) (c : Instr) (s : State) : (askAccess p c s).accounts = s.accounts :=
  (arbitrate_accounts _).trans (s.modPort_accounts p _)

theorem accountsOrdered_startCommand (p : PortId) (c : Instr) {s : State} (h : s.accountsOrdered) :
    (startCommand p c s).accountsOrdered := by
  have htaken : ∀ u : State, (taken p u).accounts = u.accounts := fun u => by
    cases p
    · exact takenByWatch_accounts u
    · rfl
  unfold startCommand
  extract_lets s1
  have h1 : s1.accountsOrdered := h.of_accounts ((htaken _).trans (s.modPort_accounts p _))
  split
  · exact h1.of_accounts (refuse_accounts p _ s1)
  · split
    · exact (accountsOrdered_endOther p.other h1).of_accounts
        ((askAccess_accounts p c _).trans (restartHold_accounts _))
    · split
      · split
        · exact h1.of_accounts (askAccess_accounts p c s1)
        · exact h1.of_accounts (refuse_accounts p _ s1)
      · exact h1

theorem accountsOrdered_goAt (p : PortId) {s : State} (h : s.accountsOrdered) : (goAt p s).accountsOrdered := by
  have hport : ∀ f, (s.modPort p f).accountsOrdered := fun f => h.of_accounts (s.modPort_accounts p f)
  unfold goAt
  dsimp only
  split
  · exact h
  · split
    · exact hport _
    · exact hport _
    · exact hport _
    · split
      · exact hport _
      · split
        · exact hport _
        · split
          · exact accountsOrdered_startCommand p _ h
          · exact hport _

theorem dataWriteAt_accounts (p : PortId) (w : Word) (s : State) : (dataWriteAt p w s).accounts = s.accounts := by
  unfold dataWriteAt
  dsimp only
  split
  · rfl
  · split
    · exact s.setPort_accounts p _
    · exact s.setPort_accounts p _
    · split <;> exact s.setPort_accounts p _
    · exact latchCollision_accounts p s

theorem dataReadAt_accounts (p : PortId) (s : State) : (dataReadAt p s).accounts = s.accounts := by
  unfold dataReadAt
  dsimp only
  split <;> exact s.setPort_accounts p _

theorem abortBuildAt_accounts (p : PortId) (s : State) : (abortBuildAt p s).accounts = s.accounts := by
  unfold abortBuildAt
  dsimp only
  split
  · rfl
  · split
    · rfl
    · exact s.setPort_accounts p _
    · exact latchCollision_accounts p s
    · exact s.setPort_accounts p _

theorem rereadAt_accounts (p : PortId) (s : State) : (rereadAt p s).accounts = s.accounts := by
  unfold rereadAt
  dsimp only
  split
  · rfl
  · split
    · rfl
    · rfl
    · exact latchCollision_accounts p s
    · exact s.setPort_accounts p _

theorem accountsOrdered_requestAt (p : PortId) (r : Option ControlRequest) {s : State} (h : s.accountsOrdered) :
    (requestAt p r s).accountsOrdered := by
  unfold requestAt
  split
  · exact accountsOrdered_goAt p h
  · exact h.of_accounts (abortBuildAt_accounts p s)
  · exact h.of_accounts (rereadAt_accounts p s)
  · exact h.of_accounts (accounts_ite rfl (latchCollision_accounts p s))

/-- A command given at a port, by what its work does to the table. -/
theorem accountsOrdered_give (p : PortId) (c : Instr) {work : State → State}
    (hw : ∀ {s : State}, s.accountsOrdered → (work s).accountsOrdered) {s : State} (h : s.accountsOrdered) :
    (give p c work s).accountsOrdered := by
  unfold give
  extract_lets s1
  have hwrite : (writeRecordAt p (encodeRecord c) s).standings = s.standings :=
    (foldl_standings (f := fun s w => dataWriteAt p w s) (fun s w => State.standings_congr (dataWriteAt_accounts p w s))
      _ _).trans (State.standings_congr (abortBuildAt_accounts p s))
  have h1 : s1.accountsOrdered := accountsOrdered_goAt p (h.of_standings hwrite)
  split
  · exact h
  · split
    · split
      · exact hw h
      · exact h.of_accounts (latchCollision_accounts p s)
    · split
      · exact hw h1
      · exact h1

end Sys2Proof.Machine
end

section
/-! PROOFS. The law of the account table (R70, R75): commands with no table work, the verdict, the power events, and the
step that keeps the law. -/

namespace Sys2Proof.Machine

/-! ### Commands with no table work -/

theorem workGroupSet_accounts (p : PortId) (g rc cw sl lc ss rf ie : Word) (s : State) :
    (workGroupSet p g rc cw sl lc ss rf ie s).accounts = s.accounts := by
  unfold workGroupSet
  split
  · exact accounts_ite (completeOk_accounts p _ _) (refuse_accounts p _ s)
  · exact refuse_accounts p _ s

theorem actOnEnables_accounts (before after : State) : (actOnEnables before after).accounts = after.accounts :=
  (callFrame_actOnEnables before after).accounts

theorem workLineEnable_accounts (p : PortId) (line on : Word) (s : State) :
    (workLineEnable p line on s).accounts = s.accounts := by
  unfold workLineEnable
  split
  · exact (completeOk_accounts p _ _).trans (actOnEnables_accounts s _)
  · exact refuse_accounts p _ s

theorem workGroupEnable_accounts (p : PortId) (group on : Word) (s : State) :
    (workGroupEnable p group on s).accounts = s.accounts := by
  unfold workGroupEnable
  split
  · exact (completeOk_accounts p _ _).trans (actOnEnables_accounts s _)
  · exact refuse_accounts p _ s

theorem workClearFault_accounts (p : PortId) (line : Word) (s : State) :
    (workClearFault p line s).accounts = s.accounts := by
  unfold workClearFault
  split
  · exact accounts_ite (completeOk_accounts p _ _) (refuse_accounts p _ s)
  · exact refuse_accounts p _ s

theorem workLineTest_accounts (p : PortId) (line speed : Word) (s : State) :
    (workLineTest p line speed s).accounts = s.accounts := by
  unfold workLineTest
  split
  · next i sp _ _ =>
    extract_lets s1
    have h1 : s1.accounts = s.accounts := (choose_accounts i _).trans (s.modPort_accounts p _)
    exact accounts_ite (accounts_ite ((endTest_accounts i s1).trans h1) h1) (refuse_accounts p _ s)
  · exact refuse_accounts p _ s

theorem workReadLine_accounts (p : PortId) (line : Word) (s : State) :
    (workReadLine p line s).accounts = s.accounts := by
  unfold workReadLine
  split
  · exact completeOk_accounts p _ s
  · exact refuse_accounts p _ s

theorem workTakeInput_accounts (p : PortId) (maximum : Word) (s : State) :
    (workTakeInput p maximum s).accounts = s.accounts := by
  unfold workTakeInput
  extract_lets out s1 s2
  have h2 : s2.accounts = s1.accounts := accounts_ite rfl (arbitrate_accounts _)
  exact accounts_ite ((completeOk_accounts p _ s2).trans h2) (refuse_accounts p _ s)

theorem workSend_accounts (p : PortId) (line serial count : Word) (chars : List Byte) (s : State) :
    (workSend p line serial count chars s).accounts = s.accounts := by
  unfold workSend
  split
  · exact accounts_ite (accounts_ite ((complete_accounts p _ _ _ _).trans (kick_accounts _ _)) (refuse_accounts p _ s))
      (refuse_accounts p _ s)
  · exact refuse_accounts p _ s

theorem workReadSpace_accounts (p : PortId) (s : State) : (workReadSpace p s).accounts = s.accounts :=
  completeOk_accounts p _ _

theorem workWriteMessage_accounts (p : PortId) (slot : Byte) (final : Bool) (offset count : Word) (chars : List Byte)
    (s : State) : (workWriteMessage p slot final offset count chars s).accounts = s.accounts := by
  have haccept : ∀ k text, (acceptMessage p k final text s).accounts = s.accounts := fun k text =>
    accounts_ite (completeOk_accounts p _ _) (completeOk_accounts p _ _)
  unfold workWriteMessage
  split
  · exact accounts_ite (accounts_ite (haccept _ _) (accounts_ite (haccept _ _) (refuse_accounts p _ _)))
      (refuse_accounts p _ s)
  · exact refuse_accounts p _ s

theorem workSetClock_accounts (p : PortId) (v : Calendar) (s : State) : (workSetClock p v s).accounts = s.accounts :=
  accounts_ite (completeOk_accounts p _ _) (refuse_accounts p _ s)

theorem workTariffWrite_accounts (p : PortId) (schedule first final count : Word) (words : List Word) (s : State) :
    (workTariffWrite p schedule first final count words s).accounts = s.accounts := by
  have haccept : ∀ sc fin bands, (acceptBands p sc fin bands s).accounts = s.accounts := fun sc fin bands =>
    accounts_ite (completeOk_accounts p _ _)
      (accounts_ite ((completeOk_accounts p _ _).trans (takeInstall_accounts _ s)) (refuse_accounts p _ _))
  unfold workTariffWrite
  split
  · exact accounts_ite (accounts_ite (haccept _ _ _) (accounts_ite (haccept _ _ _) (refuse_accounts p _ _)))
      (refuse_accounts p _ s)
  · exact refuse_accounts p _ s

theorem workDayMapWrite_accounts (p : PortId) (d1 d2 d3 d4 d5 d6 d7 : Word) (s : State) :
    (workDayMapWrite p d1 d2 d3 d4 d5 d6 d7 s).accounts = s.accounts := by
  unfold workDayMapWrite
  split
  · exact (completeOk_accounts p _ _).trans (takeInstall_accounts _ s)
  · exact refuse_accounts p _ s

theorem workClassWrite_accounts (p : PortId) (cls : Word) (record : Option ClassRec) (s : State) :
    (workClassWrite p cls record s).accounts = s.accounts := by
  unfold workClassWrite
  split
  · exact (completeOk_accounts p _ _).trans (takeInstall_accounts _ s)
  · exact refuse_accounts p _ s

theorem workHoldRequest_accounts (p : PortId) (limit : Word) (s : State) :
    (workHoldRequest p limit s).accounts = s.accounts :=
  accounts_ite (accounts_ite (completeOk_accounts p _ _) (refuse_accounts p _ s)) (refuse_accounts p _ s)

theorem workHoldRelease_accounts (p : PortId) (s : State) : (workHoldRelease p s).accounts = s.accounts :=
  accounts_ite ((completeOk_accounts p _ _).trans (beginRelease_accounts s)) (refuse_accounts p _ s)

theorem workReadSession_accounts (p : PortId) (line : Word) (s : State) :
    (workReadSession p line s).accounts = s.accounts := by
  unfold workReadSession
  split
  · split
    · exact completeOk_accounts p _ s
    · exact refuse_accounts p _ s
  · exact refuse_accounts p _ s

theorem workSetWatch_accounts (p : PortId) (window limit : Word) (s : State) :
    (workSetWatch p window limit s).accounts = s.accounts :=
  accounts_ite (completeOk_accounts p _ _) (refuse_accounts p _ s)

theorem workAdmission_accounts (p : PortId) (vote : Word) (s : State) :
    (workAdmission p vote s).accounts = s.accounts := by
  unfold workAdmission
  split
  · exact (completeOk_accounts p _ _).trans (s.modPort_accounts p _)
  · exact refuse_accounts p _ s

theorem workPeekBilling_accounts (p : PortId) (s : State) : (workPeekBilling p s).accounts = s.accounts := by
  unfold workPeekBilling
  split
  · exact completeOk_accounts p _ s
  · exact complete_accounts p _ _ _ s

theorem workReleaseBilling_accounts (p : PortId) (sequence : Word) (s : State) :
    (workReleaseBilling p sequence s).accounts = s.accounts := by
  unfold workReleaseBilling
  split
  · split
    · exact refuse_accounts p _ s
    · exact accounts_ite (completeOk_accounts p _ _) (complete_accounts p _ _ _ s)
  · exact refuse_accounts p _ s

/-! ### The verdict (R60 to R64) -/

theorem openSessionOn_standings (i : LineId) (part : SignOnPart) (a : Account) (s : State) :
    (openSessionOn i part a s).standings = s.standings := by
  obtain ⟨-, haccounts⟩ := openSessionOn_beside (i := i) (q := part) (a := a) (s := s)
  have hsigned : (s.modAccount a.user (Account.signedOn s.clock.stamp)).standings = s.standings :=
    modAccount_standings s a.user fun _ => rfl
  exact (State.standings_congr haccounts).trans ((post_standings _ _ _).trans hsigned)

theorem judgeActive_standings (i : LineId) (part : SignOnPart) (a : Account) (s : State) :
    (judgeActive i part a s).standings = s.standings := by
  unfold judgeActive
  split
  · exact State.standings_congr (refuseCaller_accounts i _ _)
  · split
    · exact openSessionOn_standings i part a s
    · rfl

theorem accountsOrdered_wrongCheckWord (a : Account) {s : State} (h : s.accountsOrdered) :
    (wrongCheckWord a s).accountsOrdered := by
  unfold wrongCheckWord
  dsimp only
  split
  · split
    · refine State.accountsOrdered.of_accounts ?_ (latchA_accounts .lockout _)
      exact accountsOrdered_modAccount a.user (fun _ => rfl) h
    · exact accountsOrdered_modAccount a.user (fun _ => rfl) h
  · exact h

theorem accountsOrdered_verdictFor (i : LineId) {s : State} (h : s.accountsOrdered) :
    (verdictFor i s).accountsOrdered := by
  unfold verdictFor
  split
  · exact h
  · next part _ =>
    split
    · exact h.of_accounts (badAttempt_accounts i _)
    · next a _ =>
      split
      · exact (accountsOrdered_wrongCheckWord a h).of_accounts (badAttempt_accounts i _)
      · have hrefuse := h.of_accounts (refuseCaller_accounts i 4 (leaveCheckQueue i s))
        split
        · exact h.of_standings (judgeActive_standings i part a s)
        · exact hrefuse
        · split
          · exact (accountsOrdered_modAccount a.user (f := Account.unlocked) (fun _ => rfl) h).of_standings
              (judgeActive_standings i part _ _)
          · exact hrefuse

theorem accountsOrdered_verdictAccess {s : State} (h : s.accountsOrdered) : (verdictAccess s).accountsOrdered := by
  unfold verdictAccess
  split
  · exact h
  · exact accountsOrdered_verdictFor _ h

theorem accountsOrdered_verdictGranted {s : State} (h : s.accountsOrdered) : (verdictGranted s).accountsOrdered := by
  unfold verdictGranted
  split
  · exact (accountsOrdered_verdictAccess (h.of_accounts (granted_accounts .checker s))).of_accounts
      (giveBack_accounts _)
  · exact h

/-! ### Power events -/

theorem sweepLine_standings (i : LineId) (s : State) : (sweepLine i s).standings = s.standings := by
  have hwork : ∀ (x : Session) (u : State), (sweepWork i x u).standings = u.standings := fun x u => by
    unfold sweepWork
    extract_lets s1 up cu s2
    have h1 : s1.standings = u.standings := by
      unfold s1 sweepPost
      split
      · rfl
      · exact debitBalance_standings _ _ u
    have hcu : cu.2.standings = s1.standings := by
      unfold cu
      split
      · exact State.standings_congr (addStated_accounts _ _ _ s1)
      · rfl
    have h2 : s2.standings = cu.2.standings := by
      unfold s2
      split
      · exact debitBalance_standings _ _ cu.2
      · rfl
    exact (lowerOpenCount_standings _ _).trans
      ((State.standings_congr (writeRecord_accounts _ s2)).trans (h2.trans (hcu.trans h1)))
  unfold sweepLine
  split
  · rfl
  · next x _ =>
    extract_lets s1
    have h1 : s1.standings = s.standings := by
      unfold s1
      split
      · exact hwork _ s
      · split
        · exact hwork x s
        · rfl
    have hdue : (sweepSeconds x s1).accounts = s1.accounts := accounts_ite rfl rfl
    exact (lineFrame_modLine _ i _).standings.trans ((State.standings_congr hdue).trans h1)

theorem sweep_standings (s : State) : (sweep s).standings = s.standings := by
  have hdeferred : (sweepDeferred s).standings = s.standings :=
    foldl_standings (f := fun (s : State) (e : Deferred) => debitBalance e.user e.units s)
      (fun s e => debitBalance_standings e.user e.units s) s.deferred s
  have hlines : ((sweepDeferred s).forLines sweepLine).standings = s.standings :=
    (foldl_standings (f := fun s i => sweepLine i s) (fun s i => sweepLine_standings i s) allLines _).trans hdeferred
  unfold sweep
  extract_lets s1
  have h1 : s1.standings = s.standings := (payDueList_standings _).trans hlines
  clear_value s1
  exact h1

theorem accountsOrdered_finishAccess {s : State} (h : s.accountsOrdered) : (finishAccess s).accountsOrdered := by
  unfold finishAccess
  split
  · exact accountsOrdered_verdictAccess h
  · next p _ =>
    cases s.waitingCommand p with
    | none => exact h
    | some c => exact accountsOrdered_commandAccess p c h
  · exact h
  · exact h

theorem accountsOrdered_powerUp {s : State} (h : s.accountsOrdered) : (powerUp s).accountsOrdered := by
  have hend : ∀ u : State, (endSweep u).accounts = u.accounts := fun u =>
    (State.modPort_accounts _ .a _).trans (State.modPort_accounts _ .t _)
  have hreset : ({ operatingReset (finishAccess s) with mainPower := true } : State).accountsOrdered :=
    (accountsOrdered_finishAccess h).of_accounts rfl
  exact (hreset.of_standings (sweep_standings _)).of_accounts (hend _)

/-! ### The step -/

theorem accountsOrdered_next {u t : State} (hu : u.accountsOrdered)
    (ht : (.next u : Host.Outcome State Fault Refusal) = .next t) : t.accountsOrdered := Host.Outcome.next.inj ht ▸ hu

/-- A row whose operation keeps the law, taken by the powered part. -/
theorem accountsOrdered_powered {f : State → State} {s t : State} (hf : s.accountsOrdered → (f s).accountsOrdered)
    (hs : s.accountsOrdered) (ht : (.next (whenPowered s f) : Host.Outcome State Fault Refusal) = .next t) :
    t.accountsOrdered := by
  refine accountsOrdered_next ?_ ht
  unfold whenPowered
  split
  · exact hf hs
  · exact hs

/-- A row beside the account table. -/
theorem accountsOrdered_beside {f : State → State} {s t : State} (hf : (f s).accounts = s.accounts)
    (hs : s.accountsOrdered) (ht : (.next (whenPowered s f) : Host.Outcome State Fault Refusal) = .next t) :
    t.accountsOrdered := accountsOrdered_powered (fun h => h.of_accounts hf) hs ht

/-- A row of the engine, which leaves the records their standings. -/
theorem accountsOrdered_posted {f : State → State} {s t : State} (hf : (f s).standings = s.standings)
    (hs : s.accountsOrdered) (ht : (.next (whenPowered s f) : Host.Outcome State Fault Refusal) = .next t) :
    t.accountsOrdered := accountsOrdered_powered (fun h => h.of_standings hf) hs ht

/-- A command row whose work is beside the account table. -/
theorem accountsOrdered_command {p : PortId} {c : Instr} {work : State → State} {s t : State}
    (hw : ∀ s : State, (work s).accounts = s.accounts) (hs : s.accountsOrdered)
    (ht : (.next (whenPowered s (give p c work)) : Host.Outcome State Fault Refusal) = .next t) : t.accountsOrdered :=
  accountsOrdered_powered (accountsOrdered_give p c fun h => h.of_accounts (hw _)) hs ht

/-- Each row keeps the law. The commands with table work stand last: their port's access keeps it. -/
theorem accountsOrdered_exec {c : Instr} {s t : State} (hs : s.accountsOrdered) (ht : exec c s = .next t) :
    t.accountsOrdered := by
  cases c with
  | dataWrite p w => exact accountsOrdered_beside (dataWriteAt_accounts p w s) hs ht
  | dataRead p => exact accountsOrdered_beside (dataReadAt_accounts p s) hs ht
  | go p => exact accountsOrdered_powered (accountsOrdered_requestAt p _) hs ht
  | abortBuild p => exact accountsOrdered_powered (accountsOrdered_requestAt p _) hs ht
  | reread p => exact accountsOrdered_powered (accountsOrdered_requestAt p _) hs ht
  | controlWriteNoRequest p w =>
    exact accountsOrdered_powered (f := controlWriteAt p w) (accountsOrdered_requestAt p _) hs ht
  | attentionWrite p w =>
    exact accountsOrdered_beside (f := attentionWrite p w)
      ((State.modPort_accounts _ p _).trans (s.modPort_accounts p _)) hs ht
  | maskWrite p w => exact accountsOrdered_beside (f := maskWrite p w) (s.modPort_accounts p _) hs ht
  | groupSet p g rc cw sl lc ss rf ie =>
    exact accountsOrdered_command (workGroupSet_accounts p g rc cw sl lc ss rf ie) hs ht
  | lineEnable p line on => exact accountsOrdered_command (workLineEnable_accounts p line on) hs ht
  | groupEnable p group on => exact accountsOrdered_command (workGroupEnable_accounts p group on) hs ht
  | clearFault p line => exact accountsOrdered_command (workClearFault_accounts p line) hs ht
  | lineTest p line speed => exact accountsOrdered_command (workLineTest_accounts p line speed) hs ht
  | readLine p line => exact accountsOrdered_command (workReadLine_accounts p line) hs ht
  | takeInput p maximum => exact accountsOrdered_command (workTakeInput_accounts p maximum) hs ht
  | send p line serial count chars =>
    exact accountsOrdered_command (workSend_accounts p line serial count chars) hs ht
  | readSpace p => exact accountsOrdered_command (workReadSpace_accounts p) hs ht
  | writeMessage p slot final offset count chars =>
    exact accountsOrdered_command (workWriteMessage_accounts p slot final offset count chars) hs ht
  | setClock p y mo d h mi se wd => exact accountsOrdered_command (workSetClock_accounts p _) hs ht
  | readClock p => exact accountsOrdered_command (fun s => completeOk_accounts p _ s) hs ht
  | tariffWrite p sc fb fi n ws => exact accountsOrdered_command (workTariffWrite_accounts p sc fb fi n ws) hs ht
  | dayMapWrite p d1 d2 d3 d4 d5 d6 d7 =>
    exact accountsOrdered_command (workDayMapWrite_accounts p d1 d2 d3 d4 d5 d6 d7) hs ht
  | classWrite p k su fl wa gr iw il ro fa lo => exact accountsOrdered_command (workClassWrite_accounts p k _) hs ht
  | holdRequest p limit => exact accountsOrdered_command (workHoldRequest_accounts p limit) hs ht
  | holdRelease p => exact accountsOrdered_command (workHoldRelease_accounts p) hs ht
  | holdStatus p => exact accountsOrdered_command (fun s => completeOk_accounts p _ s) hs ht
  | readSession p line => exact accountsOrdered_command (workReadSession_accounts p line) hs ht
  | setWatch p window limit => exact accountsOrdered_command (workSetWatch_accounts p window limit) hs ht
  | watchStatus p => exact accountsOrdered_command (fun s => completeOk_accounts p _ s) hs ht
  | admission p vote => exact accountsOrdered_command (workAdmission_accounts p vote) hs ht
  | peekBilling p => exact accountsOrdered_command (workPeekBilling_accounts p) hs ht
  | releaseBilling p sequence => exact accountsOrdered_command (workReleaseBilling_accounts p sequence) hs ht
  | commandTableAccess => exact accountsOrdered_powered accountsOrdered_serveGranted hs ht
  | qualifiedRing i => exact accountsOrdered_beside (qualifiedRingOn_accounts i s) hs ht
  | ringGapExpiry i => exact accountsOrdered_beside (ringGapOver_accounts i s) hs ht
  | carrierPresent i => exact accountsOrdered_beside (carrierPresentOn_accounts i s) hs ht
  | carrierWaitExpiry i => exact accountsOrdered_beside (phaseOver_accounts _ i s) hs ht
  | carrierLoss i => exact accountsOrdered_beside (carrierLossOn_accounts i s) hs ht
  | speedMeasurement i m => exact accountsOrdered_beside (speedMeasuredOn_accounts i m s) hs ht
  | speedMarkWaitEnd i => exact accountsOrdered_beside (f := markSeen i) rfl hs ht
  | speedWaitExpiry i => exact accountsOrdered_beside (phaseOver_accounts _ i s) hs ht
  | hangupGuardExpiry i => exact accountsOrdered_beside (guardOver_accounts i s) hs ht
  | stuckCarrier i => exact accountsOrdered_beside (stuckCarrierOn_accounts i s) hs ht
  | ringStuck i => exact accountsOrdered_beside (ringStuckOn_accounts i s) hs ht
  | lineTestEnd i => exact accountsOrdered_beside (lineTestEnded_accounts i s) hs ht
  | characterReceived i d stop => exact accountsOrdered_beside (receive_accounts i d (!stop) s) hs ht
  | breakReceived i => exact accountsOrdered_beside (receiveBreak_accounts i s) hs ht
  | characterSent i => exact accountsOrdered_beside (characterEnded_accounts i s) hs ht
  | signOnTimerExpiry i => exact accountsOrdered_beside (signOnOver_accounts i s) hs ht
  | verdict => exact accountsOrdered_powered accountsOrdered_verdictGranted hs ht
  | clockAdvance => exact accountsOrdered_next (hs.of_accounts (clockTick_accounts s)) ht
  | rememberedTickPass => exact accountsOrdered_beside (passOn_accounts s) hs ht
  | meteringPassAccess => exact accountsOrdered_posted (f := fun s => (passStep s).1) (passStep_standings s) hs ht
  | graceTimerExpiry i => exact accountsOrdered_posted (passStepOn_standings i _ s) hs ht
  | idleLimit i => exact accountsOrdered_posted (passStepOn_standings i _ s) hs ht
  | idleWarnThreshold i => exact accountsOrdered_posted (passStepOn_standings i _ s) hs ht
  | closeAccountWork => exact accountsOrdered_posted (closeWorkGranted_standings s) hs ht
  | holdGrant => exact accountsOrdered_beside (holdGrantOn_accounts s) hs ht
  | holdLimitExpiry => exact accountsOrdered_beside (holdLimitOver_accounts s) hs ht
  | releasePosting => exact accountsOrdered_posted (releasePostingOn_standings s) hs ht
  | secondsDueAccess => exact accountsOrdered_posted (secondsDueOn_standings s) hs ht
  | watchTimerExpiry => exact accountsOrdered_beside (watchTimerOver_accounts s) hs ht
  | holdDownExpiry => exact accountsOrdered_beside (holdDownExpired_accounts s) hs ht
  | scan ring carrier => exact accountsOrdered_beside (scanAll_accounts ring carrier s) hs ht
  | mainPowerFailure =>
    have hoff : ({ operatingReset (finishAccess s) with mainPower := false } : State).accountsOrdered :=
      (accountsOrdered_finishAccess hs).of_accounts rfl
    exact accountsOrdered_next hoff ht
  | mainPowerUp => exact accountsOrdered_next (accountsOrdered_powerUp hs) ht
  | reset => exact accountsOrdered_powered accountsOrdered_powerUp hs ht
  | retainedPowerUp => exact accountsOrdered_next ⟨List.Pairwise.nil, Nat.zero_le _⟩ ht
  | _ => exact accountsOrdered_powered (accountsOrdered_give _ _ (accountsOrdered_serveNext _)) hs ht

/-- Settles O55: every row keeps the law, and the step runs the row at the front of its queue. -/
theorem everyStepKeepsTheAccountsOrdered : Obligations.EveryStepKeepsTheAccountsOrdered := by
  intro s t hs ht
  unfold step at ht
  split at ht
  · cases ht; exact hs
  · next c rest _ =>
    have hrest : ({ s with pending := rest } : State).accountsOrdered := hs
    exact accountsOrdered_exec hrest ht

end Sys2Proof.Machine
end

section
/-! PROOFS. The account commands that add, set, delete, resume, unlock and read (R70, R75 to R77, R81 to R85), and the
state
after reset. -/

namespace Sys2Proof.Machine

/-! ### A command row whose access is granted next -/

/-- A command row whose port's access is granted next makes the access and gives the table back. -/
theorem exec_grantedNext {c : Instr} {p : PortId} {s : State}
    (hc : exec c s = .next (whenPowered s (give p c (serveNext p)))) (h : s.grantedNext p c) :
    exec c s = .next (giveBack (commandAccess p c (granted (.unit p) s))) := by
  rw [hc, give_grantedNext h]

@[simp] theorem granted_account (c : Client) (s : State) (user : Nat) :
    (granted c s).account user = s.account user := by
  rw [granted_eq]; rfl

@[simp] theorem granted_line (c : Client) (s : State) (i : LineId) : (granted c s).line i = s.line i := by
  rw [granted_eq]; rfl

@[simp] theorem granted_session (c : Client) (s : State) (i : LineId) : (granted c s).session i = s.session i := by
  rw [granted_eq]; rfl

@[simp] theorem granted_classRec (c : Client) (s : State) (k : Fin 4) : (granted c s).classRec k = s.classRec k := by
  rw [granted_eq]; rfl

@[simp] theorem granted_deferred (c : Client) (s : State) : (granted c s).deferred = s.deferred := by rw [granted_eq]
@[simp] theorem granted_engine (c : Client) (s : State) : (granted c s).engine = s.engine := by rw [granted_eq]
@[simp] theorem granted_hold (c : Client) (s : State) : (granted c s).hold = s.hold := by rw [granted_eq]

theorem State.account_some {s : State} {user : Nat} {a : Account} (h : s.account user = some a) :
    a ∈ s.accounts ∧ a.user = user :=
  ⟨List.mem_of_find?_eq_some h, by simpa using List.find?_some h⟩

/-- A change of the record of a user number, as the statements write it. -/
theorem State.modAccount_eq (s : State) (user : Nat) (f : Account → Account) :
    s.modAccount user f = { s with accounts := s.accounts.map fun a => if a.user = user then f a else a } := by
  simp only [State.modAccount, beq_iff_eq]

/-! ### ACCOUNT ADD, ACCOUNT SET and ACCOUNT DELETE (R75 to R77) -/

/-- Settles O30: the new record takes its place in the order (`insertAccount_perm`, `insertAccount_pairwise`). -/
theorem accountAddInserts : Obligations.AccountAddInserts := by
  intro p u h b k l cls s hnext hcls g new
  rw [exec_grantedNext rfl hnext]
  have hwork : commandAccess p (.accountAdd p u k h l b) g =
      workAccountAdd p u.toNat cls h.toNat l.toNat b.toInt g := by
    simp only [commandAccess, classArg, groupArg_val hcls]
  rw [hwork, workAccountAdd, granted_account, granted_accounts]
  refine ⟨fun hsome => ?_, fun hnone hfull => ?_, fun hnone hroom => ?_⟩
  · rw [if_pos (Option.isSome_iff_ne_none.mpr hsome), refuse]
  · rw [hnone, if_neg (by decide), if_pos (show Config.accountCapacity ≤ _ from hfull), refuse]
  · rw [hnone, if_neg (by decide), if_neg (show ¬ Config.accountCapacity ≤ _ from Nat.not_le.mpr hroom)]
    exact ⟨_, rfl, insertAccount_perm _ _, fun hpair =>
      insertAccount_pairwise hpair ((s.account_none_iff u.toNat).mp hnone)⟩

/-- An account is used where its open count, a session part or a deferred entry names it (R77). -/
theorem State.accountUsed_iff (s : State) (a : Account) :
    s.accountUsed a = true ↔ 0 < a.openCount ∨ (∃ (i : LineId) (x : Session), s.session i = some x ∧ x.user = a.user) ∨
      ∃ e ∈ s.deferred, e.user = a.user := by
  simp [State.accountUsed, Option.any_eq_true, or_assoc]

/-- Settles O31: the row by whether the account is there, and the deletion by whether it is still named. -/
theorem accountSetAndDelete : Obligations.AccountSetAndDelete := by
  refine ⟨?_, ?_⟩
  · intro p u h k l cls s hnext hcls g
    rw [exec_grantedNext rfl hnext]
    have hwork : commandAccess p (.accountSet p u k h l) g = workAccountSet p u.toNat cls h.toNat l.toNat g := by
      simp only [commandAccess, classArg, groupArg_val hcls]
    rw [hwork, workAccountSet, granted_account]
    refine ⟨fun hnone => ?_, fun hsome => ?_⟩
    · rw [hnone]; rfl
    · obtain ⟨a, ha⟩ := Option.ne_none_iff_exists'.mp hsome
      rw [ha, State.modAccount_eq, granted_accounts]; rfl
  · intro p u s hnext g
    rw [exec_grantedNext rfl hnext]
    have hwork : commandAccess p (.accountDelete p u) g = workAccountDelete p u.toNat g := rfl
    rw [hwork, workAccountDelete, granted_account]
    refine ⟨fun hnone => ?_, fun a ha => ?_⟩
    · rw [hnone]; rfl
    · have hused := g.accountUsed_iff a
      obtain ⟨-, huser⟩ := State.account_some ha
      simp only [g, granted_session, granted_deferred, huser] at hused
      rw [ha]
      refine ⟨fun h => ?_, fun h => ?_⟩
      · simp only [g, hused.mpr h, if_true, refuse]
      · simp only [g, mt hused.mp h, completeOk, discardDue, granted_engine, granted_accounts]
        simp only [ne_eq, decide_not, bne]
        rfl

/-! ### RESUME and UNLOCK (R81, R82) -/

/-- Settles O35: the change of the record by its state, and the state that the response gives. -/
theorem resumeAndUnlockAnswerTheState : Obligations.ResumeAndUnlockAnswerTheState := by
  refine ⟨?_, ?_⟩ <;> intro p u s hnext g <;> rw [exec_grantedNext rfl hnext]
  · rw [show commandAccess p (.resume p u) g = workResume p u.toNat g from rfl, workResume, granted_account]
    refine ⟨fun hnone => by rw [hnone]; rfl, fun a ha => ?_⟩
    have hstate : a.resumed.state = if a.state = .lockedOut then .lockedOut else .active := by
      cases h : a.state <;> simp [Account.resumed, h]
    have hrecord : ∀ b : Account, b.resumed =
        if b.state = .suspended then { b with state := .active, failCount := 0 } else b :=
      fun b => by cases h : b.state <;> simp [Account.resumed, h]
    rw [ha]
    dsimp only
    rw [hstate, State.modAccount_eq, granted_accounts]
    simp only [hrecord, ite_and, completeOk]
  · rw [show commandAccess p (.unlock p u) g = workUnlock p u.toNat g from rfl, workUnlock, granted_account]
    refine ⟨fun hnone => by rw [hnone]; rfl, fun a ha => ?_⟩
    have hstate : a.lockoutEnded.state = if a.state = .suspended then .suspended else .active := by
      cases h : a.state <;> simp [Account.lockoutEnded, h]
    have hrecord : ∀ b : Account, b.lockoutEnded =
        if b.state = .lockedOut then { b with state := .active, failCount := 0, lockedUntil := none }
        else if b.state = .active then { b with failCount := 0 } else b :=
      fun b => by cases h : b.state <;> simp [Account.lockoutEnded, h]
    rw [ha]
    dsimp only
    rw [hstate, State.modAccount_eq, granted_accounts]
    simp only [hrecord, completeOk]

/-! ### READ ACCOUNT, SWEEP and CLOSE PERIOD (R83 to R85) -/

/-- The words of a record, with the bits of its two stamps as the statement writes them. -/
theorem accountWords_eq (a : Account) (check : Nat) :
    accountWords a check =
      w32 a.user ++
      [w16 (a.cls.val + a.state.code * 16 + (if a.lockedUntil = none then 0 else 256) +
          (if a.lastSignOn = none then 0 else 512)),
        w16 (a.failCount + a.limit * 256 + a.openCount * 4096)] ++
      w32 check ++ wBalance a.balance ++ wStampOption a.lockedUntil ++ w32 a.periodSeconds ++ w32 a.periodUnits ++
      wStampOption a.lastSignOn := by
  have hbit : ∀ (o : Option Stamp) (n : Nat), wBit o.isSome n = if o = none then 0 else 2 ^ n := fun o n => by
    cases o <;> simp [wBit]
  simp only [accountWords, hbit]
  rfl

theorem shownCheck_eq (p : PortId) (a : Account) : shownCheck p a = if p = .t then 0 else a.check := by
  cases p <;> rfl

/-- In an ascending table the first record above a number is the least above it. -/
theorem find?_above_eq {l : List Account} {a : Account} {n : Nat} (hl : l.Pairwise fun x y => x.user < y.user)
    (ha : a ∈ l) (hn : n < a.user) (hleast : ∀ b ∈ l, n < b.user → a.user ≤ b.user) :
    (l.find? fun b => decide (n < b.user)) = some a := by
  induction l with
  | nil => contradiction
  | cons b l ih =>
    obtain ⟨hb, hl⟩ := List.pairwise_cons.mp hl
    by_cases hnb : n < b.user
    · rw [List.find?_cons_of_pos (by simpa using hnb)]
      rcases List.mem_cons.mp ha with rfl | ha
      · rfl
      · have := hb a ha
        have := hleast b List.mem_cons_self hnb
        omega
    · rw [List.find?_cons_of_neg (by simpa using hnb)]
      have hne : a ≠ b := fun e => hnb (e ▸ hn)
      exact ih hl ((List.mem_cons.mp ha).resolve_left hne) fun c hc => hleast c (List.mem_cons_of_mem b hc)

/-- Settles O37: each row is its completion with the record's words, and CLOSE PERIOD by the state of the hold. -/
theorem recordsAreReadAndPeriodsClosed : Obligations.RecordsAreReadAndPeriodsClosed := by
  intro p u s g
  refine ⟨fun hnext => ?_, fun hnext => ?_, fun hnext => ?_⟩ <;> rw [exec_grantedNext rfl hnext]
  · rw [show commandAccess p (.readAccount p u) g = workReadAccount p u.toNat g from rfl, workReadAccount,
      granted_account]
    refine ⟨fun hnone => by rw [hnone]; rfl, fun a ha => ?_⟩
    simp only [ha, accountWords_eq, shownCheck_eq, completeOk]
  · rw [show commandAccess p (.sweep p u) g = workSweep p u.toNat g from rfl, workSweep, granted_accounts]
    refine ⟨fun hnone => ?_, fun hpair a ha hu hleast => ?_⟩
    · rw [List.find?_eq_none.mpr fun b hb => by simpa using hnone b hb]; rfl
    · simp only [find?_above_eq hpair ha hu hleast, accountWords_eq, completeOk]
  · rw [show commandAccess p (.closePeriod p) g = workClosePeriod p g from rfl, workClosePeriod, granted_hold,
      granted_accounts]
    refine ⟨fun h => by rw [if_pos h]; rfl, fun h => by rw [if_neg h]; rfl⟩

/-! ### The state after reset -/

theorem reset_line (i : LineId) : State.reset.line i = LineRec.initial := Bank.get_replicate 32 _ i

theorem reset_session (i : LineId) : State.reset.session i = none := by rw [State.session, reset_line]; rfl

theorem reset_countP (f : LineRec → Bool) (h : f LineRec.initial = false) :
    allLines.countP (fun i => f (State.reset.line i)) = 0 := by
  simp [reset_line, h]

/-- Settles O54: every line is in its initial record, with no part, and every table and queue is empty. -/
theorem resetMeetsTheLaws : Obligations.ResetMeetsTheLaws := by
  have hnone : ∀ (i : LineId) (x : Session), State.reset.session i ≠ some x := fun i x => by simp [reset_session]
  refine ⟨⟨List.Pairwise.nil, by decide⟩, ⟨nofun, ?_, ?_, ?_⟩, State.inputLaw_of_empty rfl, ⟨fun _ => ⟨?_, rfl⟩, nofun⟩,
    ⟨trivial, by decide, by decide⟩, ⟨?_, ?_, by decide, by decide⟩, ?_, ⟨?_, nofun⟩, ⟨?_, by decide, ?_, ?_, nofun⟩⟩
  · exact fun i x hx => absurd hx (hnone i x)
  · exact fun _ i x hx => absurd hx (hnone i x)
  · intro p hp
    cases p <;> exact absurd hp (by decide)
  · simp only [State.setAside, reset_session, Option.any_none]
    decide
  · exact fun i j x y _ hx => absurd hx (hnone i x)
  · exact fun i x hx => absurd hx (hnone i x)
  · intro _ i
    rw [reset_line]
    exact LineRec.initial_shaped
  · intro i hi
    rw [reset_line] at hi
    simp [LineRec.initial] at hi
  · exact (reset_countP LineRec.reserved rfl).symm
  · intro i hi
    rw [reset_line] at hi
    contradiction
  · intro _ i hi
    rw [reset_line] at hi
    contradiction

end Sys2Proof.Machine
end

section
/-! PROOFS. CREDIT (R78, R90): the credit posting and the sessions that it relieves. -/

namespace Sys2Proof.Machine

/-! ### The credit posting (R90) -/

/-- Exhaustion of a session of a user whose account stands in the table (R87). -/
theorem State.exhausted_eq {s : State} {x : Session} {a : Account} (ha : s.account x.user = some a) :
    s.exhausted x = decide (a.balance ≤ -((s.classRec x.cls).floor : Int)) := by
  rw [State.exhausted, ha]; rfl

theorem State.account_mapSessions (s : State) (f : LineId → Session → Session) (user : Nat) :
    (s.mapSessions f).account user = s.account user := rfl

theorem State.balanceWords_eq {s : State} {user : Nat} {a : Account} (h : s.account user = some a) :
    s.balanceWords user = wBalance a.balance := by rw [State.balanceWords, h]; rfl

section
variable {s : State} {user u : Nat} {a : Account}

/-- The account after a credit posting. -/
theorem creditPosting_account (ha : s.account user = some a) :
    (creditPosting user u s).account user = some { a with balance := credited a.balance u } :=
  (State.account_mapSessions _ _ user).trans
    (State.account_modAccount (f := fun b => { b with balance := credited b.balance u }) ha fun _ => rfl)

/-- A session of the user after the credit posting, by its floor against the balance as posted (R90). -/
theorem State.relieve_credited (ha : s.account user = some a) {x : Session} (hx : x.user = user) :
    (s.modAccount user fun b => { b with balance := credited b.balance u }).relieve x =
      if -((s.classRec x.cls).floor : Int) < credited a.balance u then
        if x.state = .grace then { x with state := .metered, grace := none }
        else if x.state = .held ∧ x.heldFrom = some .grace then { x with heldFrom := some .metered, grace := none }
        else x
      else x := by
  let v := s.modAccount user fun b => { b with balance := credited b.balance u }
  have hv : v.account x.user = some { a with balance := credited a.balance u } := by
    rw [hx]
    exact State.account_modAccount (f := fun b => { b with balance := credited b.balance u }) ha fun _ => rfl
  have hexhausted : v.exhausted x = decide (credited a.balance u ≤ -((s.classRec x.cls).floor : Int)) :=
    State.exhausted_eq hv
  show v.relieve x = _
  by_cases hle : credited a.balance u ≤ -((s.classRec x.cls).floor : Int)
  · rw [State.relieve, hexhausted, if_pos (by simpa using hle), if_neg (Int.not_lt.mpr hle)]
  · rw [State.relieve, hexhausted, if_neg (by simpa using hle), if_pos (Int.not_le.mp hle)]
    simp only [Bool.and_eq_true, beq_iff_eq]

theorem creditPosting_line (i : LineId) :
    (creditPosting user u s).line i = { s.line i with
      session := (s.session i).map fun x =>
        if x.user = user then (s.modAccount user fun b => { b with balance := credited b.balance u }).relieve x
        else x } := by
  simp only [creditPosting, State.mapSessions, State.line_mapLines, State.modAccount_line, beq_iff_eq, State.session]

end

/-- Settles O32: the posting raises the account's balance and relieves the sessions of its user. -/
theorem creditRaisesAndRelieves : Obligations.CreditRaisesAndRelieves := by
  intro p u n s hnext g
  rw [exec_grantedNext rfl hnext, show commandAccess p (.credit p u n) g = workCredit p u.toNat n.toNat g from rfl,
    workCredit, granted_account]
  refine ⟨fun hnone => by rw [hnone]; rfl, ?_⟩
  intro a ha balance
  have hg : g.account u.toNat = some a := (granted_account _ s _).trans ha
  rw [ha]
  dsimp only
  rw [State.balanceWords_eq (creditPosting_account hg)]
  refine ⟨creditPosting u.toNat n.toNat g, rfl, ?_, fun i => ?_, rfl⟩
  · rw [← granted_accounts (.unit p) s]
    exact congrArg State.accounts (g.modAccount_eq u.toNat _)
  · rw [creditPosting_line, granted_line, granted_session]
    refine congrArg (fun o => { s.line i with session := o }) (Option.map_congr fun x _ => ?_)
    by_cases hx : x.user = u.toNat
    · rw [if_pos hx, State.relieve_credited hg hx, granted_classRec]
      simp only [hx, true_and]
      rfl
    · simp only [hx, false_and, if_false]

end Sys2Proof.Machine
end

section
/-! PROOFS. DEBIT (R79) where no grace is 0: the exhaustion check (R87) and the funds warning (R89), line by line. -/

namespace Sys2Proof.Machine

/-! ### The funds warning on one line in SESSION (R43, R89, log entry 7) -/

/-- A line in SESSION before the funds warning and after it: the session's mark is set, FUNDS_WARN joins the message
list of a busy transmitter, and an idle one with nothing else to send begins its text. -/
structure LineRec.warnedTo (text : List Byte) (l m : LineRec) : Prop where
  state : m.state = l.state
  session : ∃ sent : Bool,
    m.session = l.session.map fun x => { x with activity := x.activity || sent, fundsWarned := true }
  busy : l.txChar ≠ none → m = { l with
    session := m.session, messages := if 9 ∈ l.messages then l.messages else l.messages ++ [9] }
  idle : l.txChar = none → l.txItem = none → l.messages = [] → l.buffer = [] → m = { l with
    session := m.session, txChar := text.head?, txItem := if text = [] then none else some (.slot 9, 1) }

/-- The line's record with the mark of R89 set and FUNDS_WARN asked for. -/
def LineRec.marked (l : LineRec) : LineRec :=
  { l.request 9 with session := l.session.map fun x => { x with fundsWarned := true } }

theorem LineRec.marked_eq (l : LineRec) : l.marked = { l with
    session := l.session.map fun x => { x with fundsWarned := true }
    messages := if 9 ∈ l.messages then l.messages else l.messages ++ [9] } := by
  unfold LineRec.marked LineRec.request
  by_cases h : 9 ∈ l.messages <;> simp [h]

@[simp] theorem LineRec.marked_txChar (l : LineRec) : l.marked.txChar = l.txChar := by rw [LineRec.marked_eq]
@[simp] theorem LineRec.marked_txItem (l : LineRec) : l.marked.txItem = l.txItem := by rw [LineRec.marked_eq]
@[simp] theorem LineRec.marked_state (l : LineRec) : l.marked.state = l.state := by rw [LineRec.marked_eq]
@[simp] theorem LineRec.marked_buffer (l : LineRec) : l.marked.buffer = l.buffer := by rw [LineRec.marked_eq]
@[simp] theorem LineRec.marked_session (l : LineRec) :
    l.marked.session = l.session.map fun x => { x with fundsWarned := true } := rfl

theorem LineRec.marked_messages {l : LineRec} (h : l.messages = []) : l.marked.messages = [9] := by
  rw [LineRec.marked_eq, h]; rfl

/-- A list of messages with nothing to send, and an empty buffer: the transmitter is left idle (R43). -/
theorem chooseSession_drained {i : LineId} {s : State} (h : s.continued (s.line i) = none)
    (hm : s.nextMessage (s.line i).messages = none) (hb : (s.line i).buffer = []) :
    chooseSession i s = s.setLine i { (s.line i).sending none none with messages := [] } := by
  simp only [chooseSession, h, hm, hb, State.modLine_eq]

/-- Nothing to send but FUNDS_WARN: its text begins, and an empty slot sends nothing (R40, R43). -/
theorem chooseSession_marked {i : LineId} {s : State} {l : LineRec} (hitem : l.txItem = none)
    (hmessages : l.messages = []) (hbuffer : l.buffer = []) :
    chooseSession i (s.setLine i l.marked) = s.setLine i { l with
      session := l.marked.session, txChar := (s.slots.get 9).head?
      txItem := if s.slots.get 9 = [] then none else some (.slot 9, 1) } := by
  let v := s.setLine i l.marked
  have hline : v.line i = l.marked := s.line_setLine i _
  have hcont : v.continued (v.line i) = none := by
    rw [hline, State.continued, LineRec.marked_txItem, hitem]
  have hlist : (v.line i).messages = [9] := by rw [hline, LineRec.marked_messages hmessages]
  cases hslot : s.slots.get 9 with
  | nil =>
    have hchar : v.itemChar (.slot 9) 0 = none := State.itemChar_emptySlot (k := 9) hslot
    have hnext : v.nextMessage [9] = none := by simp only [State.nextMessage, hchar]
    rw [chooseSession_drained hcont (by rw [hlist, hnext]) (by rw [hline, LineRec.marked_buffer, hbuffer]), hline,
      State.setLine_setLine, LineRec.marked_eq, ← hmessages]
    rfl
  | cons c text =>
    rw [chooseSession_message (k := 9) hcont hlist hslot, hline, State.setLine_setLine, LineRec.marked_eq, ← hmessages]
    rfl

/-- A choice in SESSION changes one line, which stays in SESSION, and the latches of the T port; of the session it sets
the activity mark at most (R38, R43, R44). -/
theorem chooseSession_changes (i : LineId) (s : State) : ∃ m u, chooseSession i s = s.setLineAndT i m u ∧
    m.state = (s.line i).state ∧ ∃ sent, m.session = (s.line i).session.map fun x => x.sentTo sent := by
  have hsame : ∀ l : LineRec, l.state = (s.line i).state → l.session = (s.line i).session →
      ∃ m u, s.setLine i l = s.setLineAndT i m u ∧
        m.state = (s.line i).state ∧ ∃ sent, m.session = (s.line i).session.map fun x => x.sentTo sent :=
    fun l hstate hsession => ⟨l, s.tPort, rfl, hstate, false, by rw [hsession, Session.map_sentTo_false]⟩
  unfold chooseSession
  split
  · exact hsame _ rfl rfl
  · split
    · exact hsame _ rfl rfl
    · split
      · exact ⟨_, _, takeBuffered_eq i _ _ s, rfl, _, rfl⟩
      · exact hsame _ rfl rfl

/-- The funds warning for one line falls due (R89). -/
def State.warnDue (s : State) (user : Nat) (i : LineId) : Bool :=
  (s.openSession i).any fun x => x.user == user && !x.fundsWarned &&
    (s.account user).any fun a => decide (a.balance ≤ ((s.classRec x.cls).warn : Int))

theorem warnLine_eq (user : Nat) (i : LineId) (s : State) :
    warnLine [] user i s = if s.warnDue user i then kick i (s.setLine i (s.line i).marked) else s := by
  have hmarked : requestMessage i 9 (s.modSession i fun x => { x with fundsWarned := true }) =
      kick i (s.setLine i (s.line i).marked) := by
    rw [requestMessage, State.modSession, State.modLine_eq, State.modLine_eq, State.line_setLine, State.setLine_setLine]
    unfold LineRec.marked LineRec.request
    split <;> rfl
  unfold warnLine State.warnDue
  cases s.openSession i with
  | none => rfl
  | some x => simp only [List.contains_nil, Bool.not_false, Bool.true_and, Option.any_some, hmarked]

/-- The funds warning on a line in SESSION changes that line, and the latches of the T port at most. -/
theorem kick_marked {i : LineId} {s : State} (hs : (s.line i).state = .session) :
    ∃ m u, kick i (s.setLine i (s.line i).marked) = s.setLineAndT i m u ∧ (s.line i).warnedTo (s.slots.get 9) m := by
  let v := s.setLine i (s.line i).marked
  have hline : v.line i = (s.line i).marked := s.line_setLine i _
  by_cases hc : (s.line i).txChar = none
  · have hkick : kick i v = chooseSession i v := by
      rw [kick_idle (by rw [hline, LineRec.marked_txChar, hc]),
        choose_session (by rw [hline, LineRec.marked_state, hs])]
    obtain ⟨m, u, hm, hstate, sent, hsession⟩ := chooseSession_changes i v
    rw [hline] at hstate hsession
    have hset : chooseSession i v = s.setLineAndT i m u := by
      rw [hm, State.setLineAndT, State.setLineAndT, s.setLine_setLine]
    have hmline : (chooseSession i v).line i = m := by
      rw [hset]
      exact s.line_setLine i m
    refine ⟨m, u, hkick.trans hset, by rw [hstate, LineRec.marked_state], ⟨sent, ?_⟩, fun h => absurd hc h,
      fun _ hitem hmessages hbuffer => ?_⟩
    · rw [hsession, LineRec.marked_session, Option.map_map]
      rfl
    · rw [← hmline, chooseSession_marked hitem hmessages hbuffer, State.line_setLine]
  · refine ⟨(s.line i).marked, s.tPort, kick_busy (by rw [hline, LineRec.marked_txChar]; exact hc),
      LineRec.marked_state _, ⟨false, by simp⟩, fun _ => LineRec.marked_eq _, fun h => absurd h hc⟩

/-! ### The funds warning over all lines (R89) -/

/-- Changes to the lines and to the T port alone. -/
def State.sendFrame (s t : State) : Prop := t = { s with lines := t.lines, tPort := t.tPort }

theorem State.sendFrame.refl (s : State) : s.sendFrame s := rfl

theorem State.sendFrame.trans {s t u : State} (h : s.sendFrame t) (k : t.sendFrame u) : s.sendFrame u := by
  unfold State.sendFrame at *; rw [k, h]

/-- Every open session stands on a line in SESSION (Table 1-1). -/
def State.openInSession (s : State) : Prop :=
  ∀ (i : LineId) (x : Session), s.openSession i = some x → (s.line i).state = .session

/-- What the funds warning makes of line i. -/
def State.warns (s t : State) (user : Nat) (i : LineId) : Prop :=
  if s.warnDue user i then (s.line i).warnedTo (s.slots.get 9) (t.line i) else t.line i = s.line i

theorem State.warnDue_openSession {s : State} {user : Nat} {i : LineId} (h : s.warnDue user i = true) :
    ∃ x, s.openSession i = some x := by
  obtain ⟨x, hx, -⟩ := (Option.any_eq_true _ _).mp h
  exact ⟨x, hx⟩

/-- One line's part of the funds warning. -/
theorem warnLine_warns {s : State} (h : s.openInSession) (user : Nat) (i : LineId) :
    s.sendFrame (warnLine [] user i s) ∧ s.warns (warnLine [] user i s) user i ∧
      s.sameLinesBut (warnLine [] user i s) i := by
  rw [warnLine_eq]
  by_cases hdue : s.warnDue user i = true
  · obtain ⟨x, hx⟩ := State.warnDue_openSession hdue
    obtain ⟨m, u, hkick, hm⟩ := kick_marked (h i x hx)
    rw [if_pos hdue, hkick]
    refine ⟨rfl, ?_, s.sameLinesBut_setLine i m⟩
    rw [State.warns, if_pos hdue, show (s.setLineAndT i m u).line i = m from s.line_setLine i m]
    exact hm
  · rw [if_neg hdue]
    exact ⟨.refl s, by rw [State.warns, if_neg hdue], fun _ _ => rfl⟩

theorem LineRec.warnedTo.openSession {text : List Byte} {l m : LineRec} (h : l.warnedTo text m) {y : Session}
    (hy : m.session = some y) : ∃ x, l.session = some x ∧ y.state = x.state := by
  obtain ⟨sent, hsession⟩ := h.session
  rw [hsession, Option.map_eq_some_iff] at hy
  obtain ⟨x, hx, rfl⟩ := hy
  exact ⟨x, hx, rfl⟩

/-- What the funds warning has done with one line does not reach another. -/
theorem State.warns.openInSession {s t : State} {user : Nat} {i : LineId} (h : s.openInSession)
    (hi : s.warns t user i) (hothers : s.sameLinesBut t i) : t.openInSession := by
  intro j y hy
  obtain ⟨hsession, hopen⟩ := (t.openSession_iff j y).mp hy
  by_cases hj : j = i
  · subst hj
    unfold State.warns at hi
    split at hi
    · obtain ⟨x, hx, hstate⟩ := hi.openSession hsession
      rw [hi.state]
      exact h j x ((s.openSession_iff j x).mpr ⟨hx, hstate ▸ hopen⟩)
    · rw [hi] at hsession ⊢
      exact h j y ((s.openSession_iff j y).mpr ⟨hsession, hopen⟩)
  · rw [hothers j hj] at hsession ⊢
    exact h j y ((s.openSession_iff j y).mpr ⟨hsession, hopen⟩)

/-- What line j is warned by rests on that line and on what sending leaves. -/
theorem State.warns_congr {s v t : State} {user : Nat} {j : LineId} (hframe : s.sendFrame v)
    (hline : v.line j = s.line j) :
    v.warns t user j ↔ s.warns t user j := by
  have hdue : v.warnDue user j = s.warnDue user j := by
    have hopen : v.openSession j = s.openSession j := by
      rw [State.openSession, State.session, hline]; rfl
    unfold State.sendFrame at hframe
    rw [State.warnDue, hopen, hframe]
    rfl
  have hslots : v.slots = s.slots := by
    unfold State.sendFrame at hframe
    rw [hframe]
  rw [State.warns, State.warns, hdue, hline, hslots]

theorem fold_warnLine_warns (user : Nat) (is : List LineId) (hnodup : is.Nodup) (s : State) (h : s.openInSession) :
    let t := is.foldl (fun s i => warnLine [] user i s) s
    s.sendFrame t ∧ (∀ i ∈ is, s.warns t user i) ∧ ∀ i ∉ is, t.line i = s.line i := by
  induction is generalizing s with
  | nil => exact ⟨.refl s, fun i hi => absurd hi List.not_mem_nil, fun _ _ => rfl⟩
  | cons i rest ih =>
    obtain ⟨hi, hrest⟩ := List.nodup_cons.mp hnodup
    obtain ⟨hframe, hwarns, hothers⟩ := warnLine_warns h user i
    obtain ⟨hframe', hwarns', hothers'⟩ := ih hrest (warnLine [] user i s) (hwarns.openInSession h hothers)
    refine ⟨hframe.trans hframe', fun j hj => ?_, fun j hj => ?_⟩
    · rcases List.mem_cons.mp hj with rfl | hj
      · unfold State.warns at hwarns ⊢
        rw [List.foldl_cons, hothers' j hi]
        exact hwarns
      · exact (State.warns_congr hframe (hothers j fun e => hi (e ▸ hj))).mp (hwarns' j hj)
    · rw [List.mem_cons, not_or] at hj
      exact (hothers' j hj.2).trans (hothers j hj.1)

/-- The funds warning, on every line (R89). -/
theorem fundsWarning_warns {s : State} (h : s.openInSession) (user : Nat) :
    s.sendFrame (fundsWarning [] user s) ∧ ∀ i, s.warns (fundsWarning [] user s) user i := by
  obtain ⟨hframe, hwarns, -⟩ := fold_warnLine_warns user allLines allLines_nodup s h
  exact ⟨hframe, fun i => hwarns i (mem_allLines i)⟩

/-! ### The exhaustion check (R87) -/

/-- A session after the exhaustion check (R87). -/
def State.judged (s : State) (user : Nat) (x : Session) : Session :=
  if x.state = .metered ∧ x.user = user ∧ s.exhausted x = true then s.enterGrace x else x

theorem exhaust_line (user : Nat) (s : State) (i : LineId) :
    (exhaust user s).line i = { s.line i with session := (s.session i).map (s.judged user) } := by
  rw [exhaust, State.mapSessions, State.line_mapLines]
  refine congrArg (fun o => { s.line i with session := o }) (Option.map_congr fun x hx => ?_)
  have hx : s.session i = some x := hx
  simp [State.judged, State.exhaustedLines, List.mem_filter, mem_allLines, hx, and_assoc]

/-- A posting that moves no session to a grace of 0 (R86 to R89). -/
theorem post_graceful {s : State} {user u : Nat} (hu : u ≠ 0)
    (h : (debitBalance user u s).zeroGraceLines user = []) :
    post user u s = fundsWarning [] user (exhaust user (debitBalance user u s)) := by
  rw [post, postLevels, if_neg hu]
  simp only [h, List.foldl_nil]

end Sys2Proof.Machine
end

section
/-! PROOFS. DEBIT (R79) where no grace is 0, assembled: the posting, the exhaustion check and the funds warning. -/

namespace Sys2Proof.Machine

@[simp] theorem granted_slots (c : Client) (s : State) : (granted c s).slots = s.slots := by rw [granted_eq]
@[simp] theorem granted_billing (c : Client) (s : State) : (granted c s).billing = s.billing := by rw [granted_eq]
@[simp] theorem granted_input (c : Client) (s : State) : (granted c s).input = s.input := by rw [granted_eq]

theorem State.sendFrame.beside {s t : State} (h : s.sendFrame t) :
    t.accounts = s.accounts ∧ t.billing = s.billing ∧ t.input = s.input ∧ t.deferred = s.deferred := by
  unfold State.sendFrame at h
  rw [h]
  exact ⟨rfl, rfl, rfl, rfl⟩

section
variable {s : State} {user u : Nat} {a : Account}

theorem debitBalance_account (u : Nat) (ha : s.account user = some a) :
    (debitBalance user u s).account user =
      some { a with balance := debited a.balance u, periodUnits := addHold32 a.periodUnits u } :=
  State.account_modAccount (f := fun b =>
    { b with balance := debited b.balance u, periodUnits := addHold32 b.periodUnits u }) ha fun _ => rfl

/-- A session after the exhaustion check of a debit posting, by its floor against the balance as posted (R87). -/
theorem State.judged_debited (ha : s.account user = some a) (x : Session) :
    (debitBalance user u s).judged user x =
      if x.state = .metered ∧ x.user = user ∧ debited a.balance u ≤ -((s.classRec x.cls).floor : Int) then
        { x with state := .grace, grace := some (s.classRec x.cls).grace }
      else x := by
  by_cases hx : x.user = user
  · have hexhausted : (debitBalance user u s).exhausted x =
        decide (debited a.balance u ≤ -((s.classRec x.cls).floor : Int)) :=
      State.exhausted_eq (by rw [hx]; exact debitBalance_account u ha)
    simp only [State.judged, hexhausted, decide_eq_true_iff]
    rfl
  · rw [State.judged, if_neg fun h => hx h.2.1, if_neg fun h => hx h.2.1]

/-- No session that the posting exhausts has a grace of 0. -/
theorem zeroGraceLines_debited (ha : s.account user = some a)
    (h : ∀ (i : LineId) (x : Session), s.session i = some x → x.state = .metered ∧ x.user = user ∧
      debited a.balance u ≤ -((s.classRec x.cls).floor : Int) → 0 < (s.classRec x.cls).grace) :
    (debitBalance user u s).zeroGraceLines user = [] := by
  refine List.filter_eq_nil_iff.mpr fun i hi hzero => ?_
  obtain ⟨x, hx, hgrace⟩ := (Option.any_eq_true _ _).mp hzero
  obtain ⟨y, hy, hjudged⟩ := (Option.any_eq_true _ _).mp (List.mem_filter.mp hi).2
  obtain rfl : x = y := Option.some.inj (hx.symm.trans hy)
  simp only [Bool.and_eq_true, beq_iff_eq] at hjudged hgrace
  obtain ⟨⟨hstate, rfl⟩, hexhausted⟩ := hjudged
  rw [State.exhausted_eq (debitBalance_account u ha), decide_eq_true_iff] at hexhausted
  exact absurd hgrace (Nat.pos_iff_ne_zero.mp (h i x hx ⟨hstate, rfl, hexhausted⟩))

/-- The exhaustion check moves an open session to an open state, and changes no user, class or mark. -/
theorem State.judged_keeps (s : State) (user : Nat) (x : Session) :
    s.judged user x = { x with state := (s.judged user x).state, grace := (s.judged user x).grace } ∧
      (s.judged user x).state.isOpen = x.state.isOpen := by
  unfold State.judged
  split
  · next h => exact ⟨rfl, by rw [h.1]; rfl⟩
  · exact ⟨rfl, rfl⟩

theorem State.openInSession_of_lineLaw (hp : s.mainPower = true) (h : s.lineLaw) : s.openInSession := fun i x hx => by
  obtain ⟨hsession, hopen⟩ := (s.openSession_iff i x).mp hx
  obtain ⟨-, -, -, -, hstays⟩ := h hp i
  exact hstays x hsession hopen

theorem State.openInSession.exhaust (h : s.openInSession) : (exhaust user s).openInSession := fun i y hy => by
  obtain ⟨hsession, hopen⟩ := (State.openSession_iff _ i y).mp hy
  rw [exhaust_line] at hsession ⊢
  obtain ⟨x, hx, rfl⟩ := Option.map_eq_some_iff.mp hsession
  rw [(s.judged_keeps user x).2] at hopen
  exact h i x ((s.openSession_iff i x).mpr ⟨hx, hopen⟩)

/-- Which lines a debit posting warns (R89). -/
theorem State.warnDue_debited (ha : s.account user = some a) (i : LineId) :
    (exhaust user (debitBalance user u s)).warnDue user i =
      (s.session i).any fun x => x.state.isOpen && x.user == user && !x.fundsWarned &&
        decide (debited a.balance u ≤ ((s.classRec x.cls).warn : Int)) := by
  let d := debitBalance user u s
  have hacct : (Machine.exhaust user d).account user =
      some { a with balance := debited a.balance u, periodUnits := addHold32 a.periodUnits u } :=
    debitBalance_account u ha
  have hsession : (Machine.exhaust user d).session i = (s.session i).map (d.judged user) := by
    rw [State.session, exhaust_line]; rfl
  rw [State.warnDue, hacct, State.openSession, hsession]
  cases s.session i with
  | none => rfl
  | some x =>
    obtain ⟨hkeeps, hopen⟩ := d.judged_keeps user x
    have huser : (d.judged user x).user = x.user := by rw [hkeeps]
    have hcls : (d.judged user x).cls = x.cls := by rw [hkeeps]
    have hwarned : (d.judged user x).fundsWarned = x.fundsWarned := by rw [hkeeps]
    cases hx : x.state.isOpen
    · simp [Option.filter, hopen, hx]
    · simp only [Option.map_some, Option.filter, hopen, hx, huser, hcls, hwarned, Option.any_some, if_true,
        Bool.true_and]
      rfl

/-- A line at the funds warning: its state stands, and of its session the marks alone may change. -/
theorem State.warns.line {t : State} {i : LineId} (h : s.warns t user i) :
    (t.line i).state = (s.line i).state ∧ ∃ sent, t.session i = (s.session i).map fun x =>
      { x with activity := x.activity || sent, fundsWarned := x.fundsWarned || s.warnDue user i } := by
  unfold State.warns at h
  split at h
  · next hdue =>
    obtain ⟨sent, hsession⟩ := h.session
    refine ⟨h.state, sent, hsession.trans (Option.map_congr fun x _ => ?_)⟩
    rw [hdue, Bool.or_true]
  · next hdue =>
    refine ⟨by rw [h], false, ?_⟩
    rw [State.session, State.session, h]
    simp [hdue]

/-- Where no session moves to a grace of 0: the lines and the T port apart, the debit is all that changes, and the
funds warning takes each line from where the exhaustion check leaves it (R86 to R89). -/
theorem post_graceful_warns (hu : u ≠ 0) (ha : s.account user = some a) (hopen : s.openInSession)
    (hgrace : ∀ (i : LineId) (x : Session), s.session i = some x → x.state = .metered ∧ x.user = user ∧
      debited a.balance u ≤ -((s.classRec x.cls).floor : Int) → 0 < (s.classRec x.cls).grace) :
    (debitBalance user u s).sendFrame (post user u s) ∧
      ∀ i, (exhaust user (debitBalance user u s)).warns (post user u s) user i := by
  have hopen' : (exhaust user (debitBalance user u s)).openInSession :=
    State.openInSession.exhaust (s := debitBalance user u s) hopen
  obtain ⟨hframe, hwarns⟩ := fundsWarning_warns hopen' user
  rw [post_graceful hu (zeroGraceLines_debited ha hgrace)]
  exact ⟨State.sendFrame.trans (t := exhaust user (debitBalance user u s)) rfl hframe, hwarns⟩

end

/-- Settles O33: the posting debits the account; the exhaustion check and then the funds warning make each line. -/
theorem debitLowersAndExhausts : Obligations.DebitLowersAndExhausts := by
  intro p u n s hnext hlaw hn g
  rw [exec_grantedNext rfl hnext, show commandAccess p (.debit p u n) g = workDebit p u.toNat n.toNat g from rfl,
    workDebit, granted_account]
  refine ⟨fun hnone => by rw [hnone]; rfl, ?_⟩
  intro a ha balance exhausted hgrace
  have hg : g.account u.toNat = some a := (granted_account _ s _).trans ha
  have hopen : g.openInSession := fun i x hx => by
    rw [State.openSession, granted_session] at hx
    rw [granted_line]
    exact State.openInSession_of_lineLaw hnext.1.1 hlaw i x hx
  let t := post u.toNat n.toNat g
  let v := exhaust u.toNat (debitBalance u.toNat n.toNat g)
  obtain ⟨hframe, hwarns⟩ : (debitBalance u.toNat n.toNat g).sendFrame t ∧ ∀ i, v.warns t u.toNat i :=
    post_graceful_warns (Nat.pos_iff_ne_zero.mp hn) hg hopen fun i x hx => by
      rw [granted_session] at hx
      simp only [g, granted_classRec]
      exact hgrace i x hx
  have hdue (i : LineId) : v.warnDue u.toNat i = (s.session i).any fun x =>
      x.state.isOpen && x.user == u.toNat && !x.fundsWarned && decide (balance ≤ ((s.classRec x.cls).warn : Int)) := by
    have h := State.warnDue_debited (u := n.toNat) hg i
    simp only [g, granted_session, granted_classRec] at h
    exact h
  have hline (i : LineId) : v.line i = { s.line i with session := v.session i } := by
    rw [State.session, exhaust_line, ← granted_line (.unit p) s i]
    rfl
  have hsession (i : LineId) : v.session i = (s.session i).map fun x =>
      if exhausted x then { x with state := .grace, grace := some (s.classRec x.cls).grace } else x := by
    rw [State.session, exhaust_line, ← granted_session (.unit p) s i]
    refine Option.map_congr fun x _ => ?_
    rw [State.judged_debited hg]
    simp only [g, granted_classRec]
    rfl
  have hslots : v.slots = s.slots := granted_slots (.unit p) s
  obtain ⟨haccounts, hbilling, hinput, hdeferred⟩ := hframe.beside
  have hacct : t.account u.toNat = _ := (congrArg (List.find? _) haccounts).trans (debitBalance_account n.toNat hg)
  refine ⟨t, ?_, ?_, fun i => ?_, fun i x hx => ?_, fun i => ?_, ?_⟩
  · rw [ha]
    dsimp only
    rw [State.balanceWords_eq hacct]
    rfl
  · rw [haccounts, ← granted_accounts (.unit p) s]
    exact congrArg State.accounts (g.modAccount_eq u.toNat _)
  · obtain ⟨hstate, sent, hsent⟩ := (hwarns i).line
    refine ⟨by rw [hstate, hline], fun hnone => by rw [hsent, hsession, hnone]; rfl⟩
  · obtain ⟨-, sent, hsent⟩ := (hwarns i).line
    rw [hsession, hx, hdue, hx] at hsent
    have hmark : ∀ o m d : Bool, (m || (o && !m && d)) = (m || (o && d)) := by decide
    by_cases hex : exhausted x
    · rw [Option.map_some, if_pos hex] at hsent
      exact ⟨_, hsent, fun _ => ⟨rfl, rfl⟩, fun h => absurd hex h, hmark _ _ _, rfl, rfl, rfl⟩
    · rw [Option.map_some, if_neg hex] at hsent
      exact ⟨_, hsent, fun h => absurd h hex, fun _ => ⟨rfl, rfl⟩, hmark _ _ _, rfl, rfl, rfl⟩
  · have h := hwarns i
    rw [State.warns, hline, hslots] at h
    refine ⟨fun hno => ?_, fun hyes hbusy => ?_, fun hyes hidle hitem hmessages hbuffer => ?_⟩
    · rw [if_neg (by rw [hdue]; exact Bool.eq_false_iff.mp hno)] at h
      rw [State.session, h]
    · rw [if_pos ((hdue i).trans hyes)] at h
      exact h.busy hbusy
    · rw [if_pos ((hdue i).trans hyes)] at h
      exact h.idle hidle hitem hmessages hbuffer
  · exact ⟨hbilling.trans (granted_billing _ s), hinput.trans (granted_input _ s),
      hdeferred.trans (granted_deferred _ s)⟩

end Sys2Proof.Machine
end

section
/-! PROOFS. A close decision made inside an access, of a session whose class truncates (R145, R146, R171, R174), and the
FUNDS close of a grace of 0 (R88). -/

namespace Sys2Proof.Machine

/-! ### The close decision and its account work, where the class truncates -/

/-- The line record after a close decision, before its account work (R45, R145). -/
def LineRec.decidedIn (l : LineRec) (r : CloseReason) (x : Session) : LineRec :=
  LineRec.settleOutput r { l with session := some x }

/-- A close decision on an open session, for a reason that places a CLOSE mark (R145). -/
theorem closeDecision_open {r : CloseReason} {stamp : Stamp} {i : LineId} {s : State} {x : Session}
    (h : s.openSession i = some x) (hm : r.marks = true) :
    closeDecision r stamp i s = { s.setLine i ((s.line i).decidedIn r (x.closed r stamp)) with
      input := s.input ++ [.closeMark i x.serial r], tPort := s.tPort.latch TCause.input.bit } := by
  have hx : (s.lines.get i).session = some x := ((s.openSession_iff i x).mp h).1
  simp [closeDecision, h, hm, State.modSession, State.modLine_eq, hx, placeInput_eq, State.setLine, State.line,
    Bank.set_set, LineRec.decidedIn]

/-- A closed session once the account work is made; under a hold what was unposted is set aside (R102, R134, R145). -/
def Session.settled (x : Session) (diverting : Bool) : Session :=
  { x with
    work := some .done
    unpostedUnits := if diverting then 0 else x.unpostedUnits
    unpostedSeconds := if diverting then 0 else x.unpostedSeconds }

/-- The account work of a session whose class truncates makes no rounding unit (R141, R145). -/
theorem accountWork_truncate {post : Nat → Nat → State → State} {i : LineId} {s : State} {x : Session}
    (hx : s.session i = some x) (ht : (s.classRec x.cls).rounding = .truncate) :
    accountWork post i s =
      let v := if s.diverting then divertClose { x with work := some .done } s else s
      lowerOpenCount x.user (dropReservation i
        (writeRecord (recordOf i { x with work := some .done } false)
          (v.modSession i fun _ => x.settled s.diverting))) := by
  have hextra : Rounding.extra .truncate x.residue = false := rfl
  simp only [accountWork, hx, ht, hextra, Bool.false_and, Bool.false_eq_true, if_false]
  cases hd : s.diverting <;> rfl

theorem writeRecord_lines (r : Nat → BillingRecord) (s : State) : (writeRecord r s).lines = s.lines := by
  unfold writeRecord
  dsimp only
  split <;> rfl

theorem writeRecord_input (r : Nat → BillingRecord) (s : State) : (writeRecord r s).input = s.input := by
  unfold writeRecord
  dsimp only
  split <;> rfl

theorem writeRecord_billing (r : Nat → BillingRecord) (s : State) : (writeRecord r s).billing = { s.billing with
    records := s.billing.records ++ [r s.billing.sequence], sequence := nextCounter s.billing.sequence } := by
  unfold writeRecord
  dsimp only
  split <;> rfl

theorem divertClose_billing (x : Session) (s : State) : (divertClose x s).billing = s.billing := by
  unfold divertClose
  dsimp only
  split <;> split <;> rfl

/-- What a close sets aside under a hold is beside the lines, the input queue, the billing store and the accounts. -/
theorem divertClose_beside (d : Bool) (x : Session) (s : State) :
    let v := if d then divertClose x s else s
    v.lines = s.lines ∧ v.input = s.input ∧ v.billing = s.billing ∧ v.accounts = s.accounts := by
  cases d
  · exact ⟨rfl, rfl, rfl, rfl⟩
  · exact ⟨divertClose_lines x s, divertClose_input x s, divertClose_billing x s, divertClose_accounts x s⟩

/-- What the close of line i's session x does up to the line's closing message, where no rounding unit is posted. -/
structure State.closedBy (s w : State) (i : LineId) (x : Session) (r : CloseReason) : Prop where
  line : w.line i = { (s.line i).decidedIn r ((x.closed r s.clock.stamp).settled s.diverting) with reserved := false }
  others : s.sameLinesBut w i
  input : w.input = s.input ++ [.closeMark i x.serial r]
  billing : w.billing =
    { records := s.billing.records ++ [recordOf i (x.closed r s.clock.stamp) false s.billing.sequence]
      sequence := nextCounter s.billing.sequence
      reservations := if (s.line i).reserved then s.billing.reservations - 1 else s.billing.reservations }
  accounts : w.accounts = s.accounts.map fun b =>
    if b.user = x.user then { b with openCount := b.openCount - 1 } else b

theorem LineRec.decidedIn_session (l : LineRec) (r : CloseReason) (x : Session) :
    (l.decidedIn r x).session = some x := by
  unfold LineRec.decidedIn LineRec.settleOutput
  dsimp only
  split <;> rfl

theorem LineRec.decidedIn_reserved (l : LineRec) (r : CloseReason) (x : Session) :
    (l.decidedIn r x).reserved = l.reserved := by
  unfold LineRec.decidedIn LineRec.settleOutput
  dsimp only
  split <;> rfl

theorem LineRec.decidedIn_replaced (l : LineRec) (r : CloseReason) (x y : Session) :
    { l.decidedIn r x with session := some y } = l.decidedIn r y := by
  unfold LineRec.decidedIn LineRec.settleOutput
  dsimp only
  split <;> rfl

/-- A truncating close decision with its account work. -/
theorem closedBy_of_truncate {post : Nat → Nat → State → State} {r : CloseReason} {i : LineId} {s : State} {x : Session}
    (h : s.openSession i = some x) (hm : r.marks = true) (ht : (s.classRec x.cls).rounding = .truncate) :
    s.closedBy (accountWork post i (closeDecision r s.clock.stamp i s)) i x r := by
  let y := x.closed r s.clock.stamp
  let c : State := { s.setLine i ((s.line i).decidedIn r y) with
    input := s.input ++ [.closeMark i x.serial r], tPort := s.tPort.latch TCause.input.bit }
  have hline : c.line i = (s.line i).decidedIn r y := s.line_setLine i _
  have hy : c.session i = some y := by rw [State.session, hline, LineRec.decidedIn_session]
  rw [closeDecision_open h hm, show accountWork post i c = _ from accountWork_truncate hy ht]
  extract_lets v
  obtain ⟨hlines, hinput, hbilling, haccounts⟩ := divertClose_beside c.diverting { y with work := some .done } c
  have hv (j : LineId) : v.line j = c.line j := by rw [State.line, hlines]; rfl
  let m := v.modSession i fun _ => y.settled c.diverting
  let w := writeRecord (recordOf i { y with work := some .done } false) m
  have hmline : m.line i = (s.line i).decidedIn r (y.settled c.diverting) := by
    rw [show m.line i = _ from v.line_modLine i _, hv, hline, LineRec.decidedIn_session, Option.map_some,
      LineRec.decidedIn_replaced]
  have hw (j : LineId) : w.line j = m.line j := by rw [State.line, writeRecord_lines]; rfl
  have hwothers (j : LineId) (hj : j ≠ i) : w.line j = s.line j := by
    rw [hw, show m.line j = _ from v.line_modLine_ne _ (Ne.symm hj), hv]
    exact s.line_setLine_ne _ (Ne.symm hj)
  have hwinput : w.input = _ := (writeRecord_input _ m).trans hinput
  have hwaccounts : w.accounts = s.accounts := (writeRecord_accounts _ m).trans haccounts
  have hwbilling : w.billing = { s.billing with
      records := s.billing.records ++ [recordOf i y false s.billing.sequence]
      sequence := nextCounter s.billing.sequence } := by
    rw [show w.billing = _ from writeRecord_billing _ m, show m.billing = s.billing from hbilling]
    rfl
  show s.closedBy (lowerOpenCount y.user (dropReservation i w)) i x r
  rw [dropReservation_eq, hw, hmline, LineRec.decidedIn_reserved]
  clear_value w
  refine ⟨w.line_setLine i _, fun j hj => ?_, hwinput, ?_, ?_⟩
  · exact (w.line_setLine_ne _ (Ne.symm hj)).trans (hwothers j hj)
  · rw [lowerOpenCount, State.modAccount, hwbilling]
  · rw [lowerOpenCount, State.modAccount, State.setLine, hwaccounts]
    simp only [beq_iff_eq]
    rfl

end Sys2Proof.Machine
end

section
/-! PROOFS. The FUNDS close of a grace of 0, in the access of the posting that exhausts the session (R87, R88). -/

namespace Sys2Proof.Machine

theorem fundsWarning_none {s : State} {user : Nat} (h : ∀ i, s.warnDue user i = false) :
    fundsWarning [] user s = s := by
  rw [fundsWarning, State.forLines]
  exact List.foldl_fixed' (fun i => by rw [warnLine_eq, h i, if_neg Bool.false_ne_true]) allLines

/-- An account none of whose sessions is open is not warned. -/
theorem State.warnDue_none {s : State} {user : Nat} {i : LineId}
    (h : ∀ x, s.session i = some x → x.user = user → x.state.isOpen = false) : s.warnDue user i = false := by
  refine Bool.eq_false_iff.mpr fun hdue => ?_
  obtain ⟨x, hx, hwarn⟩ := (Option.any_eq_true _ _).mp hdue
  obtain ⟨hsession, hopen⟩ := (s.openSession_iff i x).mp hx
  simp only [Bool.and_eq_true, beq_iff_eq] at hwarn
  rw [h x hsession hwarn.1.1] at hopen
  contradiction

/-- A close in an access whose message finds the transmitter busy: the line goes to CLOSING (R45). -/
theorem enterClosing_busy {i : LineId} {s : State} (h : (s.line i).txChar ≠ none) :
    enterClosing i s = s.setLine i { s.line i with state := .closing } := by
  rw [enterClosing, State.modLine_eq, kick_busy (by rw [State.line_setLine]; exact h)]

theorem LineRec.decidedIn_txChar (l : LineRec) (r : CloseReason) (x : Session) :
    (l.decidedIn r x).txChar = l.txChar := by
  unfold LineRec.decidedIn LineRec.settleOutput
  dsimp only
  split <;> rfl

/-- The one session of a user that a debit posting exhausts with a grace of 0 closes in that posting (R88). -/
theorem post_closes {s : State} {user u : Nat} {i : LineId} {x : Session} {a : Account} (hu : u ≠ 0)
    (ha : s.account user = some a) (hx : s.session i = some x) (huser : x.user = user) (hstate : x.state = .metered)
    (honly : ∀ (j : LineId) (y : Session), j ≠ i → s.session j = some y → y.user ≠ user)
    (hfloor : debited a.balance u ≤ -((s.classRec x.cls).floor : Int)) (hgrace : (s.classRec x.cls).grace = 0)
    (ht : (s.classRec x.cls).rounding = .truncate) (hbusy : (s.line i).txChar ≠ none) :
    let e := exhaust user (debitBalance user u s)
    let y : Session := { x with state := .grace, grace := some 0 }
    e.line i = { s.line i with session := some y } ∧
      ∃ w, e.closedBy w i y .funds ∧ post user u s = w.setLine i { w.line i with state := .closing } := by
  intro e y
  let d := debitBalance user u s
  have hd : d.account user = some _ := debitBalance_account u ha
  have hexhausted : d.exhausted x = true := by
    rw [State.exhausted_eq (huser ▸ hd)]
    exact decide_eq_true hfloor
  have hlines : d.exhaustedLines user = [i] := by
    rw [State.exhaustedLines, filter_allLines_only (i := i) fun j hj => ?_]
    · rw [List.filter_singleton, show d.session i = some x from hx, Option.any_some, hstate, huser, hexhausted]
      simp
    · refine Bool.eq_false_iff.mpr fun h => ?_
      obtain ⟨z, hz, hjudged⟩ := (Option.any_eq_true _ _).mp h
      simp only [Bool.and_eq_true, beq_iff_eq] at hjudged
      exact honly j z hj hz hjudged.1.2
  have hzero : d.zeroGraceLines user = [i] := by
    rw [State.zeroGraceLines, hlines, List.filter_singleton, show d.session i = some x from hx, Option.any_some,
      show (d.classRec x.cls).grace = 0 from hgrace]
    rfl
  have hline : e.line i = { s.line i with session := some y } := by
    rw [exhaust_line, show (debitBalance user u s).session i = some x from hx, Option.map_some, State.judged,
      if_pos ⟨hstate, huser, hexhausted⟩, State.enterGrace, show (d.classRec x.cls).grace = 0 from hgrace]
    rfl
  have hothers (j : LineId) (z : Session) (hj : j ≠ i) (hz : e.session j = some z) : z.user ≠ user := by
    rw [State.session, exhaust_line] at hz
    obtain ⟨z', hz', rfl⟩ := Option.map_eq_some_iff.mp hz
    rw [(State.judged_keeps _ user z').1]
    exact honly j z' hj hz'
  have hopen : e.openSession i = some y := by
    rw [State.openSession_iff, hline]
    exact ⟨rfl, rfl⟩
  have hpost : post user u s = fundsWarning [] user (closeInAccess (postLevels 32 [i]) .funds i e) := by
    rw [post, postLevels, if_neg hu]
    simp only [d, hzero]
    rfl
  have hclosed := closedBy_of_truncate (post := postLevels 32 [i]) (r := .funds) hopen rfl ht
  refine ⟨hline, _, hclosed, ?_⟩
  generalize hw : accountWork (postLevels 32 [i]) i (closeDecision .funds e.clock.stamp i e) = w at hclosed
  have hclose : closeInAccess (postLevels 32 [i]) .funds i e = w.setLine i { w.line i with state := .closing } := by
    rw [← enterClosing_busy]
    · rw [closeInAccess, hopen, ← hw]
      rfl
    · rw [hclosed.line, LineRec.decidedIn_txChar, hline]
      exact hbusy
  rw [hpost, hclose]
  refine fundsWarning_none fun j => State.warnDue_none fun z hz hzuser => ?_
  by_cases hj : j = i
  · subst hj
    rw [State.session, State.line_setLine, hclosed.line, LineRec.decidedIn_session] at hz
    rw [← Option.some.inj hz]
    rfl
  · rw [State.session, State.line_setLine_ne _ _ (Ne.symm hj), hclosed.others j hj] at hz
    exact absurd hzuser (hothers j z hj hz)

@[simp] theorem granted_clock (c : Client) (s : State) : (granted c s).clock = s.clock := by rw [granted_eq]

/-- A posting leaves the starting mark of each port. -/
theorem State.workFrame.starting {s t : State} (h : s.workFrame t) (p : PortId) :
    (t.port p).starting = (s.port p).starting := by
  unfold State.workFrame at h
  rw [h]
  cases p <;> rfl

/-- Settles O34: the debit posting makes the FUNDS close, with its record, its CLOSE mark and its open count. -/
theorem fundsCloseAtThePosting : Obligations.FundsCloseAtThePosting := by
  intro p u n i x a s hnext hn ha hhold hx huser hstate honly hfloor hgrace ht hreserved hbusy
  let g := granted (.unit p) s
  have hg : g.account u.toNat = some a := (granted_account _ s _).trans ha
  obtain ⟨hline, w, hclosed, hpost⟩ := post_closes (s := g) (i := i) (x := x) (Nat.pos_iff_ne_zero.mp hn) hg
    ((granted_session _ s i).trans hx) huser hstate
    (fun j y hj hy => honly j y hj ((granted_session _ s j).symm.trans hy))
    (by rw [granted_classRec]; exact hfloor) (by rw [granted_classRec]; exact hgrace)
    (by rw [granted_classRec]; exact ht) (by rw [granted_line]; exact hbusy)
  generalize he : exhaust u.toNat (debitBalance u.toNat n.toNat g) = e at hline hclosed
  let t := w.setLine i { w.line i with state := .closing }
  have hdiverting : e.diverting = false := by
    have hsame : e.hold = s.hold := by rw [← he]; exact granted_hold _ s
    rw [State.diverting, hsame, hhold]; rfl
  have hstarting : (t.port p).starting = false := by
    have hframe : g.workFrame t := by
      rw [show t = _ from hpost.symm]
      exact workFrame_post g u.toNat n.toNat
    rw [hframe.starting p, ← hnext.1.2, show g = _ from granted_eq _ s]
    cases p <;> rfl
  have hexec : exec (.debit p u n) s = .next (giveBack (complete p .ok
      (decide (a.balance - n.toNat < balanceMin)) (t.balanceWords u.toNat) t)) := by
    rw [exec_grantedNext rfl hnext, show commandAccess p (.debit p u n) g = workDebit p u.toNat n.toNat g from rfl,
      workDebit, hg]
    dsimp only
    rw [hpost]
  have hclock : e.clock = s.clock := by rw [← he, ← granted_clock (.unit p) s]; rfl
  have hbilling : e.billing = s.billing := by rw [← he]; exact granted_billing _ s
  have hinput : e.input = s.input := by rw [← he]; exact granted_input _ s
  have haccounts : e.accounts = (debitBalance u.toNat n.toNat g).accounts := by rw [← he]; rfl
  have htline : (giveBack (complete p .ok
      (decide (a.balance - n.toNat < balanceMin)) (t.balanceWords u.toNat) t)).line i =
      { w.line i with state := .closing } := by
    rw [giveBack_line, complete_line]
    exact w.line_setLine i _
  rw [hclosed.line, hline, granted_line, hdiverting, hclock] at htline
  refine ⟨_, hexec, ?_, ?_, ?_, ?_, ?_, ?_, ?_, ?_⟩
  · obtain ⟨-, hstatus, -⟩ := giveBack_answered (complete_answered hstarting .ok
      (decide (a.balance - n.toNat < balanceMin)) (t.balanceWords u.toNat))
    exact hstatus
  · rw [htline]
  · rw [htline]
  · rw [htline]; rfl
  · rw [State.session, htline]
    rfl
  · rw [giveBack_input, complete_input]
    exact hclosed.input.trans (by rw [hinput])
  · rw [giveBack_billing, complete_billing]
    refine hclosed.billing.trans ?_
    rw [hbilling, hline, granted_line, hreserved, hclock]
    rfl
  · rw [giveBack_accounts, complete_accounts]
    refine hclosed.accounts.trans ?_
    rw [haccounts, debitBalance, State.modAccount, granted_accounts, List.map_map]
    refine List.map_congr_left fun b _ => ?_
    by_cases hb : b.user = u.toNat
    · simp [hb, huser, debited, addHold32, balanceMin, Config.max32]
    · simp [hb, huser]

end Sys2Proof.Machine
end

section
/-! PROOFS. SUSPEND (R80): what a close in an access, with the postings it makes, leaves of the sessions of all
lines. -/

namespace Sys2Proof.Machine

/-! ### Postings and closes open no session -/

/-- Each session part of the later state stood on its line before, for the same user, and none has opened. -/
def State.sessionsFrom (s t : State) : Prop :=
  ∀ (j : LineId) (y : Session), t.session j = some y →
    ∃ x, s.session j = some x ∧ y.user = x.user ∧ (y.state.isOpen = true → x.state.isOpen = true)

theorem State.sessionsFrom.refl (s : State) : s.sessionsFrom s := fun _ y hy => ⟨y, hy, rfl, id⟩

theorem State.sessionsFrom.trans {s t u : State} (h : s.sessionsFrom t) (k : t.sessionsFrom u) : s.sessionsFrom u :=
  fun j z hz => by
    obtain ⟨y, hy, hzy, hzopen⟩ := k j z hz
    obtain ⟨x, hx, hyx, hyopen⟩ := h j y hy
    exact ⟨x, hx, hzy.trans hyx, hyopen ∘ hzopen⟩

theorem sessionsFrom_ite {s t u : State} {c : Prop} [Decidable c] (ht : s.sessionsFrom t) (hu : s.sessionsFrom u) :
    s.sessionsFrom (if c then t else u) := by split <;> assumption

theorem sessionsFrom_fold {α : Type} {f : State → α → State} (hf : ∀ (s : State) a, s.sessionsFrom (f s a))
    (l : List α) (s : State) : s.sessionsFrom (l.foldl f s) :=
  List.foldlRecOn (motive := fun t : State => s.sessionsFrom t) l f (.refl s) fun _ h a _ => h.trans (hf _ a)

theorem sessionsFrom_beside {s t : State} (h : t.lines = s.lines) : s.sessionsFrom t := fun j y hy =>
  ⟨y, by rwa [State.session, State.line, h] at hy, rfl, id⟩

/-- Sending sets marks of a session part at most. -/
theorem State.sendsOn.sessionsFrom {s t : State} (h : s.sendsOn t) : s.sessionsFrom t := fun j y hy => by
  obtain ⟨x, hx, hyx⟩ := (h.line j).session y hy
  exact ⟨x, hx, by rw [hyx], by rw [hyx]; exact id⟩

theorem sessionsFrom_modLine (s : State) (i : LineId) {f : LineRec → LineRec}
    (hf : (f (s.line i)).session = (s.line i).session) : s.sessionsFrom (s.modLine i f) := fun j y hy => by
  refine ⟨y, ?_, rfl, id⟩
  by_cases hj : j = i
  · subst hj
    rwa [State.session, State.line_modLine, hf] at hy
  · rwa [State.session, State.line_modLine_ne _ _ (Ne.symm hj)] at hy

/-- A session part changed or replaced by one of the same user that is open only if it was. -/
theorem sessionsFrom_modSession (s : State) (i : LineId) {f : Session → Session}
    (hf : ∀ x, s.session i = some x → (f x).user = x.user ∧ ((f x).state.isOpen = true → x.state.isOpen = true)) :
    s.sessionsFrom (s.modSession i f) := fun j y hy => by
  by_cases hj : j = i
  · subst hj
    rw [State.modSession, State.session, State.line_modLine] at hy
    obtain ⟨x, hx, rfl⟩ := Option.map_eq_some_iff.mp hy
    exact ⟨x, hx, hf x hx⟩
  · rw [State.modSession, State.session, State.line_modLine_ne _ _ (Ne.symm hj)] at hy
    exact ⟨y, hy, rfl, id⟩

theorem sessionsFrom_exhaust (user : Nat) (s : State) : s.sessionsFrom (exhaust user s) := fun j y hy => by
  rw [State.session, exhaust_line] at hy
  obtain ⟨x, hx, rfl⟩ := Option.map_eq_some_iff.mp hy
  obtain ⟨hkeeps, hopen⟩ := s.judged_keeps user x
  exact ⟨x, hx, by rw [hkeeps], by rw [hopen]; exact id⟩

theorem sessionsFrom_closeDecision (r : CloseReason) (stamp : Stamp) (i : LineId) (s : State) :
    s.sessionsFrom (closeDecision r stamp i s) := by
  unfold closeDecision
  split
  · extract_lets s1 s2
    have h1 : s.sessionsFrom s1 := sessionsFrom_modSession s i fun x _ => ⟨rfl, fun h => absurd h Bool.false_ne_true⟩
    have h2 : s.sessionsFrom s2 := h1.trans (sessionsFrom_ite (sessionsFrom_beside (placeInput_lines _ _)) (.refl s1))
    exact h2.trans (sessionsFrom_modLine s2 i (by unfold LineRec.settleOutput; dsimp only; split <;> rfl))
  · exact .refl s

theorem sessionsFrom_modAccount (s : State) (user : Nat) (f : Account → Account) :
    s.sessionsFrom (s.modAccount user f) := sessionsFrom_beside rfl

theorem sessionsFrom_dropReservation (i : LineId) (s : State) : s.sessionsFrom (dropReservation i s) := by
  have h : s.sessionsFrom (s.modLine i fun l => { l with reserved := false }) := sessionsFrom_modLine s i rfl
  rw [dropReservation_eq]
  exact h

theorem Session.addUnposted_keeps (x : Session) (u : Nat) :
    (x.addUnposted u).user = x.user ∧ (x.addUnposted u).state = x.state := by
  unfold Session.addUnposted
  split <;> exact ⟨rfl, rfl⟩

/-- Account work, given that the posting it may make opens no session. -/
theorem sessionsFrom_accountWork {post : Nat → Nat → State → State}
    (hp : ∀ (user u : Nat) (s : State), s.sessionsFrom (post user u s)) (i : LineId) (s : State) :
    s.sessionsFrom (accountWork post i s) := by
  unfold accountWork
  split
  · exact .refl s
  · next x hx =>
    extract_lets up cu s1 x1 x2 kept s2 s3 s4 s5
    have h1 : s1.lines = s.lines := by
      unfold s1 cu
      split
      · exact addStated_lines ..
      · rfl
    have h2 : s2.lines = s.lines := by
      unfold s2
      split
      · rw [divertClose_lines, h1]
      · exact h1
    have hsame : kept.user = x.user ∧ kept.state = x.state := by
      have hx2 : x2.user = x.user ∧ x2.state = x.state := by
        unfold x2
        split
        · exact x1.addUnposted_keeps 1
        · exact ⟨rfl, rfl⟩
      unfold kept
      split <;> exact hx2
    have h3 : s.sessionsFrom s3 := (sessionsFrom_beside h2).trans
      (sessionsFrom_modSession s2 i fun z hz => by
        rw [State.session, State.line, h2] at hz
        obtain rfl : x = z := Option.some.inj (hx.symm.trans hz)
        exact ⟨hsame.1, by rw [hsame.2]; exact id⟩)
    have h4 : s.sessionsFrom s4 :=
      (h3.trans (sessionsFrom_beside (writeRecord_lines _ _))).trans (sessionsFrom_dropReservation i _)
    have h5 : s.sessionsFrom s5 := h4.trans (sessionsFrom_modAccount _ _ _)
    exact sessionsFrom_ite (h5.trans (hp _ _ _)) h5

theorem sessionsFrom_enterClosing (i : LineId) (s : State) : s.sessionsFrom (enterClosing i s) :=
  (sessionsFrom_modLine s i rfl).trans (sendsOn_kick i _).sessionsFrom

/-- A close in an access that takes effect, after its decision. -/
theorem sessionsFrom_decided {post : Nat → Nat → State → State}
    (hp : ∀ (user u : Nat) (s : State), s.sessionsFrom (post user u s)) (r : CloseReason) {i : LineId} {s : State}
    {x : Session} (h : s.openSession i = some x) :
    (closeDecision r s.clock.stamp i s).sessionsFrom (closeInAccess post r i s) := by
  have hwork := sessionsFrom_accountWork hp i (closeDecision r s.clock.stamp i s)
  rw [closeInAccess, h]
  exact sessionsFrom_ite (hwork.trans (sessionsFrom_enterClosing i _)) hwork

theorem sessionsFrom_closeInAccess {post : Nat → Nat → State → State}
    (hp : ∀ (user u : Nat) (s : State), s.sessionsFrom (post user u s)) (r : CloseReason) (i : LineId) (s : State) :
    s.sessionsFrom (closeInAccess post r i s) := by
  cases h : s.openSession i with
  | none => rw [closeInAccess, h]; exact .refl s
  | some x => exact (sessionsFrom_closeDecision r _ i s).trans (sessionsFrom_decided hp r h)

theorem sessionsFrom_postLevels (n : Nat) (spared : List LineId) (user u : Nat) (s : State) :
    s.sessionsFrom (postLevels n spared user u s) := by
  induction n generalizing spared user u s with
  | zero =>
    exact (sessionsFrom_modAccount s user _).trans
      (sendsOn_fundsWarning spared user (debitBalance user u s)).sessionsFrom
  | succ n ih =>
    unfold postLevels
    split
    · exact .refl s
    · extract_lets s1 zero close
      have h : s.sessionsFrom (exhaust user s1) :=
        (sessionsFrom_modAccount s user _).trans (sessionsFrom_exhaust user s1)
      exact (h.trans (sessionsFrom_fold (fun s j => sessionsFrom_closeInAccess (ih _) .funds j s) _ _)).trans
        (sendsOn_fundsWarning spared user _).sessionsFrom

theorem sessionsFrom_post (user u : Nat) (s : State) : s.sessionsFrom (post user u s) :=
  sessionsFrom_postLevels 33 [] user u s

/-- A close in an access leaves no open session on its line. -/
theorem closeNow_closes {r : CloseReason} {i : LineId} {s : State} (hm : r.marks = true) {y : Session}
    (hy : (closeNow r i s).session i = some y) : y.state.isOpen = false := by
  refine Bool.eq_false_iff.mpr fun hopen => ?_
  cases h : s.openSession i with
  | none =>
    rw [closeNow, closeInAccess, h] at hy
    have hsome := (s.openSession_iff i y).mpr ⟨hy, hopen⟩
    rw [h] at hsome
    contradiction
  | some x =>
    obtain ⟨z, hz, -, hzopen⟩ := sessionsFrom_decided sessionsFrom_post r h i y hy
    rw [closeDecision_open h hm] at hz
    have hclosed : some (x.closed r s.clock.stamp) = some z :=
      (LineRec.decidedIn_session _ r _).symm.trans ((congrArg LineRec.session (s.line_setLine i _)).symm.trans hz)
    rw [← Option.some.inj hclosed] at hzopen
    exact absurd (hzopen hopen) Bool.false_ne_true

end Sys2Proof.Machine
end

section
/-! PROOFS. SUSPEND (R80): the sessions that its access closes, in line order, and their count. -/

namespace Sys2Proof.Machine

/-! ### One line's part of the closes of an access -/

/-- One line of `closeMatching`. -/
def closeStep (r : CloseReason) (covers : Session → Bool) (acc : State × Nat) (i : LineId) : State × Nat :=
  match acc.1.openSession i with
  | some x => if covers x then (closeNow r i acc.1, acc.2 + 1) else acc
  | none => acc

theorem closeMatching_eq (r : CloseReason) (covers : Session → Bool) (s : State) :
    closeMatching r covers s = allLines.foldl (closeStep r covers) (s, 0) := rfl

/-- An access that closes the sessions `covers` holds of closes the one on line i. -/
def State.closesOn (s : State) (covers : Session → Bool) (i : LineId) : Bool := (s.openSession i).any covers

theorem closeStep_eq (r : CloseReason) (covers : Session → Bool) (acc : State × Nat) (i : LineId) :
    closeStep r covers acc i = if acc.1.closesOn covers i then (closeNow r i acc.1, acc.2 + 1) else acc := by
  unfold closeStep State.closesOn
  cases acc.1.openSession i <;> rfl

section
variable {r : CloseReason} {covers : Session → Bool}

/-! ### No session that the access covers stays open -/

theorem sessionsFrom_closeStep (acc : State × Nat) (i : LineId) : acc.1.sessionsFrom (closeStep r covers acc i).1 := by
  rw [closeStep_eq]
  split
  · exact sessionsFrom_closeInAccess sessionsFrom_post r i acc.1
  · exact .refl _

theorem closeStep_closes (hm : r.marks = true) {acc : State × Nat} {i : LineId} {y : Session}
    (hy : (closeStep r covers acc i).1.session i = some y) (hcovers : covers y = true) : y.state.isOpen = false := by
  rw [closeStep_eq] at hy
  split at hy
  · exact closeNow_closes hm hy
  · next hno =>
    refine Bool.eq_false_iff.mpr fun hopen => hno ?_
    rw [State.closesOn, (acc.1.openSession_iff i y).mpr ⟨hy, hopen⟩]
    exact hcovers

/-- After its closes, an access that covers sessions by their user leaves none of them open (R80). -/
theorem fold_closeStep_closes (hm : r.marks = true) (hcovers : ∀ x y : Session, x.user = y.user → covers x = covers y)
    (is : List LineId) (acc : State × Nat) :
    let t := (is.foldl (closeStep r covers) acc).1
    acc.1.sessionsFrom t ∧
      ∀ i ∈ is, ∀ y, t.session i = some y → covers y = true → y.state.isOpen = false := by
  induction is generalizing acc with
  | nil => exact ⟨.refl _, fun i hi => absurd hi List.not_mem_nil⟩
  | cons i rest ih =>
    obtain ⟨hfrom, hrest⟩ := ih (closeStep r covers acc i)
    refine ⟨(sessionsFrom_closeStep acc i).trans hfrom, fun j hj y hy hcov => ?_⟩
    rcases List.mem_cons.mp hj with rfl | hj
    · obtain ⟨x, hx, huser, hopen⟩ := hfrom j y hy
      have hclosed := closeStep_closes hm hx ((hcovers x y huser.symm).trans hcov)
      exact Bool.eq_false_iff.mpr fun h => by rw [hopen h] at hclosed; contradiction
    · exact hrest j hj y hy hcov

/-! ### Records, marks and count, where every class truncates -/

/-- A close in an access whose class truncates, seen from the records, the marks and the other lines. -/
theorem closeNow_truncate {i : LineId} {s : State} {x : Session} (h : s.openSession i = some x) (hm : r.marks = true)
    (ht : (s.classRec x.cls).rounding = .truncate) :
    (closeNow r i s).billing.records.length = s.billing.records.length + 1 ∧
      (closeNow r i s).input = s.input ++ [.closeMark i x.serial r] ∧
      ∀ j, j ≠ i → (closeNow r i s).session j = s.session j := by
  have hclosed := closedBy_of_truncate (post := post) h hm ht
  generalize hw : accountWork post i (closeDecision r s.clock.stamp i s) = w at hclosed
  have hnow : closeNow r i s = if r.message.isSome then enterClosing i w else w := by
    rw [closeNow, closeInAccess, h, ← hw]
  have hrecords : w.billing.records.length = s.billing.records.length + 1 := by
    rw [hclosed.billing, List.length_append, List.length_singleton]
  have hothers (j : LineId) (hj : j ≠ i) : w.session j = s.session j := congrArg LineRec.session (hclosed.others j hj)
  rw [hnow]
  split
  · have hframe := lineFrame_enterClosing w i
    refine ⟨by rw [hframe.records, hrecords], hframe.input.trans hclosed.input, fun j hj => ?_⟩
    rw [← hothers j hj]
    have hmod : (w.modLine i fun l => { l with state := .closing }).line j = w.line j :=
      w.line_modLine_ne _ (Ne.symm hj)
    rcases kick_others (w.modLine i fun l => { l with state := .closing }) hj with hk | ⟨e, rdy, hk⟩
    · rw [enterClosing, State.session, hk, hmod]; rfl
    · rw [enterClosing, State.session, hk, LineRec.rejudge_session, hmod]; rfl
  · exact ⟨hrecords, hclosed.input, hothers⟩

theorem State.closesOn_congr {s t : State} {i : LineId} (h : t.session i = s.session i) :
    t.closesOn covers i = s.closesOn covers i := by
  rw [State.closesOn, State.closesOn, State.openSession, State.openSession, h]

/-- Each session the access covers makes one record and one CLOSE mark and is counted, in line order (R80, R145). -/
theorem fold_closeStep_truncate (hm : r.marks = true) (is : List LineId) (hnodup : is.Nodup) (acc : State × Nat)
    (ht : ∀ c : Fin 4, (acc.1.classRec c).rounding = .truncate) :
    let t := is.foldl (closeStep r covers) acc
    let closed := is.filter (acc.1.closesOn covers)
    t.2 = acc.2 + closed.length ∧
      t.1.billing.records.length = acc.1.billing.records.length + closed.length ∧
      t.1.input = acc.1.input ++ closed.filterMap fun i =>
        (acc.1.session i).map fun x => .closeMark i x.serial r := by
  induction is generalizing acc with
  | nil => exact ⟨rfl, rfl, (List.append_nil _).symm⟩
  | cons i rest ih =>
    obtain ⟨hi, hrest⟩ := List.nodup_cons.mp hnodup
    by_cases hcloses : acc.1.closesOn covers i = true
    · obtain ⟨x, hx, -⟩ := (Option.any_eq_true _ _).mp hcloses
      obtain ⟨hrecords, hinput, hothers⟩ := closeNow_truncate hx hm (ht x.cls)
      have hstep : closeStep r covers acc i = (closeNow r i acc.1, acc.2 + 1) := by rw [closeStep_eq, if_pos hcloses]
      have hclasses : (closeNow r i acc.1).classes = acc.1.classes := by
        obtain ⟨-, -, -, h, -⟩ := (workFrame_closeNow acc.1 r i).pass.fixed
        exact h
      obtain ⟨hcount, hlength, hmarks⟩ := ih hrest (closeNow r i acc.1, acc.2 + 1)
        (fun c => by rw [State.classRec, hclasses]; exact ht c)
      have hsame : rest.filter ((closeNow r i acc.1).closesOn covers) = rest.filter (acc.1.closesOn covers) :=
        List.filter_congr fun j hj => State.closesOn_congr (hothers j fun e => hi (e ▸ hj))
      have hsessions : (rest.filter (acc.1.closesOn covers)).filterMap
            (fun j => ((closeNow r i acc.1).session j).map fun x => InputEntry.closeMark j x.serial r) =
          (rest.filter (acc.1.closesOn covers)).filterMap
            (fun j => (acc.1.session j).map fun x => InputEntry.closeMark j x.serial r) :=
        List.filterMap_congr fun j hj => by
          rw [hothers j fun e => hi (e ▸ (List.mem_filter.mp hj).1)]
      have hsession : acc.1.session i = some x := ((acc.1.openSession_iff i x).mp hx).1
      dsimp only at hcount hlength hmarks ⊢
      rw [hsame] at hcount hlength hmarks
      rw [hsessions] at hmarks
      rw [List.foldl_cons, hstep, List.filter_cons_of_pos hcloses, List.length_cons]
      refine ⟨by rw [hcount]; omega, by rw [hlength, hrecords]; omega, ?_⟩
      rw [hmarks, hinput, List.filterMap_cons_some (b := .closeMark i x.serial r) (by rw [hsession]; rfl),
        List.append_assoc]
      rfl
    · have hstep : closeStep r covers acc i = acc := by rw [closeStep_eq, if_neg hcloses]
      dsimp only
      rw [List.foldl_cons, hstep, List.filter_cons_of_neg hcloses]
      exact ih hrest acc ht

end

/-! ### SUSPEND (R80) -/

theorem SessionState.closing_of_not_open {x : SessionState} (h : x.isOpen = false) : x = .closing := by
  cases x
  case closing => rfl
  all_goals contradiction

/-- The record of a suspended account. -/
def Account.locked (b : Account) : Account := { b with state := .suspended, lockedUntil := none }

/-- Closes leave the standing of the account that SUSPEND has changed. -/
theorem suspended_stays {s t : State} {user : Nat} (h : t.standings = (s.modAccount user Account.locked).standings)
    {b : Account} (hb : b ∈ t.accounts) (huser : b.user = user) : b.state = .suspended ∧ b.lockedUntil = none := by
  have hmem : b.standing ∈ (s.modAccount user Account.locked).standings := h ▸ List.mem_map_of_mem hb
  obtain ⟨c, hc, hstanding⟩ := List.mem_map.mp hmem
  obtain ⟨d, -, rfl⟩ := List.mem_map.mp hc
  simp only [Account.standing, Prod.mk.injEq] at hstanding
  obtain ⟨hsame, hstate, hlocked⟩ := hstanding
  rw [← hstate, ← hlocked]
  by_cases hd : d.user = user
  · rw [if_pos (beq_iff_eq.mpr hd)]
    exact ⟨rfl, rfl⟩
  · rw [if_neg (mt beq_iff_eq.mp hd), huser] at hsame
    exact absurd hsame hd

/-- Settles O36: the account is suspended; with logout its sessions close one by one, in line order. -/
theorem suspendLocksAndLogsOut : Obligations.SuspendLocksAndLogsOut := by
  intro p u y s hnext g open_
  rw [exec_grantedNext rfl hnext,
    show commandAccess p (.suspend p u y) g = workSuspend p u.toNat (flagArg y == some true) g from rfl, workSuspend,
    granted_account]
  refine ⟨fun hnone => by rw [hnone]; rfl, fun hsome hy => ?_, fun hsome hy => ?_⟩
  · obtain ⟨a, ha⟩ := Option.ne_none_iff_exists'.mp hsome
    rw [ha, hy, ← granted_accounts (.unit p) s]
    dsimp only
    rw [State.modAccount_eq]
    rfl
  · obtain ⟨a, ha⟩ := Option.ne_none_iff_exists'.mp hsome
    rw [ha, hy]
    let v := g.modAccount u.toNat Account.locked
    let r := closeMatching .suspended (·.user == u.toNat) v
    have hstandings : r.1.standings = v.standings := closeMatching_standings _ _ v
    refine ⟨w16 r.2, r.1, rfl, fun b hb huser => suspended_stays hstandings hb huser,
      fun i x hx huser => ?_, fun ht => ?_⟩
    · obtain ⟨-, hcloses⟩ := fold_closeStep_closes (r := .suspended) (covers := (·.user == u.toNat)) rfl
        (fun x y h => by rw [h]) allLines (v, 0)
      have hclosed := hcloses i (mem_allLines i) x hx (beq_iff_eq.mpr huser)
      exact SessionState.closing_of_not_open hclosed
    · have hclasses (c : Fin 4) : (v.classRec c).rounding = .truncate :=
        (congrArg ClassRec.rounding (granted_classRec (.unit p) s c)).trans (ht c)
      obtain ⟨hcount, hrecords, hinput⟩ := fold_closeStep_truncate (r := .suspended) (covers := (·.user == u.toNat)) rfl
        allLines allLines_nodup (v, 0) hclasses
      have hsession (i : LineId) : v.session i = s.session i := granted_session (.unit p) s i
      have hopen : allLines.filter (v.closesOn (·.user == u.toNat)) = open_ := List.filter_congr fun i _ => by
        rw [State.closesOn_congr (hsession i)]
        rfl
      have hbilling : v.billing = s.billing := granted_billing (.unit p) s
      have hqueue : v.input = s.input := granted_input (.unit p) s
      rw [← closeMatching_eq, show closeMatching .suspended (·.user == u.toNat) v = r from rfl]
        at hcount hrecords hinput
      rw [hopen, Nat.zero_add] at hcount
      rw [hopen, hbilling] at hrecords
      rw [hopen, hqueue] at hinput
      simp only [hsession] at hinput
      exact ⟨congrArg w16 hcount, hrecords, hinput⟩

end Sys2Proof.Machine
end

section
/-! PROOFS. The law of the hold (R108): what each shared operation on lines, accounts, the table and the ports does to
what is set aside and to the pass begun in GRANTED. -/

namespace Sys2Proof.Machine

/-! ### The law of the hold, and the operations that keep it -/

/-- The law of the hold, its second part asked for only where `pw` holds: a state meets the law of R108 where it meets
this with `pw` its main power. -/
def State.holdUnder (s : State) (pw : Bool) : Prop :=
  (s.hold.state = .none ∨ s.hold.state = .requested → s.setAside = false ∧ s.hold.passInGranted = false) ∧
    (pw = true → s.hold.passInGranted = true → s.engine.pass.isSome = true)

theorem State.holdLaw_iff (s : State) : s.holdLaw ↔ s.holdUnder s.mainPower := Iff.rfl

/-- The law of the hold, if the first state meets it, holds in the second. -/
structure State.keepsHold (s : State) (pw : Bool) (t : State) : Prop where
  keeps : s.holdUnder pw → t.holdUnder pw

/-- Some session part on the line has unposted units. -/
def LineRec.unposted (l : LineRec) : Bool := l.session.any fun x => decide (0 < x.unpostedUnits)

theorem State.setAside_iff (s : State) :
    s.setAside = true ↔ s.deferred ≠ [] ∨ ∃ i, (s.line i).unposted = true := by
  simp [State.setAside, LineRec.unposted, State.session]

theorem State.setAside_eq_false (s : State) :
    s.setAside = false ↔ s.deferred = [] ∧ ∀ i, (s.line i).unposted = false := by
  simp [← Bool.not_eq_true, s.setAside_iff]

section
variable {pw : Bool}

theorem State.keepsHold.refl (s : State) : s.keepsHold pw s := ⟨id⟩

theorem State.keepsHold.trans {s t u : State} (h : s.keepsHold pw t) (k : t.keepsHold pw u) : s.keepsHold pw u :=
  ⟨k.keeps ∘ h.keeps⟩

theorem keepsHold_ite {s t u : State} {c : Prop} [Decidable c] (ht : s.keepsHold pw t) (hu : s.keepsHold pw u) :
    s.keepsHold pw (if c then t else u) := by split <;> assumption

theorem keepsHold_fold {α : Type} {f : State → α → State} (hf : ∀ (s : State) a, s.keepsHold pw (f s a)) (l : List α)
    (s : State) : s.keepsHold pw (l.foldl f s) :=
  List.foldlRecOn (motive := fun t : State => s.keepsHold pw t) l f (.refl s) fun _ h a _ => h.trans (hf _ a)

theorem keepsHold_forLines {f : LineId → State → State} (hf : ∀ i (s : State), s.keepsHold pw (f i s)) (s : State) :
    s.keepsHold pw (s.forLines f) := keepsHold_fold (fun s i => hf i s) _ s

/-- The hold stands, a pass in progress goes on, and with the hold NONE or REQUESTED nothing is set aside. -/
theorem keepsHold_of {s t : State} (hhold : t.hold = s.hold) (hpass : t.engine.pass = s.engine.pass)
    (haside : s.hold.state = .none ∨ s.hold.state = .requested → s.setAside = false → t.setAside = false) :
    s.keepsHold pw t := by
  refine ⟨fun ⟨hplain, hrun⟩ => ⟨fun h => ?_, fun h hgranted => ?_⟩⟩
  · rw [hhold] at h ⊢
    exact ⟨haside h (hplain h).1, (hplain h).2⟩
  · rw [hhold] at hgranted
    rw [hpass]
    exact hrun h hgranted

/-- No unposted units and no deferred entry join those that there were. -/
theorem setAside_of_lines {s t : State} (hdeferred : t.deferred = s.deferred)
    (hl : ∀ i, (t.line i).unposted = true → (s.line i).unposted = true) (h : s.setAside = false) :
    t.setAside = false := by
  obtain ⟨hnone, hlines⟩ := s.setAside_eq_false.mp h
  refine t.setAside_eq_false.mpr ⟨hdeferred.trans hnone, fun i => ?_⟩
  rw [← Bool.not_eq_true]
  exact fun hi => absurd (hl i hi) (by rw [hlines i]; decide)

theorem keepsHold_of_lines {s t : State} (hhold : t.hold = s.hold) (hpass : t.engine.pass = s.engine.pass)
    (hdeferred : t.deferred = s.deferred) (hl : ∀ i, (t.line i).unposted = true → (s.line i).unposted = true) :
    s.keepsHold pw t := keepsHold_of hhold hpass fun _ => setAside_of_lines hdeferred hl

/-- A change beside the lines, the hold, the pass and the deferred entries. -/
theorem keepsHold_beside {s t : State} (hl : t.lines = s.lines) (hhold : t.hold = s.hold)
    (hpass : t.engine.pass = s.engine.pass) (hdeferred : t.deferred = s.deferred) : s.keepsHold pw t :=
  keepsHold_of_lines hhold hpass hdeferred fun i h => by rwa [State.line, hl] at h

theorem State.keepsHold.beside {s t u : State} (h : s.keepsHold pw t) (hl : u.lines = t.lines) (hhold : u.hold = t.hold)
    (hpass : u.engine.pass = t.engine.pass) (hdeferred : u.deferred = t.deferred) : s.keepsHold pw u :=
  h.trans (keepsHold_beside hl hhold hpass hdeferred)

theorem State.keepsHold.ofBeside {s t u : State} (h : t.keepsHold pw u) (hl : t.lines = s.lines)
    (hhold : t.hold = s.hold) (hpass : t.engine.pass = s.engine.pass) (hdeferred : t.deferred = s.deferred) :
    s.keepsHold pw u := (keepsHold_beside hl hhold hpass hdeferred).trans h

/-- Line work keeps the law where no line gets unposted units. -/
theorem State.lineFrame.keepsHold {s t : State} (h : s.lineFrame t)
    (hl : ∀ i, (t.line i).unposted = true → (s.line i).unposted = true) : s.keepsHold pw t := by
  unfold State.lineFrame at h
  refine keepsHold_of_lines ?_ ?_ ?_ hl <;> rw [h]

theorem keepsHold_modLine (s : State) (i : LineId) {f : LineRec → LineRec}
    (h : (f (s.line i)).unposted = true → (s.line i).unposted = true) : s.keepsHold pw (s.modLine i f) := by
  refine (lineFrame_modLine s i f).keepsHold fun j hj => ?_
  by_cases e : i = j
  · subst e; exact h (by rwa [State.line_modLine] at hj)
  · rwa [State.line_modLine_ne _ _ e] at hj

/-- A change of a line that keeps its session part. -/
theorem keepsHold_keepSession (s : State) (i : LineId) {f : LineRec → LineRec}
    (h : (f (s.line i)).session = (s.line i).session) : s.keepsHold pw (s.modLine i f) :=
  keepsHold_modLine s i (by rw [LineRec.unposted, h]; exact id)

theorem keepsHold_mapLines (s : State) {f : LineId → LineRec → LineRec}
    (h : ∀ i, (f i (s.line i)).unposted = true → (s.line i).unposted = true) : s.keepsHold pw (s.mapLines f) :=
  (lineFrame_mapLines s f).keepsHold fun i hi => h i (by rwa [State.line_mapLines] at hi)

theorem LineRec.unposted_map {l : LineRec} {f : Session → Session}
    (h : ∀ x, l.session = some x → (f x).unpostedUnits = x.unpostedUnits)
    (hu : ({ l with session := l.session.map f } : LineRec).unposted = true) : l.unposted = true := by
  unfold LineRec.unposted at *
  cases e : l.session with
  | none => simp [e] at hu
  | some x => simpa [e, h x e] using hu

/-- A change of a session part that keeps its unposted units. -/
theorem keepsHold_keepUnits (s : State) (i : LineId) (f : Session → Session)
    (h : ∀ x, (f x).unpostedUnits = x.unpostedUnits) : s.keepsHold pw (s.modSession i f) :=
  keepsHold_modLine s i (LineRec.unposted_map fun x _ => h x)

/-- The session part of line i is replaced by one with the same unposted units. -/
theorem keepsHold_replaceSession {s t : State} {i : LineId} {x y : Session} (ht : t.lines = s.lines)
    (hx : s.session i = some x) (hy : y.unpostedUnits = x.unpostedUnits) :
    t.keepsHold pw (t.modSession i fun _ => y) :=
  keepsHold_modLine t i (LineRec.unposted_map fun z hz => by
    have hz : s.session i = some z := by rwa [State.session, State.line, ← ht]
    rw [hy, Option.some.inj (hx.symm.trans hz)])

theorem keepsHold_mapSessions (s : State) {f : LineId → Session → Session}
    (h : ∀ i x, (f i x).unpostedUnits = x.unpostedUnits) : s.keepsHold pw (s.mapSessions f) :=
  keepsHold_mapLines s fun i => LineRec.unposted_map fun x _ => h i x

/-- Sending changes marks of session parts at most. -/
theorem State.sendsOn.keepsHold {s t : State} (h : s.sendsOn t) (hframe : s.lineFrame t) : s.keepsHold pw t :=
  hframe.keepsHold fun i hi => by
    unfold LineRec.unposted at *
    cases hz : (t.line i).session with
    | none => simp [hz] at hi
    | some z =>
      obtain ⟨x, hx, hzx⟩ := (h.line i).session z hz
      rw [hz, hzx] at hi
      rw [hx]
      exact hi

/-! ### Latches, ports and the table -/

theorem keepsHold_setPort (s : State) (p : PortId) (u : PortUnit) : s.keepsHold pw (s.setPort p u) :=
  keepsHold_beside (s.setPort_lines p u) (s.setPort_hold p u) (congrArg Engine.pass (s.setPort_engine p u))
    (s.setPort_deferred p u)

theorem keepsHold_modPort (s : State) (p : PortId) (f : PortUnit → PortUnit) : s.keepsHold pw (s.modPort p f) :=
  keepsHold_setPort s p _

theorem keepsHold_latchT (s : State) (c : TCause) : s.keepsHold pw (latchT c s) := keepsHold_modPort s .t _
theorem keepsHold_latchA (s : State) (c : ACause) : s.keepsHold pw (latchA c s) := keepsHold_modPort s .a _

theorem keepsHold_latchCollision (s : State) (p : PortId) : s.keepsHold pw (latchCollision p s) :=
  keepsHold_modPort s p _

theorem keepsHold_startWatchTimer (s : State) : s.keepsHold pw (startWatchTimer s) :=
  keepsHold_ite (keepsHold_beside rfl rfl rfl rfl) (.refl s)

theorem keepsHold_complete (s : State) (p : PortId) (st : Status) (cl : Bool) (f : List Word) :
    s.keepsHold pw (complete p st cl f s) := by
  rw [complete_eq]
  exact (keepsHold_setPort s p _).beside rfl rfl rfl rfl

theorem keepsHold_refuse (s : State) (p : PortId) (st : Status) : s.keepsHold pw (refuse p st s) :=
  keepsHold_complete s p st false []

theorem keepsHold_arbitrate (s : State) : s.keepsHold pw (arbitrate s) := by
  rw [arbitrate_eq]; exact keepsHold_beside rfl rfl rfl rfl

theorem keepsHold_granted (c : Client) (s : State) : s.keepsHold pw (granted c s) := by
  rw [granted_eq]; exact keepsHold_beside rfl rfl rfl rfl

theorem keepsHold_takeInstall (x : Install) (s : State) : s.keepsHold pw (takeInstall x s) := by
  rw [takeInstall_eq]; exact keepsHold_beside rfl rfl rfl rfl

theorem keepsHold_makeInstalls (s : State) : s.keepsHold pw (makeInstalls s) := keepsHold_beside rfl rfl rfl rfl

theorem keepsHold_modAccount (s : State) (user : Nat) (f : Account → Account) : s.keepsHold pw (s.modAccount user f) :=
  keepsHold_beside rfl rfl rfl rfl

/-! ### Lines that rest or hang up, and the transmitter -/

theorem keepsHold_rejudge (s : State) : s.keepsHold pw (rejudge s) :=
  keepsHold_mapLines s fun i h => by rwa [LineRec.unposted, LineRec.rejudge_session] at h

theorem keepsHold_goRest (i : LineId) (s : State) : s.keepsHold pw (goRest i s) := keepsHold_keepSession s i rfl

theorem keepsHold_dropReservation (i : LineId) (s : State) : s.keepsHold pw (dropReservation i s) := by
  rw [dropReservation_eq]
  exact (keepsHold_keepSession s i (f := fun l => { l with reserved := false }) rfl).beside rfl rfl rfl rfl

theorem keepsHold_quitCheckQueue (i : LineId) (s : State) : s.keepsHold pw (quitCheckQueue i s) :=
  keepsHold_beside rfl rfl rfl rfl

theorem keepsHold_leaveCheckQueue (i : LineId) (s : State) : s.keepsHold pw (leaveCheckQueue i s) :=
  keepsHold_beside rfl rfl rfl rfl

theorem keepsHold_enterHangup (i : LineId) (s : State) : s.keepsHold pw (enterHangup i s) :=
  ((keepsHold_dropReservation i s).trans (keepsHold_quitCheckQueue i _)).trans
    (keepsHold_modLine _ i fun h => absurd h (by simp [LineRec.unposted, LineRec.hungUp]))

theorem keepsHold_hangup (i : LineId) (s : State) : s.keepsHold pw (hangup i s) :=
  (keepsHold_enterHangup i s).trans (keepsHold_rejudge _)

theorem keepsHold_kick (i : LineId) (s : State) : s.keepsHold pw (kick i s) :=
  (sendsOn_kick i s).keepsHold (lineFrame_kick s i)

/-- A choice on a line that sends nothing is what an idle transmitter does there (R42). -/
theorem keepsHold_choose {i : LineId} {s : State} (h : (s.line i).txChar = none) : s.keepsHold pw (choose i s) := by
  rw [show choose i s = kick i s by rw [kick, h]; rfl]
  exact keepsHold_kick i s

theorem keepsHold_requestMessage (i : LineId) (k : Nat) (s : State) : s.keepsHold pw (requestMessage i k s) :=
  (sendsOn_requestMessage i k s).keepsHold (lineFrame_requestMessage s i k)

theorem keepsHold_endClosing (i : LineId) (s : State) : s.keepsHold pw (endClosing i s) :=
  keepsHold_ite (.refl s) (keepsHold_hangup i s)

theorem keepsHold_enterClosing (i : LineId) (s : State) : s.keepsHold pw (enterClosing i s) :=
  (keepsHold_keepSession s i rfl).trans (keepsHold_kick i _)

theorem keepsHold_fundsWarning (spared : List LineId) (user : Nat) (s : State) :
    s.keepsHold pw (fundsWarning spared user s) :=
  (sendsOn_fundsWarning spared user s).keepsHold (lineFrame_fundsWarning s spared user)

/-! ### Close decisions and postings -/

theorem keepsHold_placeInput (e : InputEntry) (s : State) : s.keepsHold pw (placeInput e s) :=
  (keepsHold_latchT _ _).ofBeside rfl rfl rfl rfl

theorem keepsHold_closeDecision (r : CloseReason) (t : Stamp) (i : LineId) (s : State) :
    s.keepsHold pw (closeDecision r t i s) := by
  unfold closeDecision
  split
  · extract_lets s1 s2
    have h1 : s.keepsHold pw s1 := keepsHold_keepUnits s i _ fun _ => rfl
    have h2 : s.keepsHold pw s2 := keepsHold_ite (h1.trans (keepsHold_placeInput _ s1)) h1
    exact h2.trans (keepsHold_keepSession s2 i (LineRec.settleOutput_session r _))
  · exact .refl s

theorem keepsHold_writeRecord (r : Nat → BillingRecord) (s : State) : s.keepsHold pw (writeRecord r s) := by
  unfold writeRecord
  extract_lets b s1 s2
  have h2 : s.keepsHold pw s2 := (keepsHold_beside rfl rfl rfl rfl : s.keepsHold pw s1).trans (keepsHold_latchA s1 _)
  exact keepsHold_ite (h2.trans (keepsHold_latchA s2 _)) h2

theorem keepsHold_addStated (k : Config.Unstated) (x y : Nat) (s : State) : s.keepsHold pw (addStated k x y s).2 := by
  unfold addStated
  split
  · exact .refl s
  · exact keepsHold_beside rfl rfl rfl rfl

theorem State.diverting_iff (s : State) :
    s.diverting = true ↔ ¬ (s.hold.state = .none ∨ s.hold.state = .requested) := by
  unfold State.diverting
  cases s.hold.state <;> decide

/-- While charges are set aside the law asks for nothing but the pass (R102, R108). -/
theorem keepsHold_diverting {s t : State} (h : s.diverting = true) (hhold : t.hold = s.hold)
    (hpass : t.engine.pass = s.engine.pass) : s.keepsHold pw t :=
  keepsHold_of hhold hpass fun hplain => absurd hplain (s.diverting_iff.mp h)

/-- The account work of a close, given that the posting it may make keeps the law. -/
theorem keepsHold_accountWork {post : Nat → Nat → State → State}
    (hp : ∀ (user u : Nat) (s : State), s.keepsHold pw (post user u s)) (i : LineId) (s : State) :
    s.keepsHold pw (accountWork post i s) := by
  unfold accountWork
  split
  · exact .refl s
  · next x hx =>
    extract_lets up cu s1 x1 x2 kept s2 s3 s4 s5
    have h1 : s.keepsHold pw s1 ∧ s1.lines = s.lines := by
      unfold s1 cu
      split
      · exact ⟨keepsHold_addStated .., addStated_lines ..⟩
      · exact ⟨.refl s, rfl⟩
    have h3 : s1.keepsHold pw s3 := by
      by_cases hd : s1.diverting = true
      · have hframe : s1.workFrame s3 :=
          (workFrame_ite (workFrame_divertClose _ s1) (.refl s1)).trans (lineFrame_modSession s2 i _).work
        unfold State.workFrame at hframe
        refine keepsHold_diverting hd ?_ ?_ <;> rw [hframe]
      · have hkept : kept.unpostedUnits = x.unpostedUnits := by simp [kept, x2, x1, hd]
        have hs2 : s2 = s1 := if_neg hd
        unfold s3
        rw [hs2]
        exact keepsHold_replaceSession h1.2 hx hkept
    have h5 : s.keepsHold pw s5 := (((h1.1.trans h3).trans (keepsHold_writeRecord _ _)).trans
      (keepsHold_dropReservation i _)).trans (keepsHold_modAccount _ _ _)
    exact keepsHold_ite (h5.trans (hp _ _ _)) h5

theorem keepsHold_closeInAccess {post : Nat → Nat → State → State}
    (hp : ∀ (user u : Nat) (s : State), s.keepsHold pw (post user u s)) (r : CloseReason) (i : LineId) (s : State) :
    s.keepsHold pw (closeInAccess post r i s) := by
  unfold closeInAccess
  split
  · exact .refl s
  · have h := (keepsHold_closeDecision r s.clock.stamp i s).trans (keepsHold_accountWork (pw := pw) hp i _)
    exact keepsHold_ite (h.trans (keepsHold_enterClosing i _)) h

theorem keepsHold_exhaust (user : Nat) (s : State) : s.keepsHold pw (exhaust user s) :=
  keepsHold_mapSessions s fun i x => by split <;> rfl

theorem keepsHold_postLevels (n : Nat) (spared : List LineId) (user u : Nat) (s : State) :
    s.keepsHold pw (postLevels n spared user u s) := by
  induction n generalizing spared user u s with
  | zero => exact (keepsHold_modAccount s user _).trans (keepsHold_fundsWarning spared user _)
  | succ n ih =>
    unfold postLevels
    split
    · exact .refl s
    · extract_lets s1 zero close
      have h : s.keepsHold pw (exhaust user s1) := (keepsHold_modAccount s user _).trans (keepsHold_exhaust user s1)
      exact (h.trans (keepsHold_fold (fun s i => keepsHold_closeInAccess (ih _) .funds i s) _ _)).trans
        (keepsHold_fundsWarning spared user _)

theorem keepsHold_post (user u : Nat) (s : State) : s.keepsHold pw (post user u s) :=
  keepsHold_postLevels 33 [] user u s

theorem keepsHold_closeNow (r : CloseReason) (i : LineId) (s : State) : s.keepsHold pw (closeNow r i s) :=
  keepsHold_closeInAccess keepsHold_post r i s

theorem keepsHold_closeOutside (r : CloseReason) (i : LineId) (s : State) : s.keepsHold pw (closeOutside r i s) := by
  unfold closeOutside
  split
  · exact .refl s
  · extract_lets s1 s2 e s3
    have h2 : s.keepsHold pw s2 := (keepsHold_closeDecision r s.clock.stamp i s).trans
      (keepsHold_keepUnits s1 i _ fun _ => rfl)
    have h3 : s.keepsHold pw s3 := h2.beside rfl rfl rfl rfl
    exact keepsHold_ite (h3.trans (keepsHold_enterClosing i _)) h3

theorem keepsHold_creditPosting (user u : Nat) (s : State) : s.keepsHold pw (creditPosting user u s) :=
  (keepsHold_modAccount s user _).trans (keepsHold_mapSessions _ fun i x => by
    split
    · unfold State.relieve; repeat' split
      all_goals rfl
    · rfl)

/-- The sessions that a command closes in its access. -/
theorem keepsHold_closeMatching (r : CloseReason) (covers : Session → Bool) (s : State) :
    s.keepsHold pw (closeMatching r covers s).1 := by
  unfold closeMatching
  refine List.foldlRecOn (motive := fun acc : State × Nat => s.keepsHold pw acc.1) _ _ (.refl s) fun acc h i _ => ?_
  split
  · split
    · exact h.trans (keepsHold_closeNow r i _)
    · exact h
  · exact h

end

end Sys2Proof.Machine
end

section
/-! PROOFS. The law of the hold (R108): passes, the release, the watch, lines and commands keep it. -/

namespace Sys2Proof.Machine

section
variable {pw : Bool}

/-! ### Metering -/

/-- A second charged: with a pass begun in GRANTED the law has the hold GRANTED or RELEASING, and the units may be set
aside; else they are posted (R133, R134). -/
theorem keepsHold_chargeSecond (i : LineId) (t : Stamp) (s : State) : s.keepsHold pw (chargeSecond i t s) := by
  unfold chargeSecond
  split
  · exact .refl s
  · next x hx =>
    extract_lets total u cs cu s1 x1 y s2 s3
    have hl : s1.lines = s.lines := (addStated_lines _ _ _ cs.2).trans (addStated_lines _ _ _ s)
    have h1 : s.keepsHold pw s1 := (keepsHold_addStated _ _ _ s).trans (keepsHold_addStated _ _ _ cs.2)
    split
    · next hgranted =>
      refine h1.trans ⟨fun ⟨hplain, hrun⟩ => ⟨fun h => ?_, hrun⟩⟩
      exact absurd ((hplain h).2.symm.trans hgranted) (by decide)
    · have h2 : s.keepsHold pw s2 := h1.trans (keepsHold_replaceSession hl hx rfl)
      exact (h2.trans (keepsHold_modAccount s2 _ _)).trans (keepsHold_post _ _ s3)

theorem keepsHold_judgeIdle (i : LineId) (s : State) : s.keepsHold pw (judgeIdle i s).1 := by
  unfold judgeIdle
  split
  · exact .refl s
  · next x hx =>
    extract_lets x1 s1 c
    have h1 : s.keepsHold pw s1 :=
      keepsHold_replaceSession rfl ((s.openSession_iff i x).mp hx).1 (by unfold x1 Session.countIdle; split <;> rfl)
    split
    · exact h1.trans (keepsHold_closeNow _ i s1)
    · split
      · exact (h1.trans (keepsHold_keepUnits s1 i (fun x => { x with idleWarned := true }) fun _ => rfl)).trans
          (keepsHold_requestMessage i 11 _)
      · exact h1

theorem keepsHold_countGrace (i : LineId) (s : State) : s.keepsHold pw (countGrace i s).1 := by
  unfold countGrace
  split
  · exact .refl s
  · extract_lets g s1
    have h1 : s.keepsHold pw s1 := keepsHold_keepUnits s i _ fun _ => rfl
    split
    · exact h1.trans (keepsHold_closeNow _ i s1)
    · exact h1

theorem keepsHold_recompute (i : LineId) (t : Tick) (s : State) : s.keepsHold pw (recompute i t s) := by
  unfold recompute
  split
  · exact keepsHold_ite (keepsHold_keepUnits s i _ fun _ => rfl) (.refl s)
  · exact .refl s

theorem keepsHold_passAccess (i : LineId) (t : Tick) (s : State) : s.keepsHold pw (passAccess i t s).1 := by
  unfold passAccess
  extract_lets inGrace s1 j g
  have h1 : s.keepsHold pw j.1 := (keepsHold_chargeSecond i t.value.stamp s).trans (keepsHold_judgeIdle i s1)
  have hg : s.keepsHold pw g.1 := by
    unfold g
    split
    · exact h1.trans (keepsHold_countGrace i _)
    · exact h1
  exact hg.trans (keepsHold_recompute i t _)

theorem keepsHold_heldSecond (i : LineId) (s : State) : s.keepsHold pw (heldSecond i s) := by
  unfold heldSecond
  split
  · exact .refl s
  · exact (keepsHold_addStated _ _ _ s).trans (keepsHold_keepUnits _ i _ fun _ => rfl)

/-- The pass in progress changes, and goes on. -/
theorem keepsHold_pass {s t : State} (h : s.keepsHold pw t) (f : Pass → Pass) (a : Arbiter) :
    s.keepsHold pw { t with engine := { t.engine with pass := t.engine.pass.map f }, arbiter := a } :=
  h.trans ⟨fun ⟨hplain, hrun⟩ => ⟨hplain, fun hpw h => by simpa using hrun hpw h⟩⟩

theorem keepsHold_visitLines (t : Tick) (l : List LineId) (s : State) : s.keepsHold pw (visitLines t l s) := by
  induction l generalizing s with
  | nil => exact keepsHold_pass (.refl s) _ s.arbiter
  | cons i l ih =>
    unfold visitLines
    split
    · split
      · exact keepsHold_pass (.refl s) _ s.arbiter
      · split
        · exact (keepsHold_heldSecond i s).trans (ih _)
        · exact ih s
    · exact ih s

/-- With the pass its record of having begun in GRANTED ends (R97, R129). -/
theorem keepsHold_endPass (s : State) : s.keepsHold pw (endPass s) :=
  keepsHold_ite ⟨fun ⟨hplain, _⟩ => ⟨fun h => ⟨(hplain h).1, rfl⟩, fun _ h => absurd h Bool.false_ne_true⟩⟩ (.refl s)

theorem keepsHold_visit (s : State) : s.keepsHold pw (visit s) := by
  unfold visit
  split
  · exact .refl s
  · next p _ => exact (keepsHold_visitLines p.tick _ s).trans (keepsHold_endPass _)

/-- A pass that starts in GRANTED is recorded so, and one that starts in another hold state is not (R129). -/
theorem keepsHold_passBegun (s : State) (p : Pass) (a : Arbiter) :
    s.keepsHold pw { s with
      engine := { s.engine with pass := some p }
      hold := { s.hold with passInGranted := s.hold.state == .granted }, arbiter := a } := by
  refine ⟨fun ⟨hplain, _⟩ => ⟨fun h => ⟨(hplain h).1, ?_⟩, fun _ _ => rfl⟩⟩
  replace h : s.hold.state = .none ∨ s.hold.state = .requested := h
  show (s.hold.state == .granted) = false
  rcases h with h | h <;> rw [h] <;> rfl

theorem keepsHold_startPass (t : Tick) (s : State) : s.keepsHold pw (startPass t s) :=
  (keepsHold_passBegun s ⟨t, 0⟩ _).trans (keepsHold_visit _)

theorem keepsHold_startRemembered (s : State) : s.keepsHold pw (startRemembered s) := by
  unfold startRemembered
  split
  · exact keepsHold_ite (.refl s) ((keepsHold_startPass _ _).ofBeside rfl rfl rfl rfl)
  · exact .refl s

theorem keepsHold_takeTick (s : State) : s.keepsHold pw (takeTick s) := by
  unfold takeTick
  extract_lets t e s1
  have h1 : s.keepsHold pw s1 := keepsHold_beside rfl rfl rfl rfl
  have hlose : s1.keepsHold pw (loseTick s1) := keepsHold_mapSessions s1 fun _ x => by split <;> rfl
  exact keepsHold_ite (h1.trans hlose)
    (keepsHold_ite (h1.beside rfl rfl rfl rfl) (h1.trans (keepsHold_startPass t s1)))

/-! ### The release, the table given back, and passes that go on -/

/-- The release ends with nothing set aside and no pass in progress, so that none begun in GRANTED is (R108). -/
theorem keepsHold_settleRelease (s : State) : s.keepsHold true (settleRelease s) := by
  rcases settleRelease_cases s with ⟨-, -, hpass, haside, h⟩ | ⟨h, -⟩ <;> rw [h]
  · refine ⟨fun ⟨_, hrun⟩ => ⟨fun _ => ⟨haside, ?_⟩, hrun⟩⟩
    rw [← Bool.not_eq_true]
    intro hgranted
    have hsome := hrun rfl hgranted
    rw [hpass] at hsome
    contradiction
  · exact .refl s

/-- A hold that becomes GRANTED or RELEASING: the law asks for nothing but the pass. -/
theorem keepsHold_held (s : State) (st : HoldState) (h : st ≠ .none ∧ st ≠ .requested) (timer : Timer) :
    s.keepsHold pw { s with hold := { s.hold with state := st, timer := timer } } :=
  ⟨fun ⟨_, hrun⟩ => ⟨fun hst => absurd hst (not_or.mpr h), hrun⟩⟩

theorem keepsHold_beginRelease (s : State) : s.keepsHold true (beginRelease s) :=
  (keepsHold_held s .releasing (by decide) _).trans (keepsHold_settleRelease _)

theorem keepsHold_limitOver (s : State) : s.keepsHold true (limitOver s) :=
  keepsHold_ite ((keepsHold_latchA s _).trans (keepsHold_beginRelease _)) (.refl s)

theorem keepsHold_giveBack (s : State) : s.keepsHold true (giveBack s) :=
  (((keepsHold_limitOver _).trans (keepsHold_settleRelease _)).trans (keepsHold_arbitrate _)).ofBeside rfl rfl rfl rfl

theorem keepsHold_passOn (s : State) : s.keepsHold true (passOn s) :=
  ((keepsHold_visit s).trans (keepsHold_startRemembered _)).trans (keepsHold_settleRelease _)

theorem keepsHold_afterAccess (s : State) : s.keepsHold true (afterAccess s) :=
  (((keepsHold_pass (.refl s) _ _).trans (keepsHold_limitOver _)).trans (keepsHold_passOn _)).trans
    (keepsHold_arbitrate _)

/-- A posting of the release is made where something was set aside, and the law then asks for nothing but the pass
(R107). -/
theorem keepsHold_releaseStep (s : State) : s.keepsHold pw (releaseStep s) := by
  unfold releaseStep
  split
  · next e rest h =>
    have htake : s.keepsHold pw { s with deferred := rest } := keepsHold_of rfl rfl fun _ hno => by
      have hempty := (s.setAside_eq_false.mp hno).1
      rw [h] at hempty
      contradiction
    exact htake.trans (keepsHold_post _ _ _)
  · split
    · exact .refl s
    · split
      · exact .refl s
      · refine (keepsHold_modLine s _ fun h => ?_).trans (keepsHold_post _ _ _)
        exact absurd h (by simp [LineRec.unposted, Option.any_map])

theorem keepsHold_clockTick (s : State) : s.keepsHold true (clockTick s) :=
  keepsHold_ite
    (((keepsHold_passOn s).beside (u := advanceClock (passOn s)) rfl rfl rfl rfl).trans (keepsHold_takeTick _))
    (keepsHold_beside rfl rfl rfl rfl)

theorem keepsHold_payDueList (s : State) : s.keepsHold pw (payDueList s) := by
  unfold payDueList
  extract_lets s1
  have h1 : s.keepsHold pw s1 := keepsHold_fold (fun s (e : DueEntry) => keepsHold_modAccount s e.user _) _ s
  exact h1.beside rfl rfl rfl rfl

theorem keepsHold_payUnpostedSeconds (i : LineId) (s : State) : s.keepsHold pw (payUnpostedSeconds i s) := by
  unfold payUnpostedSeconds
  split
  · exact .refl s
  · exact (keepsHold_modAccount s _ _).trans (keepsHold_keepUnits _ i _ fun _ => rfl)

theorem keepsHold_payDue (s : State) : s.keepsHold pw (payDue s) := by
  unfold payDue
  extract_lets s1
  have h1 : s.keepsHold pw s1 := (keepsHold_payDueList s).trans (keepsHold_forLines keepsHold_payUnpostedSeconds _)
  clear_value s1
  exact h1.beside rfl rfl rfl rfl

theorem keepsHold_closeWorkAccess (s : State) : s.keepsHold pw (closeWorkAccess s) := by
  unfold closeWorkAccess
  split
  · exact .refl s
  · next i rest _ =>
    extract_lets e s1 s2
    have h1 : s.keepsHold pw s1 := keepsHold_beside rfl rfl rfl rfl
    have h2 : s.keepsHold pw s2 := h1.trans (keepsHold_accountWork keepsHold_post i s1)
    split
    · split
      · exact h2.trans (keepsHold_hangup i s2)
      · exact h2.trans (keepsHold_kick i s2)
      · exact h2
    · exact h1

theorem keepsHold_serveCloseWork (s : State) : s.keepsHold pw (serveCloseWork s) :=
  keepsHold_fold (fun s _ => keepsHold_closeWorkAccess s) _ s

theorem keepsHold_passStep (s : State) : s.keepsHold true (passStep s).1 := by
  unfold passStep
  extract_lets s1
  have h1 : s.keepsHold true s1 := keepsHold_passOn s
  split
  · exact h1
  · next p _ =>
    split
    · exact h1
    · next i _ =>
      split
      · exact (h1.trans (keepsHold_passAccess i p.tick s1)).trans (keepsHold_afterAccess _)
      · exact h1

theorem keepsHold_passStepOn (i : LineId) (hit : PassNote → Bool) (s : State) :
    s.keepsHold true (passStepOn i hit s) := by
  unfold passStepOn
  split
  · exact keepsHold_ite (keepsHold_passStep s) (.refl s)
  · exact .refl s

theorem keepsHold_closeWorkGranted (s : State) : s.keepsHold true (closeWorkGranted s) :=
  keepsHold_ite ((keepsHold_closeWorkAccess s).trans (keepsHold_giveBack _)) (.refl s)

/-! ### The hold -/

theorem keepsHold_grantHold (s : State) : s.keepsHold pw (grantHold s) :=
  ((keepsHold_held s .granted (by decide) _).trans (keepsHold_latchA _ _)).trans (keepsHold_arbitrate _)

theorem keepsHold_holdGrantOn (s : State) : s.keepsHold true (holdGrantOn s) :=
  keepsHold_ite ((keepsHold_passOn s).trans (keepsHold_grantHold _)) (.refl s)

theorem keepsHold_holdLimitOver (s : State) : s.keepsHold true (holdLimitOver s) :=
  keepsHold_ite (keepsHold_limitOver s) (.refl s)

theorem keepsHold_releasePostingOn (s : State) : s.keepsHold true (releasePostingOn s) :=
  keepsHold_ite (((keepsHold_passOn s).trans (keepsHold_releaseStep _)).trans (keepsHold_settleRelease _))
    (keepsHold_passOn s)

theorem keepsHold_secondsDueOn (s : State) : s.keepsHold true (secondsDueOn s) :=
  keepsHold_ite (((keepsHold_payDue s).trans (keepsHold_startRemembered _)).trans (keepsHold_arbitrate _)) (.refl s)

/-! ### The watch -/

theorem keepsHold_lineDown (i : LineId) (s : State) : s.keepsHold pw (lineDown i s) := by
  unfold lineDown
  split
  · exact keepsHold_hangup i s
  · exact keepsHold_hangup i s
  · exact ((keepsHold_quitCheckQueue i s).trans
      (keepsHold_keepSession _ i (f := fun l => { l with signOn := none, txItem := none, closingSlot := some 8 })
        rfl)).trans (keepsHold_enterClosing i _)
  · exact .refl s

theorem keepsHold_watchDown (s : State) : s.keepsHold pw (watchDown s) := by
  unfold watchDown
  extract_lets w s1 s2
  have h1 : s.keepsHold pw s1 := keepsHold_beside rfl rfl rfl rfl
  have h2 : s.keepsHold pw s2 := h1.trans (keepsHold_mapSessions s1 fun _ x => by unfold Session.hold; split <;> rfl)
  exact ((((h2.trans (keepsHold_rejudge s2)).trans (keepsHold_forLines keepsHold_lineDown _)).trans
    (keepsHold_rejudge _)).trans (keepsHold_latchA _ _)).trans (keepsHold_arbitrate _)

theorem keepsHold_resumeLine (i : LineId) (s : State) : s.keepsHold pw (resumeLine i s) := by
  unfold resumeLine
  split
  · exact .refl s
  · next x hx =>
    have hresumed : ∀ y : Session, y.unpostedUnits = x.unpostedUnits → s.keepsHold pw (s.modSession i fun _ => y) :=
      fun _ => keepsHold_replaceSession rfl hx
    split
    · exact .refl s
    · extract_lets y s1
      split
      · exact hresumed _ rfl
      · split
        · exact keepsHold_ite ((hresumed (s.enterGrace y) rfl).trans (keepsHold_closeOutside _ i s1)) (hresumed _ rfl)
        · exact hresumed _ rfl

theorem keepsHold_watchUp (s : State) : s.keepsHold pw (watchUp s) :=
  (((keepsHold_forLines keepsHold_resumeLine _).trans (keepsHold_latchA _ _)).trans
    (keepsHold_rejudge _)).ofBeside rfl rfl rfl rfl

theorem keepsHold_takenByWatch (s : State) : s.keepsHold pw (takenByWatch s) :=
  keepsHold_ite ((keepsHold_watchUp _).ofBeside rfl rfl rfl rfl) (keepsHold_beside rfl rfl rfl rfl)

theorem keepsHold_watchTimerOver (s : State) : s.keepsHold pw (watchTimerOver s) :=
  keepsHold_ite (keepsHold_watchDown s) (.refl s)

theorem keepsHold_holdDownOver (s : State) : s.keepsHold pw (holdDownOver s) :=
  (keepsHold_forLines (fun i s => keepsHold_ite (keepsHold_closeOutside _ i s) (.refl s)) _).ofBeside rfl rfl rfl rfl

theorem keepsHold_holdDownExpired (s : State) : s.keepsHold pw (holdDownExpired s) :=
  keepsHold_ite (keepsHold_holdDownOver s) (.refl s)

/-! ### Line events -/

theorem keepsHold_scanAll (ring carrier : BitVec 32) (s : State) : s.keepsHold pw (scanAll ring carrier s) := by
  unfold scanAll
  extract_lets s1
  have h1 : s.keepsHold pw s1 :=
    keepsHold_mapLines s fun i h => by rwa [LineRec.unposted, LineRec.scan_session] at h
  exact ⟨h1.keeps⟩

theorem keepsHold_takeReport (i : LineId) (f : Reports → Reports) (s : State) : s.keepsHold pw (takeReport i f s) :=
  keepsHold_keepSession s i rfl

theorem keepsHold_answer (i : LineId) (s : State) : s.keepsHold pw (answer i s) := by
  unfold answer
  extract_lets wait b s1
  have h1 : s.keepsHold pw s1 := keepsHold_beside rfl rfl rfl rfl
  refine keepsHold_ite (h1.trans (State.keepsHold.trans ?_ (keepsHold_rejudge _))) (keepsHold_keepSession s i rfl)
  exact keepsHold_keepSession s1 i rfl

theorem keepsHold_ringOn (i : LineId) (s : State) : s.keepsHold pw (ringOn i s) := by
  unfold ringOn
  extract_lets count s1
  have h1 : s.keepsHold pw s1 := keepsHold_keepSession s i rfl
  exact keepsHold_ite (h1.trans (keepsHold_answer i s1)) h1

theorem keepsHold_qualifiedRingOn (i : LineId) (s : State) : s.keepsHold pw (qualifiedRingOn i s) := by
  unfold qualifiedRingOn
  extract_lets s1
  have h1 : s.keepsHold pw s1 := keepsHold_takeReport i _ s
  split
  · split
    · exact h1.trans (keepsHold_ringOn i s1)
    · exact h1.trans (keepsHold_ringOn i s1)
    · exact h1
  · exact .refl s

theorem keepsHold_ringGapOver (i : LineId) (s : State) : s.keepsHold pw (ringGapOver i s) :=
  keepsHold_ite (keepsHold_keepSession s i rfl) (.refl s)

theorem keepsHold_carrierPresentOn (i : LineId) (s : State) : s.keepsHold pw (carrierPresentOn i s) := by
  unfold carrierPresentOn
  extract_lets s1
  have h1 : s.keepsHold pw s1 := keepsHold_takeReport i _ s
  exact keepsHold_ite (keepsHold_ite (h1.trans (keepsHold_keepSession s1 i rfl)) h1) (.refl s)

theorem keepsHold_phaseOver (st : LineState) (i : LineId) (s : State) : s.keepsHold pw (phaseOver st i s) :=
  keepsHold_ite (keepsHold_hangup i s) (.refl s)

theorem keepsHold_loseCarrier (i : LineId) (s : State) : s.keepsHold pw (loseCarrier i s) := by
  unfold loseCarrier
  split
  · exact keepsHold_hangup i s
  · exact keepsHold_hangup i s
  · exact keepsHold_closeOutside _ i s
  · exact (keepsHold_keepSession s i rfl).trans (keepsHold_endClosing i _)
  · exact .refl s

theorem keepsHold_carrierLossOn (i : LineId) (s : State) : s.keepsHold pw (carrierLossOn i s) :=
  keepsHold_ite ((keepsHold_takeReport i _ s).trans (keepsHold_loseCarrier i _)) (.refl s)

theorem keepsHold_enterFaulted (i : LineId) (k : FaultKind) (s : State) : s.keepsHold pw (enterFaulted i k s) :=
  (keepsHold_keepSession s i rfl).trans (keepsHold_latchT _ _)

theorem keepsHold_stuckCarrierOn (i : LineId) (s : State) : s.keepsHold pw (stuckCarrierOn i s) :=
  keepsHold_ite (keepsHold_ite ((keepsHold_takeReport i _ s).trans (keepsHold_enterFaulted i _ _))
    (keepsHold_takeReport i _ s)) (.refl s)

theorem keepsHold_ringStuckOn (i : LineId) (s : State) : s.keepsHold pw (ringStuckOn i s) :=
  keepsHold_ite (keepsHold_ite ((keepsHold_takeReport i _ s).trans (keepsHold_enterFaulted i _ _))
    (keepsHold_takeReport i _ s)) (.refl s)

theorem keepsHold_enterSignOn (i : LineId) (sp : Fin 8) (s : State) : s.keepsHold pw (enterSignOn i sp s) :=
  (keepsHold_keepSession s i rfl).trans (keepsHold_kick i _)

theorem keepsHold_speedMeasuredOn (i : LineId) (ticks : Nat) (s : State) :
    s.keepsHold pw (speedMeasuredOn i ticks s) := by
  refine keepsHold_ite ?_ (.refl s)
  unfold measured
  split
  · exact (keepsHold_keepSession s i (f := fun l => { l with markWait := true }) rfl).trans
      (keepsHold_enterSignOn i _ _)
  · exact keepsHold_ite (keepsHold_hangup i s) (keepsHold_keepSession s i rfl)

theorem keepsHold_guardOver (i : LineId) (s : State) : s.keepsHold pw (guardOver i s) :=
  keepsHold_ite ((keepsHold_keepSession s i (f := fun l => { l with phaseTimer := none }) rfl).trans
    (keepsHold_goRest i _)) (.refl s)

theorem keepsHold_clearFaultOn (i : LineId) (s : State) : s.keepsHold pw (clearFaultOn i s) :=
  (keepsHold_keepSession s i rfl).trans (keepsHold_goRest i _)

theorem keepsHold_leaveTest (i : LineId) (abandoned : Bool) (s : State) : s.keepsHold pw (leaveTest i abandoned s) := by
  unfold leaveTest
  split
  · exact .refl s
  · extract_lets s1
    have h1 : s.keepsHold pw s1 := keepsHold_keepSession s i rfl
    exact keepsHold_ite
      (keepsHold_ite (h1.trans (keepsHold_clearFaultOn i s1)) (h1.trans (keepsHold_keepSession s1 i rfl)))
      (h1.trans (keepsHold_goRest i s1))

theorem keepsHold_endTest (i : LineId) (s : State) : s.keepsHold pw (endTest i s) := by
  unfold endTest
  split
  · exact .refl s
  · exact (keepsHold_leaveTest i false s).trans (keepsHold_complete _ .t .ok false _)

theorem keepsHold_lineTestEnded (i : LineId) (s : State) : s.keepsHold pw (lineTestEnded i s) :=
  keepsHold_ite (keepsHold_endTest i s) (.refl s)

/-! ### The sign-on dialog -/

theorem keepsHold_characterEnded (i : LineId) (s : State) : s.keepsHold pw (characterEnded i s) :=
  keepsHold_ite ((keepsHold_keepSession s i (f := fun l => { l with txChar := none }) rfl).trans
    (keepsHold_choose (by rw [State.line_modLine]))) (.refl s)

theorem keepsHold_modSignOn (i : LineId) (f : SignOnPart → SignOnPart) (s : State) : s.keepsHold pw (s.modSignOn i f) :=
  keepsHold_keepSession s i rfl



theorem keepsHold_badAttempt (i : LineId) (s : State) : s.keepsHold pw (badAttempt i s) :=
  (keepsHold_modSignOn i _ s).trans (keepsHold_kick i _)

theorem keepsHold_refuseCaller (i : LineId) (slot : Nat) (s : State) : s.keepsHold pw (refuseCaller i slot s) :=
  (keepsHold_modSignOn i _ s).trans (keepsHold_kick i _)

theorem keepsHold_passEnd (i : LineId) (part : SignOnPart) (s : State) : s.keepsHold pw (passEnd i part s) := by
  unfold passEnd
  extract_lets user s1
  have h1 : s.keepsHold pw s1 := keepsHold_modSignOn i _ s
  exact keepsHold_ite (keepsHold_badAttempt i s) (h1.trans ((keepsHold_arbitrate _).ofBeside rfl rfl rfl rfl))

theorem keepsHold_signOnChar (i : LineId) (data : Byte) (framing : Bool) (s : State) :
    s.keepsHold pw (signOnChar i data framing s) := by
  unfold signOnChar
  split
  · exact .refl s
  · refine keepsHold_ite (.refl s) ?_
    extract_lets c
    split
    · exact (keepsHold_modSignOn i _ s).trans (keepsHold_kick i _)
    · exact keepsHold_ite (keepsHold_passEnd i _ s) (keepsHold_modSignOn i _ s)
    · exact .refl s
    · exact .refl s

theorem keepsHold_signOnOver (i : LineId) (s : State) : s.keepsHold pw (signOnOver i s) :=
  keepsHold_ite (keepsHold_hangup i s) (.refl s)

/-! ### Enables and RESTART's line work -/

theorem keepsHold_disableLine (i : LineId) (s : State) : s.keepsHold pw (disableLine i s) := by
  unfold disableLine
  split
  case h_1 | h_2 | h_3 | h_4 => exact keepsHold_hangup i s
  case h_5 => exact keepsHold_closeOutside _ i s
  case h_6 => exact .refl s

theorem keepsHold_actOnEnables (before after : State) : after.keepsHold pw (actOnEnables before after) :=
  (keepsHold_forLines (fun i s => keepsHold_ite (keepsHold_disableLine i s) (.refl s)) after).trans
    (keepsHold_rejudge _)

theorem keepsHold_restartLine (i : LineId) (s : State) : s.keepsHold pw (restartLine i s) := by
  unfold restartLine
  split
  case h_1 | h_2 | h_3 | h_4 | h_5 | h_6 => exact keepsHold_enterHangup i s
  case h_7 => exact keepsHold_leaveTest i true s
  all_goals exact .refl s

theorem keepsHold_clearTransport (s : State) : s.keepsHold pw (clearTransport s) := by
  unfold clearTransport
  extract_lets s1
  have h1 : s.keepsHold pw s1 := keepsHold_mapLines s fun _ h => h
  exact h1.beside rfl rfl rfl rfl

theorem keepsHold_restartLineWork (s : State) : s.keepsHold pw (restartLineWork s) := by
  unfold restartLineWork
  extract_lets testing w s1 s2 s3
  have h1 : s.keepsHold pw s1 := keepsHold_beside rfl rfl rfl rfl
  have h2 : s.keepsHold pw s2 :=
    (h1.trans (keepsHold_forLines keepsHold_restartLine s1)).trans (keepsHold_clearTransport _)
  have h3 : s.keepsHold pw s3 := keepsHold_ite (h2.trans (keepsHold_refuse s2 _ _)) h2
  exact h3.trans (keepsHold_rejudge s3)

/-! ### Commands with table work -/

theorem keepsHold_addResource (user units serial : Nat) (s : State) :
    s.keepsHold pw (addResource user units serial s) :=
  keepsHold_ite (.refl s) (keepsHold_mapSessions s fun _ x => by split <;> rfl)

/-- POST CHARGE defers its charge in GRANTED alone (R103). -/
theorem keepsHold_workPostCharge (p : PortId) (user units serial : Nat) (s : State) :
    s.keepsHold pw (workPostCharge p user units serial s) := by
  unfold workPostCharge
  split
  · exact keepsHold_refuse s p _
  · refine keepsHold_ite (keepsHold_refuse s p _) ?_
    split
    · next hgranted =>
      refine keepsHold_ite (keepsHold_refuse s p _) ?_
      have hdefer : s.keepsHold pw { s with deferred := s.deferred ++ [⟨user, units, .tCharge⟩] } :=
        keepsHold_diverting (by simp [State.diverting, hgranted]) rfl rfl
      exact (hdefer.trans (keepsHold_addResource user units serial _)).trans (keepsHold_complete _ p _ _ _)
    · exact ((keepsHold_addResource user units serial s).trans (keepsHold_post user units _)).trans
        (keepsHold_complete _ p _ _ _)

theorem keepsHold_workLogoff (p : PortId) (i : LineId) (serial : Nat) (s : State) :
    s.keepsHold pw (workLogoff p i serial s) := by
  unfold workLogoff
  split
  · exact keepsHold_refuse s p _
  · exact (((keepsHold_closeDecision .logoff s.clock.stamp i s).trans (keepsHold_accountWork keepsHold_post i _)).trans
      (keepsHold_enterClosing i _)).trans (keepsHold_complete _ p _ _ _)

theorem keepsHold_workRestart (p : PortId) (s : State) : s.keepsHold pw (workRestart p s) :=
  ((((((keepsHold_serveCloseWork s).trans (keepsHold_closeMatching _ _ _)).trans (keepsHold_restartLineWork _)).trans
    (keepsHold_complete _ p _ _ _)).trans (keepsHold_latchA _ _)).trans (keepsHold_latchT _ _)).trans
    (keepsHold_startWatchTimer _)

theorem keepsHold_workSuspend (p : PortId) (user : Nat) (logout : Bool) (s : State) :
    s.keepsHold pw (workSuspend p user logout s) := by
  unfold workSuspend
  split
  · exact keepsHold_refuse s p _
  · extract_lets s1 r
    have h1 : s.keepsHold pw s1 := keepsHold_modAccount s user _
    have hr : s.keepsHold pw r.1 := by
      unfold r
      split
      · exact h1.trans (keepsHold_closeMatching _ _ s1)
      · exact h1
    exact hr.trans (keepsHold_complete _ p _ _ _)

theorem keepsHold_workAccountAdd (p : PortId) (user : Nat) (cls : Fin 4) (check limit : Nat) (balance : Int)
    (s : State) :
    s.keepsHold pw (workAccountAdd p user cls check limit balance s) :=
  keepsHold_ite (keepsHold_refuse s p _) (keepsHold_ite (keepsHold_refuse s p _)
    ((keepsHold_complete _ p _ _ _).ofBeside rfl rfl rfl rfl))

theorem keepsHold_workAccountSet (p : PortId) (user : Nat) (cls : Fin 4) (check limit : Nat) (s : State) :
    s.keepsHold pw (workAccountSet p user cls check limit s) := by
  unfold workAccountSet
  split
  · exact keepsHold_refuse s p _
  · exact (keepsHold_modAccount s user _).trans (keepsHold_complete _ p _ _ _)

theorem keepsHold_workAccountDelete (p : PortId) (user : Nat) (s : State) :
    s.keepsHold pw (workAccountDelete p user s) := by
  unfold workAccountDelete
  split
  · exact keepsHold_refuse s p _
  · exact keepsHold_ite (keepsHold_refuse s p _) ((keepsHold_complete _ p _ _ _).ofBeside rfl rfl rfl rfl)

theorem keepsHold_workCredit (p : PortId) (user amount : Nat) (s : State) :
    s.keepsHold pw (workCredit p user amount s) := by
  unfold workCredit
  split
  · exact keepsHold_refuse s p _
  · exact (keepsHold_creditPosting user amount s).trans (keepsHold_complete _ p _ _ _)

theorem keepsHold_workDebit (p : PortId) (user amount : Nat) (s : State) :
    s.keepsHold pw (workDebit p user amount s) := by
  unfold workDebit
  split
  · exact keepsHold_refuse s p _
  · exact (keepsHold_post user amount s).trans (keepsHold_complete _ p _ _ _)

theorem keepsHold_workResume (p : PortId) (user : Nat) (s : State) : s.keepsHold pw (workResume p user s) := by
  unfold workResume
  split
  · exact keepsHold_refuse s p _
  · exact (keepsHold_modAccount s user _).trans (keepsHold_complete _ p _ _ _)

theorem keepsHold_workUnlock (p : PortId) (user : Nat) (s : State) : s.keepsHold pw (workUnlock p user s) := by
  unfold workUnlock
  split
  · exact keepsHold_refuse s p _
  · exact (keepsHold_modAccount s user _).trans (keepsHold_complete _ p _ _ _)

theorem keepsHold_workReadAccount (p : PortId) (user : Nat) (s : State) :
    s.keepsHold pw (workReadAccount p user s) := by
  unfold workReadAccount
  split
  · exact keepsHold_refuse s p _
  · exact keepsHold_complete s p _ _ _

theorem keepsHold_workSweep (p : PortId) (after : Nat) (s : State) : s.keepsHold pw (workSweep p after s) := by
  unfold workSweep
  split
  · exact keepsHold_refuse s p _
  · exact keepsHold_complete s p _ _ _

theorem keepsHold_workClosePeriod (p : PortId) (s : State) : s.keepsHold pw (workClosePeriod p s) :=
  keepsHold_ite ((keepsHold_complete _ p _ _ _).ofBeside rfl rfl rfl rfl) (keepsHold_refuse s p _)

theorem keepsHold_workShutdown (p : PortId) (s : State) : s.keepsHold pw (workShutdown p s) :=
  (keepsHold_closeMatching _ _ s).trans (keepsHold_complete _ p _ _ _)

/-- No access of a command unit opens a session, and a close in it places one mark for the session that it closes. -/
theorem keepsHold_commandAccess (p : PortId) (c : Instr) (s : State) : s.keepsHold pw (commandAccess p c s) := by
  unfold commandAccess
  split
  case h_1 =>
    split
    · exact keepsHold_workAccountAdd p _ _ _ _ _ s
    · exact keepsHold_refuse s p _
  case h_2 =>
    split
    · exact keepsHold_workAccountSet p _ _ _ _ s
    · exact keepsHold_refuse s p _
  case h_3 => exact keepsHold_workAccountDelete p _ s
  case h_4 => exact keepsHold_workCredit p _ _ s
  case h_5 => exact keepsHold_workDebit p _ _ s
  case h_6 => exact keepsHold_workSuspend p _ _ s
  case h_7 => exact keepsHold_workResume p _ s
  case h_8 => exact keepsHold_workUnlock p _ s
  case h_9 => exact keepsHold_workReadAccount p _ s
  case h_10 => exact keepsHold_workSweep p _ s
  case h_11 => exact keepsHold_workClosePeriod p s
  case h_12 =>
    split
    · exact keepsHold_workLogoff p _ _ s
    · exact keepsHold_refuse s p _
  case h_13 => exact keepsHold_workShutdown p s
  case h_14 => exact keepsHold_workPostCharge p _ _ _ s
  case h_15 => exact keepsHold_workRestart p s
  case h_16 => exact .refl s

theorem keepsHold_serve (p : PortId) (s : State) : s.keepsHold true (serve p s) := by
  unfold serve
  split
  · exact ((keepsHold_granted _ s).trans (keepsHold_commandAccess p _ _)).trans (keepsHold_giveBack _)
  · exact keepsHold_giveBack s

theorem keepsHold_serveNext (p : PortId) (s : State) : s.keepsHold true (serveNext p s) :=
  keepsHold_ite (keepsHold_serve p s) (.refl s)

theorem keepsHold_serveGranted (s : State) : s.keepsHold true (serveGranted s) := by
  unfold serveGranted
  split
  · exact keepsHold_serve _ s
  · exact .refl s

/-! ### GO and whole commands -/

theorem keepsHold_endOther (q : PortId) (s : State) : s.keepsHold true (endOther q s) := by
  unfold endOther
  split
  · exact keepsHold_ite
      (((keepsHold_commandAccess q _ s).trans (keepsHold_refuse _ q _)).trans (keepsHold_giveBack _))
      (keepsHold_refuse s q _)
  · exact keepsHold_refuse s q _
  · exact .refl s

/-- A hold withdrawn, or asked for, before anything could be set aside (R98, R109). -/
theorem keepsHold_ungranted {s : State} (h : s.hold.state = .none ∨ s.hold.state = .requested) (st : HoldState)
    (limit : Option Nat) (a : Arbiter) :
    s.keepsHold pw { s with hold := { s.hold with state := st, limit := limit }, arbiter := a } :=
  ⟨fun ⟨hplain, hrun⟩ => ⟨fun _ => hplain h, hrun⟩⟩

theorem keepsHold_restartHold (s : State) : s.keepsHold true (restartHold s) := by
  unfold restartHold
  split
  · exact .refl s
  · exact .refl s
  · next h => exact keepsHold_ungranted (.inr h) _ _ _
  · exact (keepsHold_latchA s _).trans (keepsHold_beginRelease _)

theorem keepsHold_askAccess (p : PortId) (c : Instr) (s : State) : s.keepsHold pw (askAccess p c s) :=
  (keepsHold_modPort s p _).trans (keepsHold_arbitrate _)

theorem keepsHold_taken (p : PortId) (s : State) : s.keepsHold pw (taken p s) := by
  cases p
  · exact keepsHold_takenByWatch s
  · exact .refl s

theorem keepsHold_startCommand (p : PortId) (c : Instr) (s : State) : s.keepsHold true (startCommand p c s) := by
  unfold startCommand
  extract_lets s1
  have h1 : s.keepsHold true s1 := (keepsHold_modPort s p _).trans (keepsHold_taken p _)
  have hrestart : s1.keepsHold true (takeRestart p c s1) :=
    ((keepsHold_endOther p.other s1).trans (keepsHold_restartHold _)).trans (keepsHold_askAccess p c _)
  exact h1.trans (keepsHold_ite (keepsHold_refuse s1 p _) (keepsHold_ite hrestart
    (keepsHold_ite (keepsHold_ite (keepsHold_askAccess p c s1) (keepsHold_refuse s1 p _)) (.refl s1))))

theorem keepsHold_goAt (p : PortId) (s : State) : s.keepsHold true (goAt p s) := by
  unfold goAt
  refine keepsHold_ite (.refl s) ?_
  split
  · exact keepsHold_latchCollision s p
  · exact keepsHold_latchCollision s p
  · exact keepsHold_latchCollision s p
  · refine keepsHold_ite (keepsHold_modPort s p _) ?_
    split
    · exact keepsHold_modPort s p _
    · exact keepsHold_ite (keepsHold_startCommand p _ s) (keepsHold_modPort s p _)

theorem keepsHold_dataWriteAt (p : PortId) (w : Word) (s : State) : s.keepsHold pw (dataWriteAt p w s) := by
  unfold dataWriteAt
  extract_lets u
  refine keepsHold_ite (.refl s) ?_
  split
  · exact keepsHold_setPort s p _
  · exact keepsHold_setPort s p _
  · exact keepsHold_ite (keepsHold_setPort s p _) (keepsHold_setPort s p _)
  · exact keepsHold_latchCollision s p

theorem keepsHold_dataReadAt (p : PortId) (s : State) : s.keepsHold pw (dataReadAt p s) :=
  keepsHold_ite (keepsHold_setPort s p _) (keepsHold_setPort s p _)

theorem keepsHold_abortBuildAt (p : PortId) (s : State) : s.keepsHold pw (abortBuildAt p s) := by
  unfold abortBuildAt
  extract_lets u
  refine keepsHold_ite (.refl s) ?_
  split
  · exact .refl s
  · exact keepsHold_setPort s p _
  · exact keepsHold_latchCollision s p
  · exact keepsHold_setPort s p _

theorem keepsHold_rereadAt (p : PortId) (s : State) : s.keepsHold pw (rereadAt p s) := by
  unfold rereadAt
  extract_lets u
  refine keepsHold_ite (.refl s) ?_
  split
  · exact .refl s
  · exact .refl s
  · exact keepsHold_latchCollision s p
  · exact keepsHold_setPort s p _

theorem keepsHold_requestAt (p : PortId) (r : Option ControlRequest) (s : State) :
    s.keepsHold true (requestAt p r s) := by
  unfold requestAt
  split
  · exact keepsHold_goAt p s
  · exact keepsHold_abortBuildAt p s
  · exact keepsHold_rereadAt p s
  · exact keepsHold_ite (.refl s) (keepsHold_latchCollision s p)

theorem keepsHold_latchLevels (p : PortId) (s : State) : s.keepsHold pw (latchLevels p s) := by
  unfold latchLevels
  exact keepsHold_modPort s p _

theorem keepsHold_attentionWrite (p : PortId) (w : Word) (s : State) : s.keepsHold pw (attentionWrite p w s) :=
  (keepsHold_modPort s p _).trans (keepsHold_latchLevels p _)

/-- A command given at a port, by what its work does to the load. -/
theorem keepsHold_give (p : PortId) (c : Instr) {work : State → State} (hw : ∀ s : State, s.keepsHold true (work s))
    (s : State) : s.keepsHold true (give p c work s) := by
  unfold give
  extract_lets s1
  have h1 : s.keepsHold true s1 :=
    ((keepsHold_abortBuildAt p s).trans (keepsHold_fold (fun s w => keepsHold_dataWriteAt p w s) _ _)).trans
      (keepsHold_goAt p _)
  exact keepsHold_ite (.refl s) (keepsHold_ite (keepsHold_ite (hw s) (keepsHold_latchCollision s p))
    (keepsHold_ite (h1.trans (hw s1)) h1))

/-! ### Commands with no table work -/

theorem keepsHold_workGroupSet (p : PortId) (g rc cw sl lc ss rf ie : Word) (s : State) :
    s.keepsHold pw (workGroupSet p g rc cw sl lc ss rf ie s) := by
  unfold workGroupSet
  split
  · exact keepsHold_ite ((keepsHold_complete _ p _ _ _).ofBeside rfl rfl rfl rfl) (keepsHold_refuse s p _)
  · exact keepsHold_refuse s p _

theorem keepsHold_workLineEnable (p : PortId) (line on : Word) (s : State) :
    s.keepsHold pw (workLineEnable p line on s) := by
  unfold workLineEnable
  split
  · next i b _ _ =>
    have h : s.keepsHold pw (s.modLine i fun l => { l with enable := b }) := keepsHold_keepSession s i rfl
    exact (h.trans (keepsHold_actOnEnables s _)).trans (keepsHold_complete _ p _ _ _)
  · exact keepsHold_refuse s p _

theorem keepsHold_workGroupEnable (p : PortId) (group on : Word) (s : State) :
    s.keepsHold pw (workGroupEnable p group on s) := by
  unfold workGroupEnable
  split
  · exact ((keepsHold_actOnEnables s _).trans (keepsHold_complete _ p _ _ _)).ofBeside rfl rfl rfl rfl
  · exact keepsHold_refuse s p _

theorem keepsHold_workClearFault (p : PortId) (line : Word) (s : State) : s.keepsHold pw (workClearFault p line s) := by
  unfold workClearFault
  split
  · exact keepsHold_ite ((keepsHold_clearFaultOn _ s).trans (keepsHold_complete _ p _ _ _)) (keepsHold_refuse s p _)
  · exact keepsHold_refuse s p _

theorem keepsHold_workLineTest (p : PortId) (line speed : Word) (s : State) :
    s.keepsHold pw (workLineTest p line speed s) := by
  unfold workLineTest
  split
  · next i sp _ _ =>
    extract_lets s1
    have h1 : s.keepsHold pw s1 :=
      ((keepsHold_modPort s p _).trans (keepsHold_keepSession _ i rfl)).trans
        (keepsHold_choose (by rw [State.line_modLine]))
    exact keepsHold_ite (keepsHold_ite (h1.trans (keepsHold_endTest i s1)) h1) (keepsHold_refuse s p _)
  · exact keepsHold_refuse s p _

theorem keepsHold_workReadLine (p : PortId) (line : Word) (s : State) : s.keepsHold pw (workReadLine p line s) := by
  unfold workReadLine
  split
  · exact keepsHold_complete s p _ _ _
  · exact keepsHold_refuse s p _

/-- TAKE INPUT leaves the queue no longer than it was (R35). -/
theorem keepsHold_workTakeInput (p : PortId) (maximum : Word) (s : State) :
    s.keepsHold pw (workTakeInput p maximum s) := by
  unfold workTakeInput
  extract_lets out s1 s2
  have h1 : s.keepsHold pw s1 := keepsHold_beside rfl rfl rfl rfl
  have hask : s1.keepsHold pw (arbitrate (clearWaiting s1)) := (keepsHold_arbitrate _).ofBeside rfl rfl rfl rfl
  have h2 : s.keepsHold pw s2 := keepsHold_ite h1 (h1.trans hask)
  exact keepsHold_ite (h2.trans (keepsHold_complete s2 p _ _ _)) (keepsHold_refuse s p _)

theorem keepsHold_appendOutput (i : LineId) (chars : List Byte) (s : State) : s.keepsHold pw (appendOutput i chars s) :=
  (keepsHold_keepSession s i rfl).trans (keepsHold_kick i _)

theorem keepsHold_workSend (p : PortId) (line serial count : Word) (chars : List Byte) (s : State) :
    s.keepsHold pw (workSend p line serial count chars s) := by
  unfold workSend
  split
  · exact keepsHold_ite (keepsHold_ite ((keepsHold_appendOutput _ chars s).trans (keepsHold_complete _ p _ _ _))
      (keepsHold_refuse s p _)) (keepsHold_refuse s p _)
  · exact keepsHold_refuse s p _

theorem keepsHold_workReadSpace (p : PortId) (s : State) : s.keepsHold pw (workReadSpace p s) :=
  (keepsHold_mapLines s (f := fun _ l => { l with inSpaceSet := false }) fun _ h => h).trans
    (keepsHold_complete _ p _ _ _)

theorem keepsHold_acceptMessage (p : PortId) (k : Fin 16) (final : Bool) (text : List Byte) (s : State) :
    s.keepsHold pw (acceptMessage p k final text s) :=
  keepsHold_ite ((keepsHold_complete _ p _ _ _).ofBeside rfl rfl rfl rfl)
    ((keepsHold_complete _ p _ _ _).ofBeside rfl rfl rfl rfl)

theorem keepsHold_workWriteMessage (p : PortId) (slot : Byte) (final : Bool) (offset count : Word) (chars : List Byte)
    (s : State) : s.keepsHold pw (workWriteMessage p slot final offset count chars s) := by
  unfold workWriteMessage
  split
  · exact keepsHold_ite (keepsHold_ite (keepsHold_acceptMessage p _ final _ s)
      (keepsHold_ite (keepsHold_acceptMessage p _ final _ s) ((keepsHold_refuse _ p _).ofBeside rfl rfl rfl rfl)))
      (keepsHold_refuse s p _)
  · exact keepsHold_refuse s p _

theorem keepsHold_workHoldRequest (p : PortId) (limit : Word) (s : State) :
    s.keepsHold pw (workHoldRequest p limit s) := by
  refine keepsHold_ite ?_ (keepsHold_refuse s p _)
  split
  · next h =>
    exact (keepsHold_ungranted (.inl h) .requested _ _).trans (keepsHold_complete _ p _ _ _)
  · exact keepsHold_refuse s p _

theorem keepsHold_workHoldRelease (p : PortId) (s : State) : s.keepsHold true (workHoldRelease p s) :=
  keepsHold_ite ((keepsHold_beginRelease s).trans (keepsHold_complete _ p _ _ _)) (keepsHold_refuse s p _)

theorem keepsHold_loadClock (v : Calendar) (s : State) : s.keepsHold pw (loadClock v s) := by
  refine State.keepsHold.trans ?_ (keepsHold_rejudge _)
  refine State.keepsHold.ofBeside (t := { s with clock := v, clockInvalid := false }) ?_ rfl rfl rfl rfl
  exact keepsHold_mapSessions _ fun _ x => by split <;> rfl

theorem keepsHold_workSetClock (p : PortId) (v : Calendar) (s : State) : s.keepsHold pw (workSetClock p v s) :=
  keepsHold_ite ((keepsHold_loadClock v s).trans (keepsHold_complete _ p _ _ _)) (keepsHold_refuse s p _)

theorem keepsHold_acceptBands (p : PortId) (sc : Schedule) (final : Bool) (bands : List Band) (s : State) :
    s.keepsHold pw (acceptBands p sc final bands s) := by
  have hclear : ∀ u : State, u.keepsHold pw (clearTariffStaging u) := fun _ => keepsHold_beside rfl rfl rfl rfl
  exact keepsHold_ite ((keepsHold_complete _ p _ _ _).ofBeside rfl rfl rfl rfl)
    (keepsHold_ite (((keepsHold_takeInstall _ s).trans (hclear _)).trans (keepsHold_complete _ p _ _ _))
      ((hclear s).trans (keepsHold_refuse _ p _)))

theorem keepsHold_workTariffWrite (p : PortId) (schedule first final count : Word) (words : List Word) (s : State) :
    s.keepsHold pw (workTariffWrite p schedule first final count words s) := by
  unfold workTariffWrite
  split
  · exact keepsHold_ite (keepsHold_ite (keepsHold_acceptBands p _ _ _ s)
      (keepsHold_ite (keepsHold_acceptBands p _ _ _ s) ((keepsHold_refuse _ p _).ofBeside rfl rfl rfl rfl)))
      (keepsHold_refuse s p _)
  · exact keepsHold_refuse s p _

theorem keepsHold_workDayMapWrite (p : PortId) (d1 d2 d3 d4 d5 d6 d7 : Word) (s : State) :
    s.keepsHold pw (workDayMapWrite p d1 d2 d3 d4 d5 d6 d7 s) := by
  unfold workDayMapWrite
  split
  · exact (keepsHold_takeInstall _ s).trans (keepsHold_complete _ p _ _ _)
  · exact keepsHold_refuse s p _

theorem keepsHold_workClassWrite (p : PortId) (cls : Word) (record : Option ClassRec) (s : State) :
    s.keepsHold pw (workClassWrite p cls record s) := by
  unfold workClassWrite
  split
  · exact (keepsHold_takeInstall _ s).trans (keepsHold_complete _ p _ _ _)
  · exact keepsHold_refuse s p _

theorem keepsHold_workReadSession (p : PortId) (line : Word) (s : State) :
    s.keepsHold pw (workReadSession p line s) := by
  unfold workReadSession
  split
  · split
    · exact keepsHold_complete s p _ _ _
    · exact keepsHold_refuse s p _
  · exact keepsHold_refuse s p _

theorem keepsHold_workSetWatch (p : PortId) (window limit : Word) (s : State) :
    s.keepsHold pw (workSetWatch p window limit s) :=
  keepsHold_ite ((keepsHold_complete _ p _ _ _).ofBeside rfl rfl rfl rfl) (keepsHold_refuse s p _)

theorem keepsHold_workAdmission (p : PortId) (vote : Word) (s : State) : s.keepsHold pw (workAdmission p vote s) := by
  unfold workAdmission
  split
  · exact ((keepsHold_modPort s p _).trans (keepsHold_rejudge _)).trans (keepsHold_complete _ p _ _ _)
  · exact keepsHold_refuse s p _

theorem keepsHold_workPeekBilling (p : PortId) (s : State) : s.keepsHold pw (workPeekBilling p s) := by
  unfold workPeekBilling
  split
  · exact keepsHold_complete s p _ _ _
  · exact keepsHold_complete s p _ _ _

theorem keepsHold_workReleaseBilling (p : PortId) (sequence : Word) (s : State) :
    s.keepsHold pw (workReleaseBilling p sequence s) := by
  unfold workReleaseBilling
  refine keepsHold_ite ?_ (keepsHold_refuse s p _)
  split
  · exact keepsHold_refuse s p _
  · exact keepsHold_ite (((keepsHold_rejudge _).trans (keepsHold_complete _ p _ _ _)).ofBeside rfl rfl rfl rfl)
      (keepsHold_complete s p _ _ _)



end

end Sys2Proof.Machine
end

section
/-! PROOFS. The law of the hold (R108): characters, the verdict and the power events keep it, and so does the step. -/

namespace Sys2Proof.Machine

section
variable {pw : Bool}

/-! ### Characters and breaks -/

theorem keepsHold_setOverrun (i : LineId) (s : State) : s.keepsHold pw (setOverrun i s) := keepsHold_keepSession s i rfl

theorem keepsHold_idleEvent (i : LineId) (s : State) : s.keepsHold pw (idleEvent i s) :=
  keepsHold_keepUnits s i _ fun _ => rfl

theorem keepsHold_offerChar (i : LineId) (c : Byte) (framing : Bool) (s : State) :
    s.keepsHold pw (offerChar i c framing s) :=
  keepsHold_ite ((keepsHold_placeInput _ s).trans (keepsHold_keepSession _ i rfl)) (keepsHold_setOverrun i s)

theorem keepsHold_offerBreak (i : LineId) (s : State) : s.keepsHold pw (offerBreak i s) :=
  keepsHold_ite (keepsHold_placeInput _ s) (keepsHold_setOverrun i s)

theorem keepsHold_receive (i : LineId) (data : Byte) (framing : Bool) (s : State) :
    s.keepsHold pw (receive i data framing s) := by
  have hoffer := (keepsHold_idleEvent (pw := pw) i s).trans (keepsHold_offerChar i data framing _)
  unfold receive
  split
  · exact keepsHold_ite (.refl s) (keepsHold_signOnChar i data framing s)
  · split
    · exact hoffer
    · exact hoffer
    · exact keepsHold_setOverrun i s
    · exact .refl s
  · exact keepsHold_keepSession s i rfl
  · exact .refl s

theorem keepsHold_receiveBreak (i : LineId) (s : State) : s.keepsHold pw (receiveBreak i s) := by
  have hoffer := (keepsHold_idleEvent (pw := pw) i s).trans (keepsHold_offerBreak i _)
  unfold receiveBreak
  split
  · split
    · exact hoffer
    · exact hoffer
    · exact keepsHold_setOverrun i s
    · exact .refl s
  · exact .refl s

/-! ### The verdict -/

/-- A new session has nothing unposted (R126). -/
theorem keepsHold_openSessionOn (i : LineId) (part : SignOnPart) (a : Account) (s : State) :
    s.keepsHold pw (openSessionOn i part a s) := by
  unfold openSessionOn
  extract_lets setup s1 s2 serial s3 x s4 s5
  have h3 : s.keepsHold pw s3 := (((keepsHold_modAccount s _ _).trans (keepsHold_post _ _ _)).trans
    (keepsHold_leaveCheckQueue i _)).beside rfl rfl rfl rfl
  have h4 : s.keepsHold pw s4 := h3.trans (keepsHold_modLine s3 i fun h => absurd h Bool.false_ne_true)
  exact ((h4.trans (keepsHold_placeInput _ s4)).trans (keepsHold_kick i s5)).trans (keepsHold_fundsWarning _ _ _)

theorem keepsHold_judgeActive (i : LineId) (part : SignOnPart) (a : Account) (s : State) :
    s.keepsHold pw (judgeActive i part a s) := by
  unfold judgeActive
  split
  · exact (keepsHold_leaveCheckQueue i s).trans (keepsHold_refuseCaller i _ _)
  · exact keepsHold_ite (keepsHold_openSessionOn i part a s) (keepsHold_beside rfl rfl rfl rfl)

theorem keepsHold_wrongCheckWord (a : Account) (s : State) : s.keepsHold pw (wrongCheckWord a s) :=
  keepsHold_ite (keepsHold_ite ((keepsHold_modAccount s _ _).trans (keepsHold_latchA _ _)) (keepsHold_modAccount s _ _))
    (.refl s)

theorem keepsHold_verdictFor (i : LineId) (s : State) : s.keepsHold pw (verdictFor i s) := by
  have hrefuse := (keepsHold_leaveCheckQueue (pw := pw) i s).trans (keepsHold_refuseCaller i 4 _)
  unfold verdictFor
  split
  · exact keepsHold_leaveCheckQueue i s
  · next part _ =>
    split
    · exact (keepsHold_leaveCheckQueue i s).trans (keepsHold_badAttempt i _)
    · next a _ =>
      refine keepsHold_ite (((keepsHold_wrongCheckWord a s).trans (keepsHold_leaveCheckQueue i _)).trans
        (keepsHold_badAttempt i _)) ?_
      split
      · exact keepsHold_judgeActive i part a s
      · exact hrefuse
      · exact keepsHold_ite ((keepsHold_modAccount s _ _).trans (keepsHold_judgeActive i part _ _)) hrefuse

theorem keepsHold_verdictAccess (s : State) : s.keepsHold pw (verdictAccess s) := by
  unfold verdictAccess
  split
  · exact .refl s
  · exact keepsHold_verdictFor _ s

theorem keepsHold_verdictGranted (s : State) : s.keepsHold true (verdictGranted s) :=
  keepsHold_ite (((keepsHold_granted .checker s).trans (keepsHold_verdictAccess _)).trans (keepsHold_giveBack _))
    (.refl s)

/-! ### Power events (R162, R163) -/

/-- An access carried to its end at a power event keeps the law, with main power on and off (R92). -/
theorem keepsHold_finishAccess (s : State) : s.keepsHold pw (finishAccess s) := by
  unfold finishAccess
  split
  · exact (keepsHold_verdictAccess s).trans (keepsHold_makeInstalls _)
  · next p _ =>
    cases s.waitingCommand p with
    | none => exact keepsHold_makeInstalls s
    | some c => exact (keepsHold_commandAccess p c s).trans (keepsHold_makeInstalls _)
  · exact .refl s
  · exact .refl s

/-- The loss of main power keeps what is set aside, the state of the hold, and the session parts (R162). -/
theorem holdUnder_operatingReset {s : State} (h : s.holdUnder pw) : (operatingReset s).holdUnder false := by
  refine ⟨fun hst => ⟨setAside_of_lines (s := s) rfl (fun i hi => ?_) (h.1 hst).1, (h.1 hst).2⟩,
    fun hoff => absurd hoff Bool.false_ne_true⟩
  have hline : (operatingReset s).line i = { LineRec.initial with session := s.session i } := Bank.get_ofFn _ i
  rwa [hline] at hi

end

theorem writeRecord_deferred (r : Nat → BillingRecord) (s : State) : (writeRecord r s).deferred = s.deferred := by
  unfold writeRecord
  dsimp only
  split <;> rfl

/-- The account work of the sweep is beside the lines and the deferred entries. -/
theorem sweepWork_beside (i : LineId) (x : Session) (s : State) :
    (sweepWork i x s).lines = s.lines ∧ (sweepWork i x s).deferred = s.deferred := by
  unfold sweepWork
  extract_lets s1 up cu s2
  have hsame : s2.lines = s.lines ∧ s2.deferred = s.deferred := by
    have h1 : s1.lines = s.lines ∧ s1.deferred = s.deferred := by
      unfold s1 sweepPost
      split <;> exact ⟨rfl, rfl⟩
    have hcu : cu.2.lines = s.lines ∧ cu.2.deferred = s.deferred := by
      unfold cu addStated
      repeat' split
      all_goals exact h1
    unfold s2
    split <;> exact hcu
  exact ⟨(writeRecord_lines _ s2).trans hsame.1, (writeRecord_deferred _ s2).trans hsame.2⟩

/-- The sweep of a line removes its session part, and leaves the other lines and the deferred entries (R163). -/
theorem sweepLine_spec (i : LineId) (s : State) :
    (sweepLine i s).session i = none ∧ (∀ j, j ≠ i → (sweepLine i s).session j = s.session j) ∧
      (sweepLine i s).deferred = s.deferred := by
  unfold sweepLine
  split
  · next h => exact ⟨h, fun _ _ => rfl, rfl⟩
  · next x _ =>
    extract_lets s1
    have h1 : s1.lines = s.lines ∧ s1.deferred = s.deferred := by
      unfold s1
      repeat' split
      · exact sweepWork_beside i _ s
      · exact sweepWork_beside i x s
      · exact ⟨rfl, rfl⟩
    have h2 : (sweepSeconds x s1).lines = s.lines ∧ (sweepSeconds x s1).deferred = s.deferred := by
      unfold sweepSeconds
      split <;> exact h1
    refine ⟨by rw [State.session, State.line_modLine], fun j hj => ?_, h2.2⟩
    rw [State.session, State.line_modLine_ne _ _ (Ne.symm hj), State.line, h2.1]
    rfl

theorem fold_sweepLine_spec (is : List LineId) (s : State) :
    (∀ i ∈ is, (is.foldl (fun s i => sweepLine i s) s).session i = none) ∧
      (∀ i, s.session i = none → (is.foldl (fun s i => sweepLine i s) s).session i = none) ∧
      (is.foldl (fun s i => sweepLine i s) s).deferred = s.deferred := by
  induction is generalizing s with
  | nil => exact ⟨fun i hi => absurd hi List.not_mem_nil, fun _ h => h, rfl⟩
  | cons i is ih =>
    obtain ⟨hself, hothers, hdeferred⟩ := sweepLine_spec i s
    obtain ⟨hall, hstays, hrest⟩ := ih (sweepLine i s)
    refine ⟨fun j hj => ?_, fun j hj => hstays j ?_, hrest.trans hdeferred⟩
    · rcases List.mem_cons.mp hj with rfl | hj
      · exact hstays j hself
      · exact hall j hj
    · by_cases h : j = i
      · rw [h]; exact hself
      · rw [hothers j h]; exact hj

/-- The sweep of all lines removes every session part (R163). -/
theorem forLines_sweepLine_spec (s : State) :
    (∀ i, (s.forLines sweepLine).session i = none) ∧ (s.forLines sweepLine).deferred = s.deferred := by
  obtain ⟨hnone, -, hdeferred⟩ := fold_sweepLine_spec allLines s
  exact ⟨fun i => hnone i (mem_allLines i), hdeferred⟩

/-- The seconds-due entries paid one by one change accounts alone (R134). -/
theorem foldl_addPeriodSeconds_eq (es : List DueEntry) (s : State) :
    es.foldl (fun s e => addPeriodSeconds e.user e.seconds s) s =
      { s with accounts := (es.foldl (fun s e => addPeriodSeconds e.user e.seconds s) s).accounts } := by
  induction es generalizing s with
  | nil => rfl
  | cons e es ih => rw [List.foldl_cons, ih]; rfl

/-- Paying the seconds-due list changes accounts and empties the list (R134). -/
theorem payDueList_eq (s : State) :
    payDueList s = { s with
      accounts := (payDueList s).accounts, engine := { s.engine with secondsDue := [] } } := by
  unfold payDueList
  rw [foldl_addPeriodSeconds_eq]

theorem LineRec.unposted_none {l : LineRec} (h : l.session = none) : l.unposted = false := by
  rw [LineRec.unposted, h]; rfl

/-- The recovery sweep leaves the hold NONE, nothing set aside, and no record of a pass (R108, R163). -/
theorem holdUnder_sweep (s : State) (pw : Bool) : (sweep s).holdUnder pw := by
  obtain ⟨hnone, hdeferred⟩ := forLines_sweepLine_spec (sweepDeferred s)
  refine ⟨fun _ => ⟨?_, rfl⟩, fun _ h => absurd h Bool.false_ne_true⟩
  unfold sweep
  generalize (sweepDeferred s).forLines sweepLine = v at *
  rw [payDueList_eq]
  exact (State.setAside_eq_false _).mpr ⟨hdeferred, fun i => LineRec.unposted_none (hnone i)⟩

theorem holdUnder_powerUp (s : State) (pw : Bool) : (powerUp s).holdUnder pw := by
  have hend : ∀ u : State, u.keepsHold pw (endSweep u) := fun u =>
    ((keepsHold_latchLevels .t _).trans (keepsHold_latchLevels .a _)).ofBeside rfl rfl rfl rfl
  exact (hend _).keeps (holdUnder_sweep _ pw)

/-! ### The step -/

theorem holdLaw_next {u t : State} (hu : u.holdLaw) (ht : (.next u : Host.Outcome State Fault Refusal) = .next t) :
    t.holdLaw := Host.Outcome.next.inj ht ▸ hu

theorem State.holdUnder.holdLaw {s : State} (h : s.holdUnder true) : s.holdLaw := ⟨h.1, fun _ => h.2 rfl⟩

/-- A row whose operation keeps the law, taken by the powered part. -/
theorem holdLaw_row {f : State → State} {s t : State} (hf : s.keepsHold true (f s)) (hs : s.holdLaw)
    (ht : (.next (whenPowered s f) : Host.Outcome State Fault Refusal) = .next t) : t.holdLaw := by
  refine holdLaw_next ?_ ht
  unfold whenPowered
  split
  · next hpower => exact (hf.keeps (by rwa [State.holdLaw_iff, hpower] at hs)).holdLaw
  · exact hs

/-- A command row, by what its work does to the law. -/
theorem holdLaw_command {p : PortId} {c : Instr} {work : State → State} {s t : State}
    (hw : ∀ s : State, s.keepsHold true (work s)) (hs : s.holdLaw)
    (ht : (.next (whenPowered s (give p c work)) : Host.Outcome State Fault Refusal) = .next t) : t.holdLaw :=
  holdLaw_row (keepsHold_give p c hw s) hs ht

/-- CLOCK_ADVANCE takes its tick with main power on alone (R111, R113). -/
theorem holdLaw_clockTick {s : State} (hs : s.holdLaw) : (clockTick s).holdLaw := by
  cases hpower : s.mainPower with
  | true => exact ((keepsHold_clockTick s).keeps (by rwa [State.holdLaw_iff, hpower] at hs)).holdLaw
  | false =>
    rw [clockTick, hpower, Bool.false_and, if_neg Bool.false_ne_true]
    exact hs

theorem holdLaw_reset {pending : List Instr} {n : Nat} :
    ({ State.reset with pending := pending, freeIndex := n } : State).holdLaw := by
  refine ⟨fun _ => ⟨(State.setAside_eq_false _).mpr ⟨rfl, fun i => ?_⟩, rfl⟩, fun _ h => absurd h Bool.false_ne_true⟩
  exact LineRec.unposted_none (reset_session i)

/-- Each row keeps the law: the power events by the sweep or at the loss of main power, and every other row by its
operation. The commands with table work stand last: their port's access keeps it. -/
theorem holdLaw_exec {c : Instr} {s t : State} (hs : s.holdLaw) (ht : exec c s = .next t) : t.holdLaw := by
  cases c with
  | dataWrite p w => exact holdLaw_row (keepsHold_dataWriteAt p w s) hs ht
  | dataRead p => exact holdLaw_row (keepsHold_dataReadAt p s) hs ht
  | go p => exact holdLaw_row (keepsHold_requestAt p _ s) hs ht
  | abortBuild p => exact holdLaw_row (keepsHold_requestAt p _ s) hs ht
  | reread p => exact holdLaw_row (keepsHold_requestAt p _ s) hs ht
  | controlWriteNoRequest p w => exact holdLaw_row (f := controlWriteAt p w) (keepsHold_requestAt p _ s) hs ht
  | attentionWrite p w => exact holdLaw_row (keepsHold_attentionWrite p w s) hs ht
  | maskWrite p w => exact holdLaw_row (f := maskWrite p w) (keepsHold_modPort s p _) hs ht
  | groupSet p g rc cw sl lc ss rf ie => exact holdLaw_command (keepsHold_workGroupSet p g rc cw sl lc ss rf ie) hs ht
  | lineEnable p line on => exact holdLaw_command (keepsHold_workLineEnable p line on) hs ht
  | groupEnable p group on => exact holdLaw_command (keepsHold_workGroupEnable p group on) hs ht
  | clearFault p line => exact holdLaw_command (keepsHold_workClearFault p line) hs ht
  | lineTest p line speed => exact holdLaw_command (keepsHold_workLineTest p line speed) hs ht
  | readLine p line => exact holdLaw_command (keepsHold_workReadLine p line) hs ht
  | takeInput p maximum => exact holdLaw_command (keepsHold_workTakeInput p maximum) hs ht
  | send p line serial count chars => exact holdLaw_command (keepsHold_workSend p line serial count chars) hs ht
  | readSpace p => exact holdLaw_command (keepsHold_workReadSpace p) hs ht
  | writeMessage p slot final offset count chars =>
    exact holdLaw_command (keepsHold_workWriteMessage p slot final offset count chars) hs ht
  | setClock p y mo d h mi se wd => exact holdLaw_command (keepsHold_workSetClock p _) hs ht
  | readClock p => exact holdLaw_command (fun s => keepsHold_complete s p .ok false _) hs ht
  | tariffWrite p sc fb fi n ws => exact holdLaw_command (keepsHold_workTariffWrite p sc fb fi n ws) hs ht
  | dayMapWrite p d1 d2 d3 d4 d5 d6 d7 =>
    exact holdLaw_command (keepsHold_workDayMapWrite p d1 d2 d3 d4 d5 d6 d7) hs ht
  | classWrite p k su fl wa gr iw il ro fa lo => exact holdLaw_command (keepsHold_workClassWrite p k _) hs ht
  | holdRequest p limit => exact holdLaw_command (keepsHold_workHoldRequest p limit) hs ht
  | holdRelease p => exact holdLaw_command (keepsHold_workHoldRelease p) hs ht
  | holdStatus p => exact holdLaw_command (fun s => keepsHold_complete s p .ok false _) hs ht
  | readSession p line => exact holdLaw_command (keepsHold_workReadSession p line) hs ht
  | setWatch p window limit => exact holdLaw_command (keepsHold_workSetWatch p window limit) hs ht
  | watchStatus p => exact holdLaw_command (fun s => keepsHold_complete s p .ok false _) hs ht
  | admission p vote => exact holdLaw_command (keepsHold_workAdmission p vote) hs ht
  | peekBilling p => exact holdLaw_command (keepsHold_workPeekBilling p) hs ht
  | releaseBilling p sequence => exact holdLaw_command (keepsHold_workReleaseBilling p sequence) hs ht
  | commandTableAccess => exact holdLaw_row (keepsHold_serveGranted s) hs ht
  | qualifiedRing i => exact holdLaw_row (keepsHold_qualifiedRingOn i s) hs ht
  | ringGapExpiry i => exact holdLaw_row (keepsHold_ringGapOver i s) hs ht
  | carrierPresent i => exact holdLaw_row (keepsHold_carrierPresentOn i s) hs ht
  | carrierWaitExpiry i => exact holdLaw_row (keepsHold_phaseOver _ i s) hs ht
  | carrierLoss i => exact holdLaw_row (keepsHold_carrierLossOn i s) hs ht
  | speedMeasurement i m => exact holdLaw_row (keepsHold_speedMeasuredOn i m s) hs ht
  | speedMarkWaitEnd i => exact holdLaw_row (f := markSeen i) (keepsHold_keepSession s i rfl) hs ht
  | speedWaitExpiry i => exact holdLaw_row (keepsHold_phaseOver _ i s) hs ht
  | hangupGuardExpiry i => exact holdLaw_row (keepsHold_guardOver i s) hs ht
  | stuckCarrier i => exact holdLaw_row (keepsHold_stuckCarrierOn i s) hs ht
  | ringStuck i => exact holdLaw_row (keepsHold_ringStuckOn i s) hs ht
  | lineTestEnd i => exact holdLaw_row (keepsHold_lineTestEnded i s) hs ht
  | characterReceived i d stop => exact holdLaw_row (keepsHold_receive i d (!stop) s) hs ht
  | breakReceived i => exact holdLaw_row (keepsHold_receiveBreak i s) hs ht
  | characterSent i => exact holdLaw_row (keepsHold_characterEnded i s) hs ht
  | signOnTimerExpiry i => exact holdLaw_row (keepsHold_signOnOver i s) hs ht
  | verdict => exact holdLaw_row (keepsHold_verdictGranted s) hs ht
  | clockAdvance => exact holdLaw_next (holdLaw_clockTick hs) ht
  | rememberedTickPass => exact holdLaw_row (keepsHold_passOn s) hs ht
  | meteringPassAccess => exact holdLaw_row (f := fun s => (passStep s).1) (keepsHold_passStep s) hs ht
  | graceTimerExpiry i => exact holdLaw_row (keepsHold_passStepOn i _ s) hs ht
  | idleLimit i => exact holdLaw_row (keepsHold_passStepOn i _ s) hs ht
  | idleWarnThreshold i => exact holdLaw_row (keepsHold_passStepOn i _ s) hs ht
  | closeAccountWork => exact holdLaw_row (keepsHold_closeWorkGranted s) hs ht
  | holdGrant => exact holdLaw_row (keepsHold_holdGrantOn s) hs ht
  | holdLimitExpiry => exact holdLaw_row (keepsHold_holdLimitOver s) hs ht
  | releasePosting => exact holdLaw_row (keepsHold_releasePostingOn s) hs ht
  | secondsDueAccess => exact holdLaw_row (keepsHold_secondsDueOn s) hs ht
  | watchTimerExpiry => exact holdLaw_row (keepsHold_watchTimerOver s) hs ht
  | holdDownExpiry => exact holdLaw_row (keepsHold_holdDownExpired s) hs ht
  | scan ring carrier => exact holdLaw_row (keepsHold_scanAll ring carrier s) hs ht
  | mainPowerFailure =>
    have hoff : ({ operatingReset (finishAccess s) with mainPower := false } : State).holdLaw :=
      holdUnder_operatingReset ((keepsHold_finishAccess s).keeps hs)
    exact holdLaw_next hoff ht
  | mainPowerUp => exact holdLaw_next (holdUnder_powerUp s true).holdLaw ht
  | reset => exact holdLaw_row ⟨fun _ => holdUnder_powerUp s true⟩ hs ht
  | retainedPowerUp => exact holdLaw_next holdLaw_reset ht
  | _ => exact holdLaw_command (keepsHold_serveNext _) hs ht
/-- Settles O57: every row keeps the law, and the step runs the row at the front of its queue. -/
theorem everyStepKeepsTheHoldLaw : Obligations.EveryStepKeepsTheHoldLaw := by
  intro s t hs ht
  unfold step at ht
  split at ht
  · cases ht; exact hs
  · next c rest _ =>
    have hrest : ({ s with pending := rest } : State).holdLaw := hs
    exact holdLaw_exec hrest ht

end Sys2Proof.Machine
end

section
/-! PROOFS. The arbiter (R92 to R96): whom it chooses by the hold state, what a grant does, and who asks. -/

namespace Sys2Proof.Machine

/-! ### The engine's requests -/

theorem State.engineAsks_eq_false (s : State) :
    s.engineAsks = false ↔ s.engine.dueAsked = false ∧ s.engine.closeWork = [] := by
  simp [State.engineAsks]

theorem mem_drop_allLines (n : Nat) (i : LineId) : i ∈ allLines.drop n ↔ n ≤ i.val := by
  rw [show allLines = List.finRange 32 from rfl, List.mem_drop_iff_getElem]
  constructor
  · rintro ⟨k, hk, rfl⟩
    simp
  · intro h
    exact ⟨i.val - n, by simp; omega, by simp [Nat.add_sub_cancel' h]⟩

/-- A pass has a session left to charge: one of a line not yet visited, charged, and old enough for the tick (R130). -/
theorem State.passWants_iff (s : State) :
    s.passWants = true ↔ ∃ (p : Pass) (i : LineId) (x : Session), s.engine.pass = some p ∧ p.next ≤ i.val ∧
      s.session i = some x ∧ x.state.isCharged = true ∧ x.bornTick < p.tick.number := by
  unfold State.passWants
  cases s.engine.pass with
  | none => simp
  | some p =>
    simp only [List.any_eq_true, mem_drop_allLines, Option.any_eq_true, Tick.sees, Bool.and_eq_true,
      decide_eq_true_eq, Option.some.injEq]
    constructor
    · rintro ⟨i, hi, x, hx, hborn, hcharged⟩
      exact ⟨p, i, x, rfl, hi, hx, hcharged, hborn⟩
    · rintro ⟨q, i, x, rfl, hi, hx, hcharged, hborn⟩
      exact ⟨i, hi, x, hx, hborn, hcharged⟩

/-! ### Whom the arbiter chooses, by the hold state (R93, R96) -/

section
variable {s : State}

theorem State.nextGrant_free (h : s.arbiter.grant = none) : s.nextGrant = s.chosen := by simp [State.nextGrant, h]

theorem State.nextGrant_held {c : Client} (h : s.arbiter.grant = some c) : s.nextGrant = some c := by
  simp [State.nextGrant, h]

/-- The access of R134 goes ahead of every client. -/
theorem State.chosen_due (h : s.engine.dueAsked = true) : s.chosen = some .engine := by simp [State.chosen, h]

/-- With the hold NONE the engine goes first where it asks, and else the client whose turn it is. -/
theorem State.chosen_none (h : s.hold.state = .none) :
    s.chosen = if s.engineAsks || (s.passWants && s.arbiter.passAsked) then some .engine
      else (s.arbiter.rotation.find? s.asks).or (if s.passWants then some .engine else none) := by
  unfold State.chosen
  rw [h]
  cases hdue : s.engine.dueAsked
  · rw [if_neg Bool.false_ne_true]
    dsimp only
    cases s.arbiter.rotation.find? s.asks <;> rfl
  · simp [State.engineAsks, hdue]

/-- With the hold GRANTED the access of R134 goes first, then the A unit, then the engine and the T unit. -/
theorem State.chosen_granted (h : s.hold.state = .granted) (hdue : s.engine.dueAsked = false) :
    s.chosen = if s.asks (.unit .a) then some (.unit .a)
      else if s.engineAsks || (s.passWants && s.arbiter.passAsked) then some .engine
      else if s.asks (.unit .t) then some (.unit .t)
      else if s.passWants then some .engine else none := by
  simp [State.chosen, h, hdue]

/-- A hold REQUESTED or RELEASING leaves the table to the engine. -/
theorem State.chosen_reserved (h : s.hold.state = .requested ∨ s.hold.state = .releasing) :
    s.chosen = some .engine ∨ s.chosen = none ∧ s.engineAsks = false ∧ s.passWants = false := by
  unfold State.chosen
  cases hdue : s.engine.dueAsked
  · rcases h with h | h <;> rw [h] <;> cases ha : s.engineAsks <;> cases hw : s.passWants <;> simp
  · exact .inl rfl

/-- The access of R134, and close work, wait for the A unit alone, and for it in GRANTED (R95, R96). -/
theorem State.chosen_engineAsks (hunit : s.hold.state ≠ .granted ∨ s.asks (.unit .a) = false)
    (ha : s.engineAsks = true) : s.chosen = some .engine := by
  cases hd : s.engine.dueAsked with
  | true => exact State.chosen_due hd
  | false =>
    have hreserved (h : s.hold.state = .requested ∨ s.hold.state = .releasing) : s.chosen = some .engine :=
      (State.chosen_reserved h).resolve_right fun h => absurd (h.2.1.symm.trans ha) Bool.false_ne_true
    cases hst : s.hold.state with
    | none => simp [State.chosen_none hst, ha]
    | requested => exact hreserved (.inl hst)
    | granted => simp [State.chosen_granted hst hd, ha, hunit.resolve_left (not_not_intro hst)]
    | releasing => exact hreserved (.inr hst)

theorem State.chosen_granted_ne_checker (h : s.hold.state = .granted) : s.chosen ≠ some .checker := by
  cases hd : s.engine.dueAsked with
  | true => rw [State.chosen_due hd]; decide
  | false =>
    rw [State.chosen_granted h hd]
    repeat' split
    all_goals decide

end

/-! ### Who asks (R57, R92) -/

theorem State.asks_unit_iff (s : State) (p : PortId) :
    s.asks (.unit p) = true ↔ s.arbiter.grant ≠ some (.unit p) ∧ (s.port p).state = .busy ∧
      ∃ c : Instr, (s.port p).job = some ⟨.waiting, c⟩ := by
  have hwaits : (s.waitingCommand p).isSome = true ↔
      (s.port p).state = .busy ∧ ∃ c : Instr, (s.port p).job = some ⟨.waiting, c⟩ := by
    unfold State.waitingCommand
    split
    · next c hb hj => exact iff_of_true rfl ⟨hb, c, hj⟩
    · next hno => exact iff_of_false Bool.false_ne_true fun ⟨hb, c, hj⟩ => hno c hb hj
  simp [State.asks, hwaits, and_comm]

theorem State.asks_checker_iff (s : State) :
    s.asks .checker = true ↔ s.hold.state = .none ∧ s.arbiter.grant ≠ some .checker ∧
      (s.arbiter.checkerAsked = true ∨ ∃ e ∈ s.checkQueue, e.waiting = false) := by
  simp [State.asks, State.checkerAsks, State.eligibleCheck, and_assoc]

/-! ### A grant (R93, R94) -/

section
variable {s : State}

theorem arbitrate_chosen {c : Client} (h : s.arbiter.grant = none) (hc : s.chosen = some c) (hne : c ≠ .engine) :
    arbitrate s = grantTo c s := by
  rcases arbitrate_cases s with ⟨d, -, -, hd, harb⟩ | ⟨-, hno⟩
  · rw [hc] at hd
    rw [harb, Option.some.inj hd]
  · rw [hc] at hno
    exact absurd hno (by simp [h, hne])

/-- A free table that the arbiter leaves free: nobody's turn, or the engine's. -/
theorem arbitrate_stands (hc : s.chosen = none ∨ s.chosen = some .engine) : arbitrate s = s := by
  rcases arbitrate_cases s with ⟨d, hd, -, hchosen, -⟩ | ⟨h, -⟩
  · rw [hchosen] at hc
    exact absurd hc (by simp [hd])
  · exact h

/-- After the arbiter was asked, a table that is free is the engine's or nobody's. -/
theorem nextGrant_arbitrate {c : Client} (h : (arbitrate s).arbiter.grant = none)
    (hc : (arbitrate s).nextGrant = some c) : c = .engine := by
  rcases arbitrate_cases s with ⟨d, -, -, -, harb⟩ | ⟨harb, hno⟩
  · rw [harb] at h
    contradiction
  · rw [harb] at h hc
    rw [State.nextGrant_free h] at hc
    rw [hc] at hno
    simpa [h] using hno

/-- With the hold NONE and the order checker, T, A, the T unit goes before the A unit where both wait (R94). -/
theorem chosen_unit_t (hstate : s.hold.state = .none) (hasks : s.engineAsks = false) (hwants : s.passWants = false)
    (hrotation : s.arbiter.rotation = [.checker, .unit .t, .unit .a]) (hchecker : s.asks .checker = false)
    (ht : s.asks (.unit .t) = true) : s.chosen = some (.unit .t) := by
  rw [State.chosen_none hstate]
  simp [hasks, hwants, hrotation, List.find?, hchecker, ht]

end

/-! ### Close work leaves the pass's request (log entry 43) -/

theorem workFrame_closeWorkAccess (s : State) : s.workFrame (closeWorkAccess s) := by
  unfold closeWorkAccess
  split
  · exact .refl s
  · next i rest _ =>
    extract_lets e s1 s2
    have h1 : s.workFrame s1 := workFrame_closeWork s rest
    have h2 : s.workFrame s2 := h1.trans (workFrame_accountWork (fun user u s => workFrame_post s user u) i s1)
    split
    · split
      · exact h2.trans (lineFrame_hangup s2 i).work
      · exact h2.trans (lineFrame_kick s2 i).work
      · exact h2
    · exact h1

theorem endAccess_arbiter (s : State) : (endAccess s).arbiter = { s.arbiter with grant := none } := by
  rw [endAccess_eq]

/-- Where the table given back is granted to no client of the rotation, the pass's request stands. -/
theorem giveBack_passAsked {s : State} (h : (giveBack s).arbiter.grant = none) :
    (giveBack s).arbiter.passAsked = s.arbiter.passAsked := by
  unfold giveBack at *
  rcases arbitrate_cases (endAccess s) with ⟨c, -, -, -, harb⟩ | ⟨harb, -⟩
  · rw [harb] at h
    contradiction
  · rw [harb, endAccess_arbiter]

/-- A table given back is free, or a client of the rotation holds it. -/
theorem giveBack_grant_ne_engine (s : State) : (giveBack s).arbiter.grant ≠ some .engine := by
  unfold giveBack
  rcases arbitrate_cases (endAccess s) with ⟨c, hc, -, -, harb⟩ | ⟨harb, -⟩ <;> rw [harb]
  · exact fun h => hc (Option.some.inj h)
  · rw [endAccess_arbiter]
    exact Option.some_ne_none _ ∘ Eq.symm

theorem closeWorkGranted_passAsked {s : State}
    (h : (closeWorkGranted s).arbiter.grant = none ∨ (closeWorkGranted s).arbiter.grant = s.arbiter.grant) :
    (closeWorkGranted s).arbiter.passAsked = s.arbiter.passAsked := by
  unfold closeWorkGranted at *
  split
  · next hnext =>
    rw [if_pos hnext] at h
    have hframe := workFrame_closeWorkAccess s
    have hkept : (closeWorkAccess s).arbiter.passAsked = s.arbiter.passAsked := by
      unfold State.workFrame at hframe; rw [hframe]
    have hfree : (giveBack (closeWorkAccess s)).arbiter.grant = none := by
      rcases h with h | h
      · exact h
      · cases hg : s.arbiter.grant with
        | none => rw [h, hg]
        | some c =>
          have hengine : c = .engine := Option.some.inj ((State.nextGrant_held hg).symm.trans hnext.1)
          rw [hg, hengine] at h
          exact absurd h (giveBack_grant_ne_engine _)
    rw [giveBack_passAsked hfree, hkept]
  · rfl

/-! ### The access of a command unit, and of the checker -/

/-- COMMAND_TABLE_ACCESS makes the access of the unit that is granted next (R94). -/
theorem exec_commandTableAccess {p : PortId} {c : Instr} {s : State} (h : s.grantedNext p c) :
    exec .commandTableAccess s = .next (giveBack (commandAccess p c (granted (.unit p) s))) := by
  obtain ⟨⟨hp, -⟩, hb, hj, hg⟩ := h
  have hw : s.waitingCommand p = some c := by simp [State.waitingCommand, hb, hj]
  rw [exec_powered (f := serveGranted) rfl hp, serveGranted, hg]
  simp only [serve, hw]

/-- A command with table work, at its own row, makes the same access. -/
theorem exec_tableCommand {p : PortId} {c : Instr} {s : State} (h : s.grantedNext p c) (hport : c.commandPort = some p)
    (htable : isTableCommand c = true) :
    exec c s = .next (giveBack (commandAccess p c (granted (.unit p) s))) := by
  have hrow : exec c s = .next (whenPowered s (give p c (serveNext p))) := by
    cases c <;> cases htable <;> cases hport <;> rfl
  rw [hrow, give_grantedNext h]

/-- The checker granted with no eligible entry gives the table back unused (R57). -/
theorem verdictGranted_unused {s : State} (h : s.nextGrant = some .checker)
    (hq : ∀ e ∈ s.checkQueue, e.waiting = true) :
    verdictGranted s = giveBack (granted .checker s) := by
  have hnone : (granted .checker s).eligibleCheck = none := by
    rw [State.eligibleCheck, granted_eq]
    exact List.find?_eq_none.mpr fun e he => by simp [hq e he]
  rw [verdictGranted, if_pos h, verdictAccess, hnone]

/-- Settles O38: the choice by the hold state, the grant to whom is chosen, and the access of whom holds it. -/
theorem arbiterGrantsInItsOrder : Obligations.ArbiterGrantsInItsOrder := by
  refine ⟨fun s hfree => ?_, State.passWants_iff, fun s hp => ?_, fun c s hfree hnext hne => ?_,
    fun s hfree hnext => ?_, ?_, fun c s hheld => ?_, fun s h c => nextGrant_arbitrate h, fun p c s h => ?_,
    fun p s => s.asks_unit_iff p, State.asks_checker_iff, fun s hp hnext hq => ?_⟩
  · rw [State.nextGrant_free hfree]
    have hnotDue (h : s.engineAsks = false) : s.engine.dueAsked = false := (s.engineAsks_eq_false.mp h).1
    refine ⟨fun hst ha hw => ?_, fun hst c hc => ?_, fun hst => State.chosen_granted_ne_checker hst,
      fun hst hd hunit => ?_, State.chosen_engineAsks,
      fun ha hw => ⟨fun hst hp => ?_, fun hst hp => ?_, fun hst => ?_, fun hst hunit => ?_⟩, fun hst ha hw hunit => ?_⟩
    · simp [State.chosen_none hst, ha, hw]
    · rcases State.chosen_reserved hst with h | ⟨h, -⟩ <;> rw [h] at hc
      · exact (Option.some.inj hc).symm
      · contradiction
    · rw [State.chosen_granted hst hd, if_pos hunit]
    · simp [State.chosen_none hst, hw, hp]
    · rw [State.chosen_none hst, ha, hw, hp]
      cases s.arbiter.rotation.find? s.asks <;> rfl
    · exact (State.chosen_reserved hst).resolve_right fun h => absurd (h.2.2.symm.trans hw) Bool.false_ne_true
    · rw [State.chosen_granted hst (hnotDue ha), hunit, ha, hw]
      cases s.arbiter.passAsked <;> cases s.asks (.unit .t) <;> rfl
    · rw [State.chosen_granted hst (hnotDue ha), hunit, ha, hw]
      rfl
  · exact ⟨_, exec_powered (f := closeWorkGranted) rfl hp, closeWorkGranted_passAsked⟩
  · rw [State.nextGrant_free hfree] at hnext
    rw [granted_free c hfree, arbitrate_chosen hfree hnext hne]
    exact ⟨rfl, rfl⟩
  · rw [State.nextGrant_free hfree] at hnext
    exact arbitrate_stands hnext
  · intro s hfree hstate hasks hwants hrotation hchecker ht _
    have hchosen := chosen_unit_t hstate hasks hwants hrotation hchecker ht
    rw [arbitrate_chosen hfree hchosen (by decide)]
    exact ⟨rfl, by simp only [grantTo, hrotation]; decide⟩
  · exact ⟨State.nextGrant_held hheld, arbitrate_held (by rw [hheld]; exact Option.some_ne_none c), granted_held hheld⟩
  · have haccess := exec_commandTableAccess h
    exact ⟨haccess, fun hport htable => (exec_tableCommand h hport htable).trans haccess.symm⟩
  · rw [exec_powered (f := verdictGranted) rfl hp, verdictGranted_unused hnext hq]

end Sys2Proof.Machine
end

section
/-! PROOFS. The table hold (R98, R99, R105, R106, R108): its request, its grant, and its release. -/

namespace Sys2Proof.Machine

/-! ### The release (R105, R106, R108) -/

/-- The release begins, and ends at once where nothing keeps it going (R105, R108, R134). -/
theorem beginRelease_spec (s : State) :
    beginRelease s =
      if s.arbiter.grant = none ∧ s.engine.pass = none ∧ s.setAside = false then
        { s with
          hold := { s.hold with state := .none, limit := none, timer := none }
          engine := { s.engine with dueAsked := true } }
      else { s with hold := { s.hold with state := .releasing, timer := none } } := by
  unfold beginRelease
  rcases settleRelease_cases { s with hold := { s.hold with state := .releasing, timer := none } } with
    ⟨-, hgrant, hpass, haside, h⟩ | ⟨h, hno⟩
  · have hends : s.arbiter.grant = none ∧ s.engine.pass = none ∧ s.setAside = false := ⟨hgrant, hpass, haside⟩
    rw [h, if_pos hends]
  · have hstays : ¬ (s.arbiter.grant = none ∧ s.engine.pass = none ∧ s.setAside = false) := fun k => hno ⟨rfl, k⟩
    rw [h, if_neg hstays]

/-- A release that has begun goes on only while something keeps it going, so that settling it again changes nothing. -/
theorem settleRelease_beginRelease (s : State) : settleRelease (beginRelease s) = beginRelease s := by
  rw [beginRelease_spec]
  split
  · exact if_neg (by simp)
  · next hno =>
    refine (settleRelease_cases _).elim (fun ⟨_, hgrant, hpass, haside, _⟩ => ?_) fun h => h.1
    exact absurd ⟨hgrant, hpass, haside⟩ hno

/-- While a release is under way, and where it has just ended, the table is left to the engine. -/
theorem arbitrate_released {s : State} (h : s.hold.state = .releasing ∨ s.engine.dueAsked = true) :
    arbitrate s = s := by
  refine arbitrate_stands ?_
  rcases h with h | h
  · exact (State.chosen_reserved (.inr h)).elim .inr fun k => .inl k.1
  · exact .inr (State.chosen_due h)

theorem arbitrate_beginRelease (s : State) : arbitrate (beginRelease s) = beginRelease s := by
  refine arbitrate_released ?_
  rw [beginRelease_spec]
  split
  · exact .inr rfl
  · exact .inl rfl

/-! ### The hold limit, and the table given back -/

section
variable {s : State}

theorem limitOver_passed (hst : s.hold.state = .granted) (htimer : s.hold.timer = some 0) :
    limitOver s = beginRelease { s with aPort := s.aPort.latch ACause.holdRevoked.bit } :=
  (limitOver_cases s).elim (fun h => h.2.2) fun h => (h.2.elim (· hst) (· htimer)).elim

/-- The table given back in GRANTED with the limit passed: HOLD_REVOKED, and the release begins (R106). -/
theorem giveBack_revoked (hst : s.hold.state = .granted) (htimer : s.hold.timer = some 0) :
    giveBack s = beginRelease { makeInstalls { s with arbiter := { s.arbiter with grant := none } } with
      aPort := s.aPort.latch ACause.holdRevoked.bit } := by
  unfold giveBack endAccess
  rw [limitOver_passed (s := makeInstalls { s with arbiter := { s.arbiter with grant := none } }) hst htimer,
    settleRelease_beginRelease, arbitrate_beginRelease]
  rfl

/-- The table given back in RELEASING: the release that the access kept going ends with it (R108). -/
theorem giveBack_releasing (hst : s.hold.state = .releasing) :
    giveBack s =
      if s.engine.pass = none ∧ s.setAside = false then
        { makeInstalls { s with arbiter := { s.arbiter with grant := none } } with
          hold := { s.hold with state := .none, limit := none }, engine := { s.engine with dueAsked := true } }
      else makeInstalls { s with arbiter := { s.arbiter with grant := none } } := by
  have hlimit : limitOver (makeInstalls { s with arbiter := { s.arbiter with grant := none } }) =
      makeInstalls { s with arbiter := { s.arbiter with grant := none } } :=
    if_neg fun h => absurd (hst.symm.trans h.1) (by decide)
  unfold giveBack endAccess
  rw [hlimit]
  rcases settleRelease_cases (makeInstalls { s with arbiter := { s.arbiter with grant := none } }) with
    ⟨-, -, hpass, haside, h⟩ | ⟨h, hno⟩ <;> rw [h]
  · have hends : s.engine.pass = none ∧ s.setAside = false := ⟨hpass, haside⟩
    rw [if_pos hends]
    exact arbitrate_released (.inr rfl)
  · have hstays : ¬ (s.engine.pass = none ∧ s.setAside = false) := fun k => hno ⟨hst, rfl, k⟩
    rw [if_neg hstays]
    exact arbitrate_released (.inl hst)

/-! ### The grant of the hold (R99) -/

/-- With no pass in progress and no tick remembered, the engine has nothing to go on with. -/
theorem goOn_idle (hpass : s.engine.pass = none) (hremembered : s.engine.remembered = none) : goOn s = s := by
  simp [goOn, visit, startRemembered, hpass, hremembered]

theorem passOn_idle (hpass : s.engine.pass = none) (hremembered : s.engine.remembered = none)
    (hst : s.hold.state ≠ .releasing) : passOn s = s := by
  rw [passOn, goOn_idle hpass hremembered]
  exact (settleRelease_cases s).elim (fun h => absurd h.1 hst) fun h => h.1

theorem holdGrantOn_granted {n : Nat} (hst : s.hold.state = .requested) (hlimit : s.hold.limit = some n)
    (hgrant : s.arbiter.grant = none) (hpass : s.engine.pass = none) (hremembered : s.engine.remembered = none)
    (hasks : s.engineAsks = false) :
    holdGrantOn s = arbitrate { s with
      hold := { s.hold with state := .granted, timer := some (n * 10) }
      aPort := s.aPort.latch ACause.holdGranted.bit } := by
  have hmay : s.mayGrantHold = true := by simp [State.mayGrantHold, hst, hgrant, hpass, hasks]
  have hon : passOn s = s := passOn_idle hpass hremembered (by rw [hst]; decide)
  unfold holdGrantOn
  rw [hon, if_pos hmay, grantHold, hlimit]
  rfl

end

/-! ### The commands of the hold -/

section
variable {p : PortId} {s : State}

theorem workHoldRequest_badArgument (s : State) : workHoldRequest p 0 s = complete p .badArgument false [] s := rfl

theorem workHoldRequest_none {n : Word} (hn : n ≠ 0) (hst : s.hold.state = .none) :
    workHoldRequest p n s = complete p .ok false [] { s with
      hold := { s.hold with state := .requested, limit := some n.toNat }
      arbiter := { s.arbiter with checkerAsked := false } } := by
  rw [workHoldRequest, if_pos ((sequenceArg_iff n).mpr hn), if_pos hst]
  rfl

theorem workHoldRequest_busy {n : Word} (hn : n ≠ 0) (hst : s.hold.state ≠ .none) :
    workHoldRequest p n s = complete p .holdBusy false [] s := by
  rw [workHoldRequest, if_pos ((sequenceArg_iff n).mpr hn), if_neg hst]
  rfl

end

/-- Settles O39: each row by the lemma on its work, the release by `beginRelease_spec`, and the table given back by the
hold state it finds. -/
theorem holdIsRequestedGrantedReleased : Obligations.HoldIsRequestedGrantedReleased := by
  refine ⟨fun p n s h => ?_, fun p s h => ?_, fun s hp =>
    ⟨fun n hst hlimit hgrant hpass hremembered hdue hclose => ?_,
      fun hst htimer => ⟨fun hgrant => ?_, fun hgrant => ?_, ?_⟩, giveBack_releasing, ?_⟩⟩
  · rw [exec_running (work := workHoldRequest p n) rfl h]
    refine ⟨fun hn => ?_, fun hn hst => ?_, fun hn hst => ?_⟩
    · rw [hn, workHoldRequest_badArgument]
    · rw [workHoldRequest_none hn hst]
    · rw [workHoldRequest_busy hn hst]
  · rw [exec_running (work := workHoldRelease p) rfl h]
    refine ⟨fun hst => ?_, fun hst => ?_⟩
    · rw [workHoldRelease, if_pos hst, beginRelease_spec]
      rfl
    · rw [workHoldRelease, if_neg hst]
      rfl
  · rw [exec_powered (f := holdGrantOn) rfl hp, holdGrantOn_granted hst hlimit hgrant hpass hremembered
      (s.engineAsks_eq_false.mpr ⟨hdue, hclose⟩)]
  · rw [exec_powered (f := holdLimitOver) rfl hp, holdLimitOver, if_pos hgrant, limitOver_passed hst htimer,
      beginRelease_spec]
  · rw [exec_powered (f := holdLimitOver) rfl hp, holdLimitOver, if_neg hgrant]
  · rw [giveBack_revoked hst htimer, beginRelease_spec]
  · rintro (hst | hst | ⟨hst, htimer⟩)
    · exact giveBack_plain (.inl (by rw [hst]; decide)) (by rw [hst]; decide)
    · exact giveBack_plain (.inl (by rw [hst]; decide)) (by rw [hst]; decide)
    · exact giveBack_plain (.inr htimer) (by rw [hst]; decide)

end Sys2Proof.Machine
end

section
/-! PROOFS. A posting that exhausts no session (R86 to R89): what it changes beside the funds warning. -/

namespace Sys2Proof.Machine

/-- A posting of u units to the user would leave the account, if there is one, above minus every credit floor (R87). -/
def State.aboveFloors (s : State) (user u : Nat) : Prop :=
  ∀ a : Account, s.account user = some a → ∀ c : Fin 4, -((s.classRec c).floor : Int) < debited a.balance u

/-- The account table after a posting of u units (R86). -/
def State.debitedAccounts (s : State) (user u : Nat) : List Account :=
  s.accounts.map fun b => if b.user = user then
    { b with balance := debited b.balance u, periodUnits := addHold32 b.periodUnits u } else b

section
variable {s : State} {user u : Nat}

theorem debitBalance_accounts (s : State) (user u : Nat) :
    (debitBalance user u s).accounts = s.debitedAccounts user u := by
  simp [debitBalance, State.modAccount, State.debitedAccounts]

/-- A user with no account has no session to exhaust. -/
theorem State.exhaustedLines_noAccount (h : s.account user = none) : s.exhaustedLines user = [] := by
  refine List.filter_eq_nil_iff.mpr fun i _ hi => ?_
  obtain ⟨x, -, hx⟩ := (Option.any_eq_true _ _).mp hi
  simp only [Bool.and_eq_true, beq_iff_eq] at hx
  obtain ⟨⟨-, rfl⟩, hexhausted⟩ := hx
  rw [State.exhausted, h, Option.any_none] at hexhausted
  contradiction

/-- A user with no account still has none where an account changes. -/
theorem State.account_modAccount_none {f : Account → Account} (h : s.account user = none)
    (hf : ∀ b, (f b).user = b.user) : (s.modAccount u f).account user = none := by
  refine List.find?_eq_none.mpr fun b hb => ?_
  obtain ⟨a, ha, rfl⟩ := List.mem_map.mp hb
  have hne : ¬ (a.user == user) = true := List.find?_eq_none.mp h a ha
  split
  · rwa [hf]
  · exact hne

theorem debitBalance_noAccount (h : s.account user = none) : (debitBalance user u s).account user = none :=
  State.account_modAccount_none h fun _ => rfl

/-- A posting above every floor is the debit and its funds warning, and a posting to no account does nothing else. -/
theorem post_aboveFloors (hu : u ≠ 0) (h : s.aboveFloors user u) :
    post user u s = fundsWarning [] user (debitBalance user u s) := by
  cases ha : s.account user with
  | some a => exact post_unexhausted hu ha (h a ha)
  | none =>
    have hnil := State.exhaustedLines_noAccount (debitBalance_noAccount (u := u) ha)
    rw [post_graceful hu (by rw [State.zeroGraceLines, hnil, List.filter_nil]), exhaust_none hnil]

/-- The state after a posting above every floor: the debit, and on each line the funds warning at most. -/
theorem post_aboveFloors_warns (hu : u ≠ 0) (h : s.aboveFloors user u) (hopen : s.openInSession) :
    (debitBalance user u s).sendFrame (post user u s) ∧
      ∀ i, (debitBalance user u s).warns (post user u s) user i := by
  rw [post_aboveFloors hu h]
  exact fundsWarning_warns (s := debitBalance user u s) hopen user

theorem post_aboveFloors_accounts (hu : u ≠ 0) (h : s.aboveFloors user u) (hopen : s.openInSession) :
    (post user u s).accounts = s.debitedAccounts user u := by
  rw [(post_aboveFloors_warns hu h hopen).1.beside.1, debitBalance_accounts]

theorem post_aboveFloors_deferred (hu : u ≠ 0) (h : s.aboveFloors user u) (hopen : s.openInSession) :
    (post user u s).deferred = s.deferred := (post_aboveFloors_warns hu h hopen).1.beside.2.2.2

/-- The funds warning leaves a session's unposted units. -/
theorem post_aboveFloors_unposted (hu : u ≠ 0) (h : s.aboveFloors user u) (hopen : s.openInSession) (i : LineId) :
    ((post user u s).session i).map Session.unpostedUnits = (s.session i).map Session.unpostedUnits := by
  obtain ⟨-, sent, hsession⟩ := ((post_aboveFloors_warns hu h hopen).2 i).line
  rw [hsession, Option.map_map]
  rfl

end

end Sys2Proof.Machine
end

section
/-! PROOFS. The postings of a release (R107, R108), and the access of R134 after it. -/

namespace Sys2Proof.Machine

/-! ### The order of the postings (R107) -/

theorem State.unposted_setAside {s : State} {i : LineId} {x : Session} (hx : s.session i = some x)
    (h : 0 < x.unpostedUnits) : s.setAside = true := by
  have hx : (s.line i).session = some x := hx
  exact s.setAside_iff.mpr (.inr ⟨i, by simp [LineRec.unposted, hx, h]⟩)

/-- The lowest line of which a condition holds is found. -/
theorem find?_allLines {f : LineId → Bool} {i : LineId} (hi : f i = true) (hlow : ∀ j, j < i → f j = false) :
    allLines.find? f = some i := by
  cases hfind : allLines.find? f with
  | none => exact absurd hi (List.find?_eq_none.mp hfind i (mem_allLines i))
  | some k =>
    obtain ⟨hk, as, bs, hsplit, has⟩ := List.find?_eq_some_iff_append.mp hfind
    have hsorted : allLines.Pairwise (· < ·) := List.pairwise_lt_finRange 32
    rw [hsplit] at hsorted
    have hmem := mem_allLines i
    rw [hsplit, List.mem_append, List.mem_cons] at hmem
    rcases hmem with hmem | rfl | hmem
    · exact absurd (has i hmem) (by simp [hi])
    · rfl
    · obtain ⟨-, hrest, -⟩ := List.pairwise_append.mp hsorted
      exact absurd hk (by rw [hlow k ((List.pairwise_cons.mp hrest).1 i hmem)]; decide)

/-- The oldest deferred entry is posted first. -/
theorem releaseStep_deferred {s : State} {e : Deferred} {rest : List Deferred} (h : s.deferred = e :: rest) :
    releaseStep s = post e.user e.units { s with deferred := rest } := by
  unfold releaseStep
  split
  · next e' rest' h' =>
    obtain ⟨rfl, rfl⟩ := List.cons.inj (h.symm.trans h')
    rfl
  · next h' => exact absurd (h.symm.trans h') (List.cons_ne_nil e rest)

/-- With no deferred entry, the unposted units of the lowest line that has some are posted. -/
theorem releaseStep_unposted {s : State} {i : LineId} {x : Session} (hdeferred : s.deferred = [])
    (hx : s.session i = some x) (hunits : 0 < x.unpostedUnits)
    (hlow : ∀ (j : LineId) (y : Session), j < i → s.session j = some y → y.unpostedUnits = 0) :
    releaseStep s = post x.user x.unpostedUnits (s.modSession i fun x => { x with unpostedUnits := 0 }) := by
  have hfind : (allLines.find? fun i => (s.session i).any fun x => decide (0 < x.unpostedUnits)) = some i := by
    refine find?_allLines (by simp [hx, hunits]) fun j hj => ?_
    cases hy : s.session j with
    | none => rfl
    | some y => simp [hlow j y hj hy]
  unfold releaseStep
  split
  · next e rest h => exact absurd (hdeferred.symm.trans h).symm (List.cons_ne_nil e rest)
  · simp only [hfind, hx]

theorem State.session_modSession (s : State) (i : LineId) (f : Session → Session) :
    (s.modSession i f).session i = (s.session i).map f := congrArg LineRec.session (s.line_modLine i _)

theorem State.session_modSession_ne (s : State) {i j : LineId} (f : Session → Session) (h : j ≠ i) :
    (s.modSession i f).session j = s.session j := congrArg LineRec.session (s.line_modLine_ne _ (Ne.symm h))

/-- A change to a session part that leaves its state keeps the open sessions on lines in SESSION. -/
theorem State.openInSession.modSession {s : State} (h : s.openInSession) (i : LineId) {f : Session → Session}
    (hf : ∀ x, (f x).state = x.state) : (s.modSession i f).openInSession := fun j y hy => by
  obtain ⟨hsession, hopen⟩ := (State.openSession_iff _ j y).mp hy
  by_cases hj : j = i
  · subst hj
    rw [State.modSession, State.line_modLine] at hsession
    obtain ⟨x, hx, rfl⟩ := Option.map_eq_some_iff.mp hsession
    rw [State.modSession, State.line_modLine]
    exact h j x ((s.openSession_iff j x).mpr ⟨hx, hf x ▸ hopen⟩)
  · have hline : (s.modSession i f).line j = s.line j := State.line_modLine_ne _ _ (Ne.symm hj)
    rw [hline] at hsession ⊢
    exact h j y ((s.openSession_iff j y).mpr ⟨hsession, hopen⟩)

theorem State.workFrame.release {s t : State} (h : s.workFrame t) :
    t.hold = s.hold ∧ t.arbiter.grant = s.arbiter.grant ∧ t.engine.pass = s.engine.pass := by
  unfold State.workFrame at h
  rw [h]
  exact ⟨rfl, rfl, rfl⟩

/-! ### A posting of the release, with what it leaves (R107, R108) -/

section
variable {s : State}

/-- While something is set aside, a release with no pass in progress waits for its postings. -/
theorem passOn_releasing (hst : s.hold.state = .releasing) (hpass : s.engine.pass = none)
    (haside : s.setAside = true) : passOn s = s := by
  have hgoOn : goOn s = s := by
    unfold goOn
    rw [show visit s = s by simp [visit, hpass], startRemembered]
    split
    · exact if_pos (by simp [hst])
    · rfl
  rw [passOn, hgoOn]
  rcases settleRelease_cases s with ⟨-, -, -, h, -⟩ | ⟨h, -⟩
  · exact absurd (h.symm.trans haside) Bool.false_ne_true
  · exact h

/-- The release goes on while something is set aside, and else it has ended (R108, R134). -/
def State.releaseEnds (t : State) : Prop :=
  if t.setAside then t.hold.state = .releasing
  else t.hold.state = .none ∧ t.hold.limit = none ∧ t.engine.dueAsked = true

theorem settleRelease_ends (hst : s.hold.state = .releasing) (hgrant : s.arbiter.grant = none)
    (hpass : s.engine.pass = none) : (settleRelease s).releaseEnds := by
  rcases settleRelease_cases s with ⟨-, -, -, haside, h⟩ | ⟨h, hno⟩ <;> rw [h]
  · show if s.setAside then HoldState.none = .releasing else _
    rw [if_neg (by rw [haside]; exact Bool.false_ne_true)]
    exact ⟨rfl, rfl, rfl⟩
  · have haside : s.setAside = true := Bool.not_eq_false _ ▸ fun k => hno ⟨hst, hgrant, hpass, k⟩
    rwa [State.releaseEnds, if_pos haside]

/-- With something set aside and no pass in progress, the row makes the next posting where no close work waits. -/
theorem releasePostingOn_eq (hst : s.hold.state = .releasing) (hpass : s.engine.pass = none)
    (hgrant : s.arbiter.grant = none) (haside : s.setAside = true) :
    releasePostingOn s = if s.engine.closeWork = [] then settleRelease (releaseStep s) else s := by
  unfold releasePostingOn
  rw [passOn_releasing hst hpass haside]
  simp [State.mayPostRelease, hst, hgrant, hpass]

/-- A posting of the release above every floor, from a state u that still has it to make: the debit is all that it does
beside what the funds warning marks, and the release then goes on or ends. -/
theorem settleRelease_post {u : State} {user units : Nat} (hst : u.hold.state = .releasing)
    (hgrant : u.arbiter.grant = none) (hpass : u.engine.pass = none) (hunits : units ≠ 0)
    (habove : u.aboveFloors user units) (hopen : u.openInSession) :
    let t := settleRelease (post user units u)
    t.deferred = u.deferred ∧ t.accounts = u.debitedAccounts user units ∧
      (∀ i, (t.session i).map Session.unpostedUnits = (u.session i).map Session.unpostedUnits) ∧ t.releaseEnds := by
  obtain ⟨hhold, hgrant', hpass'⟩ := (workFrame_post u user units).release
  have hends := settleRelease_ends (s := post user units u) (by rw [hhold, hst]) (by rw [hgrant', hgrant])
    (by rw [hpass', hpass])
  refine ⟨?_, ?_, fun i => ?_, hends⟩
  · rw [settleRelease_eq]
    exact post_aboveFloors_deferred hunits habove hopen
  · rw [settleRelease_eq]
    exact post_aboveFloors_accounts hunits habove hopen
  · rw [settleRelease_eq]
    exact post_aboveFloors_unposted hunits habove hopen i

end

/-! ### The seconds due (R134) -/

/-- No account's period seconds are above the value at which they hold. -/
def State.secondsHeld (s : State) : Prop := ∀ b ∈ s.accounts, b.periodSeconds ≤ Config.max32

/-- Each account is paid the seconds that `due` gives for its user. -/
def State.pays (s t : State) (due : Nat → Nat) : Prop :=
  t.accounts = s.accounts.map fun b => { b with periodSeconds := addHold32 b.periodSeconds (due b.user) }

theorem addHold32_add (n a b : Nat) : addHold32 (addHold32 n a) b = addHold32 n (a + b) := by
  simp only [addHold32]
  omega

theorem addHold32_zero {n : Nat} (h : n ≤ Config.max32) : addHold32 n 0 = n := Nat.min_eq_left h

section
variable {s t u : State} {due more : Nat → Nat}

theorem State.pays.secondsHeld (h : s.pays t due) : t.secondsHeld := by
  unfold State.pays at h
  intro b hb
  rw [h] at hb
  obtain ⟨a, -, rfl⟩ := List.mem_map.mp hb
  exact Nat.min_le_right ..

theorem State.pays.trans (h : s.pays t due) (k : t.pays u more) : s.pays u fun user => due user + more user := by
  unfold State.pays at *
  rw [k, h, List.map_map]
  exact List.map_congr_left fun b _ => by simp [addHold32_add]

theorem State.pays_zero (h : s.secondsHeld) (hsame : t.accounts = s.accounts) : s.pays t fun _ => 0 := by
  refine hsame.trans ((List.map_congr_left fun b hb => ?_).trans (List.map_id _)).symm
  rw [addHold32_zero (h b hb)]
  rfl

/-- Seconds added to one account are paid to no other. -/
theorem pays_addPeriodSeconds (h : s.secondsHeld) (user n : Nat) :
    s.pays (addPeriodSeconds user n s) fun v => if user = v then n else 0 := by
  refine List.map_congr_left fun b hb => ?_
  by_cases huser : b.user = user
  · simp [huser]
  · simp [huser, Ne.symm huser, addHold32_zero (h b hb)]

/-- The seconds-due entries are paid to the accounts that they name. -/
theorem pays_entries (es : List DueEntry) (h : s.secondsHeld) :
    s.pays (es.foldl (fun s e => addPeriodSeconds e.user e.seconds s) s) fun user =>
      ((es.filter fun e => e.user == user).map DueEntry.seconds).sum := by
  induction es generalizing s with
  | nil => exact State.pays_zero h rfl
  | cons e es ih =>
    have hfirst := pays_addPeriodSeconds h e.user e.seconds
    have hsum : (fun user => (((e :: es).filter fun e => e.user == user).map DueEntry.seconds).sum) = fun user =>
        (if e.user = user then e.seconds else 0) + ((es.filter fun e => e.user == user).map DueEntry.seconds).sum := by
      funext user
      by_cases huser : e.user = user <;> simp [huser]
    rw [hsum]
    exact hfirst.trans (ih hfirst.secondsHeld)

theorem pays_payDueList (h : s.secondsHeld) : s.pays (payDueList s) fun user =>
    ((s.engine.secondsDue.filter fun e => e.user == user).map DueEntry.seconds).sum :=
  pays_entries s.engine.secondsDue h

end

/-- The unposted seconds of line i's session part, where it is the user's. -/
def State.secondsOf (s : State) (user : Nat) (i : LineId) : Nat :=
  (s.session i).elim 0 fun x => if x.user = user then x.unpostedSeconds else 0

/-- A session part with its unposted seconds paid (R134). -/
def Session.paid (x : Session) : Session := { x with unpostedSeconds := 0 }

/-- What is paid for one line. -/
theorem payUnpostedSeconds_spec {s : State} (h : s.secondsHeld) (i : LineId) :
    let t := payUnpostedSeconds i s
    (s.pays t fun user => s.secondsOf user i) ∧ t.session i = (s.session i).map Session.paid ∧
      (∀ j, j ≠ i → t.session j = s.session j) ∧ t.engine = s.engine := by
  unfold payUnpostedSeconds State.secondsOf
  split
  · next hx => exact ⟨by simpa [hx] using State.pays_zero h rfl, by rw [hx]; rfl, fun _ _ => rfl, rfl⟩
  · next x hx =>
    refine ⟨?_, State.session_modSession _ i _, fun j hj => State.session_modSession_ne _ _ hj, rfl⟩
    rw [hx]
    exact pays_addPeriodSeconds h x.user x.unpostedSeconds

theorem fold_payUnpostedSeconds_spec (is : List LineId) (hnodup : is.Nodup) {s : State} (h : s.secondsHeld) :
    let t := is.foldl (fun s i => payUnpostedSeconds i s) s
    (s.pays t fun user => (is.map (s.secondsOf user)).sum) ∧ (∀ i ∈ is, t.session i = (s.session i).map Session.paid) ∧
      (∀ i ∉ is, t.session i = s.session i) ∧ t.engine = s.engine := by
  induction is generalizing s with
  | nil => exact ⟨State.pays_zero h rfl, fun i hi => absurd hi List.not_mem_nil, fun _ _ => rfl, rfl⟩
  | cons i rest ih =>
    obtain ⟨hi, hrest⟩ := List.nodup_cons.mp hnodup
    obtain ⟨hpays, hpaid, hothers, hengine⟩ := payUnpostedSeconds_spec h i
    obtain ⟨hpays', hpaid', hothers', hengine'⟩ := ih hrest hpays.secondsHeld
    have hne {j : LineId} (hj : j ∈ rest) : j ≠ i := fun e => hi (e ▸ hj)
    refine ⟨?_, fun j hj => ?_, fun j hj => ?_, hengine'.trans hengine⟩
    · have hlater (user : Nat) :
          rest.map ((payUnpostedSeconds i s).secondsOf user) = rest.map (s.secondsOf user) :=
        List.map_congr_left fun j hj => by rw [State.secondsOf, State.secondsOf, hothers j (hne hj)]
      simp only [hlater] at hpays'
      simp only [List.map_cons, List.sum_cons]
      exact hpays.trans hpays'
    · rcases List.mem_cons.mp hj with rfl | hj
      · exact (hothers' j hi).trans hpaid
      · exact (hpaid' j hj).trans (by rw [hothers j (hne hj)])
    · rw [List.mem_cons, not_or] at hj
      exact (hothers' j hj.2).trans (hothers j hj.1)

/-- The access of R134: what is due is paid to the accounts, and nothing is due after it. -/
theorem payDue_spec {s : State} (h : s.secondsHeld) :
    let t := payDue s
    (s.pays t fun user => ((s.engine.secondsDue.filter fun e => e.user == user).map DueEntry.seconds).sum +
        (allLines.map (s.secondsOf user)).sum) ∧
      t.engine.secondsDue = [] ∧ t.engine.dueAsked = false ∧ ∀ i, t.session i = (s.session i).map Session.paid := by
  have hlist := pays_payDueList h
  have hline (i : LineId) : (payDueList s).line i = s.line i := by rw [payDueList_eq]; rfl
  have hlines := fold_payUnpostedSeconds_spec allLines allLines_nodup hlist.secondsHeld
  have hsame (user : Nat) : (payDueList s).secondsOf user = s.secondsOf user := by
    funext i
    rw [State.secondsOf, State.session, hline]
    rfl
  unfold payDue State.forLines
  generalize allLines.foldl (fun s i => payUnpostedSeconds i s) (payDueList s) = v at *
  obtain ⟨hpays, hpaid, -, hengine⟩ := hlines
  simp only [hsame] at hpays
  refine ⟨hlist.trans hpays, ?_, rfl, fun i => ?_⟩
  · exact (congrArg Engine.secondsDue hengine).trans (by rw [payDueList_eq])
  · refine (hpaid i (mem_allLines i)).trans ?_
    rw [State.session, hline]
    rfl

/-! ### A remembered pass that starts after the access leaves what was due (R129, R134) -/

/-- Nothing comes to be due, or is paid. -/
structure State.keepsDue (s t : State) : Prop where
  secondsDue : t.engine.secondsDue = s.engine.secondsDue
  dueAsked : t.engine.dueAsked = s.engine.dueAsked
  unposted : ∀ i, (t.session i).map Session.unpostedSeconds = (s.session i).map Session.unpostedSeconds

theorem State.keepsDue.refl (s : State) : s.keepsDue s := ⟨rfl, rfl, fun _ => rfl⟩

theorem State.keepsDue.trans {s t u : State} (h : s.keepsDue t) (k : t.keepsDue u) : s.keepsDue u :=
  ⟨k.secondsDue.trans h.secondsDue, k.dueAsked.trans h.dueAsked, fun i => (k.unposted i).trans (h.unposted i)⟩

theorem keepsDue_heldSecond (i : LineId) (s : State) : s.keepsDue (heldSecond i s) := by
  unfold heldSecond
  split
  · exact .refl s
  · next x _ =>
    extract_lets sum
    have hsum : s.keepsDue sum.2 := by
      unfold sum addStated
      split
      · exact .refl s
      · exact ⟨rfl, rfl, fun _ => rfl⟩
    refine hsum.trans ⟨rfl, rfl, fun j => ?_⟩
    by_cases hj : j = i
    · rw [hj, State.session_modSession, Option.map_map]
      rfl
    · rw [State.session_modSession_ne _ _ hj]

theorem keepsDue_visitLines (t : Tick) (is : List LineId) (s : State) : s.keepsDue (visitLines t is s) := by
  induction is generalizing s with
  | nil => exact ⟨rfl, rfl, fun _ => rfl⟩
  | cons i rest ih =>
    unfold visitLines
    split
    · split
      · exact ⟨rfl, rfl, fun _ => rfl⟩
      · split
        · exact (keepsDue_heldSecond i s).trans (ih _)
        · exact ih s
    · exact ih s

theorem keepsDue_endPass (s : State) : s.keepsDue (endPass s) := by
  unfold endPass
  split
  · exact ⟨rfl, rfl, fun _ => rfl⟩
  · exact .refl s

theorem keepsDue_visit (s : State) : s.keepsDue (visit s) := by
  unfold visit
  split
  · exact .refl s
  · exact (keepsDue_visitLines _ _ s).trans (keepsDue_endPass _)

theorem keepsDue_startPass (t : Tick) (s : State) : s.keepsDue (startPass t s) := by
  unfold startPass
  refine State.keepsDue.trans ?_ (keepsDue_visit _)
  exact ⟨rfl, rfl, fun _ => rfl⟩

theorem keepsDue_startRemembered (s : State) : s.keepsDue (startRemembered s) := by
  unfold startRemembered
  split
  · split
    · exact .refl s
    · exact State.keepsDue.trans (t := { s with engine := { s.engine with remembered := none } })
        ⟨rfl, rfl, fun _ => rfl⟩ (keepsDue_startPass _ _)
  · exact .refl s

theorem keepsDue_arbitrate (s : State) : s.keepsDue (arbitrate s) := by
  rw [arbitrate_eq]
  exact ⟨rfl, rfl, fun _ => rfl⟩

/-- The row of R134, with the pass of a remembered tick that may start behind it. -/
theorem secondsDueOn_spec {s : State} (hdue : s.engine.dueAsked = true) (hgrant : s.arbiter.grant = none) :
    (payDue s).keepsDue (secondsDueOn s) ∧ (secondsDueOn s).accounts = (payDue s).accounts := by
  rw [secondsDueOn, if_pos ⟨hdue, hgrant⟩, arbitrate_accounts, startRemembered_accounts]
  exact ⟨(keepsDue_startRemembered _).trans (keepsDue_arbitrate _), rfl⟩

/-! ### The obligation -/

/-- Settles O40: a posting is `settleRelease_post` for what `releaseStep` takes next, and R134's access is `payDue_spec`
with the start of a remembered pass after it. -/
theorem releasePostsInOrder : Obligations.ReleasePostsInOrder := by
  refine ⟨fun s hp hlaw hst hpass hgrant => ?_, fun s hp hdue hgrant hheld => ?_⟩
  · intro safe posted ends
    have hopen := State.openInSession_of_lineLaw hp hlaw
    have hrow (haside : s.setAside = true) :
        exec .releasePosting s = .next (if s.engine.closeWork = [] then settleRelease (releaseStep s) else s) := by
      rw [exec_powered (f := releasePostingOn) rfl hp, releasePostingOn_eq hst hpass hgrant haside]
    refine ⟨fun hclose haside => ?_, fun e rest hclose hdeferred hunits hsafe => ?_,
      fun i x hclose hdeferred hx hunits hlow hsafe => ?_⟩
    · rw [hrow haside, if_neg hclose]
    · have haside : s.setAside = true := s.setAside_iff.mpr (.inl (by rw [hdeferred]; exact List.cons_ne_nil e rest))
      rw [hrow haside, if_pos hclose, releaseStep_deferred hdeferred]
      exact ⟨_, rfl, settleRelease_post (u := { s with deferred := rest }) hst hgrant hpass
        (Nat.pos_iff_ne_zero.mp hunits) hsafe hopen⟩
    · rw [hrow (State.unposted_setAside hx hunits), if_pos hclose, releaseStep_unposted hdeferred hx hunits hlow]
      obtain ⟨hdeferred', haccounts, hunposted, hends⟩ :=
        settleRelease_post (u := s.modSession i fun x => { x with unpostedUnits := 0 }) hst hgrant hpass
          (Nat.pos_iff_ne_zero.mp hunits) hsafe (hopen.modSession i fun _ => rfl)
      refine ⟨_, rfl, hdeferred'.trans hdeferred, haccounts, ?_, fun j hj => ?_, hends⟩
      · rw [hunposted, State.session_modSession, hx]
        rfl
      · rw [hunposted, State.session_modSession_ne _ _ hj]
  · intro due
    obtain ⟨hpays, hlist, hasked, hpaid⟩ := payDue_spec hheld
    obtain ⟨hkeeps, haccounts⟩ := secondsDueOn_spec hdue hgrant
    refine ⟨_, exec_powered (f := secondsDueOn) rfl hp, hkeeps.secondsDue.trans hlist, hkeeps.dueAsked.trans hasked,
      fun i x hx => ?_, haccounts.trans hpays⟩
    have hmap := hkeeps.unposted i
    rw [hx, hpaid, Option.map_map] at hmap
    obtain ⟨y, -, hy⟩ := Option.map_eq_some_iff.mp hmap.symm
    exact hy.symm

end Sys2Proof.Machine
end

section
/-! PROOFS. Close work (R95, R102, R134, R141, R145, R146): the rounding unit, the record, and the end of the line. -/

namespace Sys2Proof.Machine

/-! ### The record of a session takes the place of its line's reservation (R145, R171, R179, R180) -/

/-- The A port after the write of a record. -/
def State.recordLatched (s : State) : PortUnit :=
  let u := s.aPort.latch ACause.billing.bit
  if Config.billingHigh ≤ s.billing.records.length + 1 then u.latch ACause.billingHigh.bit else u

theorem writeRecord_eq (r : Nat → BillingRecord) (s : State) : writeRecord r s = { s with
    aPort := s.recordLatched
    billing := { s.billing with
      records := s.billing.records ++ [r s.billing.sequence], sequence := nextCounter s.billing.sequence } } := by
  unfold writeRecord State.recordLatched
  simp only [State.billingHighCond, latchA, State.modPort_billing, List.length_append, List.length_singleton,
    decide_eq_true_eq]
  split <;> rfl

/-- The last steps of account work: the session part as it is kept, the record of x, and the open count (R145). -/
def State.recorded (s : State) (i : LineId) (kept x : Session) (up : Bool) : State :=
  lowerOpenCount x.user (dropReservation i (writeRecord (recordOf i x up) (s.modSession i fun _ => kept)))

/-- What account work leaves, beside the accounts, what is set aside and what is due. -/
structure State.closeWorked (s v : State) (i : LineId) (kept : Session) (r : BillingRecord) : Prop where
  line : v.line i = { s.line i with session := some kept, reserved := false }
  billing : v.billing =
    { records := s.billing.records ++ [r], sequence := nextCounter s.billing.sequence
      reservations := s.billing.reservations - 1 }
  aPort : v.aPort = s.recordLatched
  input : v.input = s.input
  hold : v.hold = s.hold
  pass : v.engine.pass = s.engine.pass
  closeWork : v.engine.closeWork = s.engine.closeWork

section
variable {s : State} {i : LineId} {x y kept : Session} {up : Bool}

theorem State.recorded_eq (hx : s.session i = some x) (hreserved : (s.line i).reserved = true) :
    s.recorded i kept y up =
      { s.setLine i { s.line i with session := some kept, reserved := false } with
        aPort := s.recordLatched
        billing :=
          { records := s.billing.records ++ [recordOf i y up s.billing.sequence]
            sequence := nextCounter s.billing.sequence
            reservations := s.billing.reservations - 1 }
        accounts := s.accounts.map fun b =>
          if b.user = y.user then { b with openCount := b.openCount - 1 } else b } := by
  have hx : (s.line i).session = some x := hx
  have hkept : s.modSession i (fun _ => kept) = s.setLine i { s.line i with session := some kept } := by
    rw [State.modSession, State.modLine_eq, hx]; rfl
  rw [State.recorded, writeRecord_eq, dropReservation_eq, lowerOpenCount, hkept]
  have hreserved : (s.lines.get i).reserved = true := hreserved
  simp [State.modAccount, State.setLine, State.line, Bank.set_set, hreserved, State.recordLatched]

theorem State.recorded_worked (hx : s.session i = some x) (hreserved : (s.line i).reserved = true) :
    s.closeWorked (s.recorded i kept y up) i kept (recordOf i y up s.billing.sequence) := by
  rw [State.recorded_eq hx hreserved]
  exact ⟨s.line_setLine i _, rfl, rfl, rfl, rfl, rfl, rfl⟩

end

/-! ### Close rounding, and what a hold sets aside (R102, R134, R141, Table 7-3) -/

/-- A closed session with its account work done and its rounding unit, if the class gives one. -/
def Session.rounded (x : Session) (up : Bool) : Session :=
  { x with connectUnits := if up then x.connectUnits + 1 else x.connectUnits, work := some .done }

/-- The same session under a hold, which also sets the rounding unit aside. -/
def Session.roundedAside (x : Session) (up : Bool) : Session :=
  { x with
    connectUnits := if up then x.connectUnits + 1 else x.connectUnits
    work := some .done
    unpostedUnits := if up then min (x.unpostedUnits + 1) 65535 else x.unpostedUnits
    saturated := x.saturated || (up && decide (65535 < x.unpostedUnits + 1)) }

/-- The same session once what was unposted is set aside. -/
def Session.drained (x : Session) (up : Bool) : Session :=
  { x.roundedAside up with unpostedUnits := 0, unpostedSeconds := 0 }

theorem Session.addUnposted_eq (x : Session) (u : Nat) : x.addUnposted u =
    { x with
      unpostedUnits := min (x.unpostedUnits + u) 65535
      saturated := x.saturated || decide (65535 < x.unpostedUnits + u) } := by
  unfold Session.addUnposted
  split
  · next h => simp [Nat.min_eq_left h, Nat.not_lt.mpr h]
  · next h => simp [Nat.min_eq_right (Nat.le_of_not_le h), Nat.not_le.mp h]

theorem Session.rounded_aside (x : Session) (up : Bool) :
    (if up then (x.rounded up).addUnposted 1 else x.rounded up) = x.roundedAside up := by
  cases up
  · simp [Session.rounded, Session.roundedAside]
  · simp [Session.addUnposted_eq, Session.rounded, Session.roundedAside]

/-- The CLOSE entry and the seconds-due entry of a session, where it has any to make (R102, R134). -/
theorem divertClose_eq (x : Session) (s : State) : divertClose x s = { s with
    deferred := s.deferred ++ (if 0 < x.unpostedUnits then [⟨x.user, x.unpostedUnits, .close⟩] else [])
    engine := { s.engine with secondsDue := s.engine.secondsDue ++
      (if 0 < x.unpostedSeconds then [⟨x.user, x.unpostedSeconds⟩] else []) } } := by
  unfold divertClose
  dsimp only
  split <;> split <;> simp

section
variable {post : Nat → Nat → State → State} {s : State} {i : LineId} {x : Session}

theorem addStated_room (k : Config.Unstated) {n : Nat} (s : State) (h : n < 4294967295) :
    addStated k n 1 s = (n + 1, s) := if_pos h

theorem State.recorded_diverting (s : State) (i : LineId) (kept x : Session) (up : Bool) :
    (s.recorded i kept x up).diverting = s.diverting := by
  rw [State.recorded, writeRecord_eq, dropReservation_eq]
  rfl

/-- Account work where the session's units have room for the rounding unit. -/
theorem accountWork_rounded (hx : s.session i = some x) (hunits : x.connectUnits < 4294967295) :
    let up := (s.classRec x.cls).rounding.extra x.residue
    let z := if up && s.diverting then (x.rounded up).addUnposted 1 else x.rounded up
    let kept := if s.diverting then { z with unpostedUnits := 0, unpostedSeconds := 0 } else z
    let v := (if s.diverting then divertClose z s else s).recorded i kept z up
    accountWork post i s = if up && !s.diverting then post z.user 1 v else v := by
  intro up z kept v
  have hv : v.diverting = s.diverting := by
    unfold v
    rw [State.recorded_diverting, divertClose_eq]
    split <;> rfl
  have hsum : (if up then addStated .connectUnits x.connectUnits 1 s else (x.connectUnits, s)) =
      ((x.rounded up).connectUnits, s) := by
    rw [addStated_room _ s hunits, Session.rounded]
    cases up <;> rfl
  unfold accountWork
  split
  · next h => exact absurd (hx.symm.trans h) (Option.some_ne_none x)
  · next y h =>
    obtain rfl : x = y := Option.some.inj (hx.symm.trans h)
    extract_lets sum
    have hpair : sum = ((x.rounded up).connectUnits, s) := hsum
    clear_value sum
    subst hpair
    show (if up && !v.diverting then post z.user 1 v else v) = _
    rw [hv]

/-- With the hold NONE or REQUESTED the record is followed by the posting of the rounding unit. -/
theorem accountWork_posting {up : Bool} (hx : s.session i = some x) (hunits : x.connectUnits < 4294967295)
    (hup : (s.classRec x.cls).rounding.extra x.residue = up) (hd : s.diverting = false) :
    let v := s.recorded i (x.rounded up) (x.rounded up) up
    accountWork post i s = if up then post x.user 1 v else v := by
  have h := accountWork_rounded (post := post) hx hunits
  simp only [hup, hd, Bool.and_false, Bool.not_false, Bool.and_true, Bool.false_eq_true, if_false] at h
  exact h

/-- With the hold GRANTED or RELEASING what is unposted is set aside, and nothing is posted. -/
theorem accountWork_diverting {up : Bool} (hx : s.session i = some x) (hunits : x.connectUnits < 4294967295)
    (hup : (s.classRec x.cls).rounding.extra x.residue = up) (hd : s.diverting = true) :
    accountWork post i s =
      (divertClose (x.roundedAside up) s).recorded i (x.drained up) (x.roundedAside up) up := by
  have h := accountWork_rounded (post := post) hx hunits
  simp only [hup, hd, Bool.and_true, Bool.not_true, Bool.and_false, Bool.false_eq_true, if_true, if_false,
    Session.rounded_aside] at h
  exact h

end

/-! ### What the account work leaves -/

section
variable {s : State} {i : LineId} {x : Session} {up : Bool}

theorem State.recorded_deferred (s : State) (i : LineId) (kept x : Session) (up : Bool) :
    (s.recorded i kept x up).deferred = s.deferred := by
  rw [State.recorded, writeRecord_eq, dropReservation_eq]
  rfl

/-- Account work that sets aside (R102, R134). -/
theorem diverted_worked (hx : s.session i = some x) (hreserved : (s.line i).reserved = true) :
    let v := (divertClose (x.roundedAside up) s).recorded i (x.drained up) (x.roundedAside up) up
    s.closeWorked v i (x.drained up) (recordOf i (x.roundedAside up) up s.billing.sequence) ∧
      v.deferred = s.deferred ++ (if 0 < (x.roundedAside up).unpostedUnits then
        [⟨x.user, (x.roundedAside up).unpostedUnits, .close⟩] else []) ∧
      v.engine.secondsDue = s.engine.secondsDue ++
        (if 0 < x.unpostedSeconds then [⟨x.user, x.unpostedSeconds⟩] else []) ∧
      v.accounts = s.accounts.map fun b => if b.user = x.user then { b with openCount := b.openCount - 1 } else b := by
  intro v
  have hv : v = _ := State.recorded_eq (s := divertClose (x.roundedAside up) s) (i := i) (x := x)
    (by rw [divertClose_eq]; exact hx) (by rw [divertClose_eq]; exact hreserved)
  rw [hv, divertClose_eq]
  exact ⟨⟨s.line_setLine i _, rfl, rfl, rfl, rfl, rfl, rfl⟩, rfl, rfl, rfl⟩

/-- The open count is no matter for the floors. -/
theorem State.aboveFloors.lowered {user u : Nat} (h : s.aboveFloors user u) :
    (lowerOpenCount user s).aboveFloors user u := by
  intro b hb
  cases ha : s.account user with
  | none =>
    have hnone : (lowerOpenCount user s).account user = none := State.account_modAccount_none ha fun _ => rfl
    exact absurd (hnone.symm.trans hb) (Option.some_ne_none b).symm
  | some a =>
    have hsome : (lowerOpenCount user s).account user = some { a with openCount := a.openCount - 1 } :=
      State.account_modAccount (f := fun a => { a with openCount := a.openCount - 1 }) ha fun _ => rfl
    obtain rfl := Option.some.inj (hsome.symm.trans hb)
    exact h a ha

theorem State.recorded_aboveFloors {u : Nat} (h : s.aboveFloors x.user u) (kept : Session) :
    (s.recorded i kept x up).aboveFloors x.user u := by
  refine State.aboveFloors.lowered ?_
  rw [writeRecord_eq, dropReservation_eq]
  exact h

theorem State.closeWorked.session {v : State} {kept : Session} {r : BillingRecord} (h : s.closeWorked v i kept r) :
    v.session i = some kept := by
  rw [State.session, h.line]

theorem State.recorded_openInSession {kept y : Session} (hx : s.session i = some x)
    (hreserved : (s.line i).reserved = true) (hclosed : kept.state.isOpen = false) (hopen : s.openInSession) :
    (s.recorded i kept y up).openInSession := by
  intro j z hz
  obtain ⟨hsession, hzopen⟩ := (State.openSession_iff _ j z).mp hz
  by_cases hj : j = i
  · subst hj
    have hkept : _ = some kept := (State.recorded_worked (up := up) (y := y) hx hreserved).session
    obtain rfl := Option.some.inj (hkept.symm.trans hsession)
    rw [hclosed] at hzopen
    contradiction
  · have hline : (s.recorded i kept y up).line j = s.line j := by
      rw [State.recorded_eq hx hreserved]
      exact s.line_setLine_ne _ (Ne.symm hj)
    rw [hline] at hsession ⊢
    exact hopen j z ((s.openSession_iff j z).mpr ⟨hsession, hzopen⟩)

/-- A posting above every floor after the account work of a closed session: that session's line is not warned. -/
theorem State.closeWorked.posted {v : State} {kept : Session} {r : BillingRecord} {user u : Nat}
    (h : s.closeWorked v i kept r) (hclosed : kept.state.isOpen = false) (hu : u ≠ 0) (habove : v.aboveFloors user u)
    (hopen : v.openInSession) : s.closeWorked (post user u v) i kept r := by
  obtain ⟨hframe, hwarns⟩ := post_aboveFloors_warns hu habove hopen
  have hwarn : (debitBalance user u v).warnDue user i = false := State.warnDue_none fun y hy _ => by
    obtain rfl := Option.some.inj (h.session.symm.trans hy)
    exact hclosed
  have hline : (post user u v).line i = v.line i := by
    have hi := hwarns i
    rwa [State.warns, if_neg (by rw [hwarn]; exact Bool.false_ne_true)] at hi
  unfold State.sendFrame at hframe
  refine ⟨hline.trans h.line, ?_, ?_, ?_, ?_, ?_, ?_⟩ <;> rw [hframe]
  · exact h.billing
  · exact h.aPort
  · exact h.input
  · exact h.hold
  · exact h.pass
  · exact h.closeWork

/-- The rounding unit posted after the record, to an account that it does not exhaust (R86 to R89): the session has
closed, so that its line is not warned. -/
theorem posted_worked (hx : s.session i = some x) (hreserved : (s.line i).reserved = true)
    (hclosing : x.state = .closing) (hopen : s.openInSession) (habove : s.aboveFloors x.user 1) :
    let v := s.recorded i (x.rounded up) (x.rounded up) up
    let w := if up then post x.user 1 v else v
    s.closeWorked w i (x.rounded up) (recordOf i (x.rounded up) up s.billing.sequence) ∧ w.deferred = s.deferred ∧
      w.accounts = s.accounts.map fun b => if b.user = x.user then
        { b with
          openCount := b.openCount - 1
          balance := if up then debited b.balance 1 else b.balance
          periodUnits := if up then addHold32 b.periodUnits 1 else b.periodUnits }
      else b := by
  intro v w
  have hv : v = _ := State.recorded_eq hx hreserved
  have hworked : s.closeWorked v i _ _ := State.recorded_worked hx hreserved
  have hclosed : (x.rounded up).state.isOpen = false := congrArg SessionState.isOpen hclosing
  have hvopen : v.openInSession := State.recorded_openInSession hx hreserved hclosed hopen
  have hvabove : v.aboveFloors x.user 1 :=
    State.recorded_aboveFloors (s := s) (x := x.rounded up) habove (x.rounded up)
  have haccounts : v.accounts = s.accounts.map fun b =>
      if b.user = x.user then { b with openCount := b.openCount - 1 } else b := by rw [hv]; rfl
  cases hup : up with
  | false =>
    subst hup
    exact ⟨hworked, State.recorded_deferred s i _ _ _, haccounts⟩
  | true =>
    subst hup
    refine ⟨hworked.posted hclosed one_ne_zero hvabove hvopen, ?_, ?_⟩
    · exact (post_aboveFloors_deferred one_ne_zero hvabove hvopen).trans (State.recorded_deferred s i _ _ _)
    · refine (post_aboveFloors_accounts one_ne_zero hvabove hvopen).trans ?_
      rw [State.debitedAccounts, haccounts, List.map_map]
      refine List.map_congr_left fun b _ => ?_
      by_cases hb : b.user = x.user <;> simp [hb]

end

/-! ### The end of the line, once its account work is made (R45, R146) -/

/-- A line in SESSION enters HANGUP; a line in CLOSING goes on sending, or ends if it has nothing to send. -/
def State.callEnded (v : State) (i : LineId) : State :=
  if (v.line i).state = .session then hangup i v else kick i v

section
variable {s v : State} {i : LineId} {x kept : Session} {r : BillingRecord}

theorem closeWorkAccess_eq {rest : List LineId} (hclose : s.engine.closeWork = i :: rest) (hx : s.session i = some x)
    (hwork : x.work = some .pending)
    (hv : accountWork post i { s with engine := { s.engine with closeWork := rest } } = v)
    (hstate : (v.line i).state = .session ∨ (v.line i).state = .closing) : closeWorkAccess s = v.callEnded i := by
  unfold closeWorkAccess
  split
  · next h => exact absurd (hclose.symm.trans h) (List.cons_ne_nil i rest)
  · next i' rest' h =>
    obtain ⟨rfl, rfl⟩ := List.cons.inj (hclose.symm.trans h)
    have hpending : (({ s with engine := { s.engine with closeWork := rest } } : State).session i).any
        (·.work == some .pending) = true := by
      show (s.session i).any _ = true
      rw [hx, Option.any_some, hwork]
      rfl
    dsimp only
    rw [if_pos hpending, hv]
    rcases hstate with hstate | hstate <;> rw [State.callEnded, hstate] <;> rfl

/-- A line in CLOSING with no reservation takes none, and the billing store stands, whatever it sends next. -/
theorem kick_unreserved (hstate : (v.line i).state = .closing) (hreserved : (v.line i).reserved = false) :
    (kick i v).billing = v.billing ∧ ((kick i v).line i).reserved = false := by
  have hending (w : State) (hw : w.billing = v.billing) (hline : (w.line i).reserved = false) :
      (endClosing i w).billing = v.billing ∧ ((endClosing i w).line i).reserved = false := by
    unfold endClosing
    split
    · exact ⟨hw, hline⟩
    · obtain ⟨hline', hbilling, -⟩ := hangup_spec i w
      rw [hbilling, hline', hline, hw]
      exact ⟨rfl, rfl⟩
  have hsends (f : LineRec → LineRec) (hf : (f (v.line i)).reserved = (v.line i).reserved) :
      (v.modLine i f).billing = v.billing ∧ ((v.modLine i f).line i).reserved = false := by
    rw [State.line_modLine, hf]
    exact ⟨rfl, hreserved⟩
  unfold kick
  split
  · exact ⟨rfl, hreserved⟩
  · rw [choose, hstate]
    dsimp only
    unfold chooseClosing
    split
    · exact hsends _ rfl
    · split
      · exact hsends _ rfl
      · split
        · exact hsends _ rfl
        · obtain ⟨hbilling, hline⟩ := hsends (fun l => { l.sending none none with closingSlot := none }) rfl
          exact hending _ hbilling hline

theorem State.callEnded_frame (v : State) (i : LineId) : v.lineFrame (v.callEnded i) :=
  lineFrame_ite (lineFrame_hangup v i) (lineFrame_kick v i)

/-- The line in SESSION ends its call with its character in progress, and one in CLOSING that sends stands. -/
theorem State.callEnded_spec (hreserved : (v.line i).reserved = false)
    (hstate : (v.line i).state = .session ∨ (v.line i).state = .closing) :
    let t := v.callEnded i
    t.billing = v.billing ∧ (t.line i).reserved = false ∧
      ((v.line i).state = .session → (t.line i).state = .hangup ∧ t.session i = none ∧
        (t.line i).phaseTimer = some 20 ∧ (t.line i).txChar = (v.line i).txChar) ∧
      ((v.line i).state = .closing → (v.line i).txChar ≠ none → t.line i = v.line i) := by
  intro t
  rcases hstate with hstate | hstate
  · obtain ⟨hline, hbilling, -⟩ := hangup_spec i v
    have ht : t = hangup i v := if_pos hstate
    rw [State.session, ht, hline, hbilling, hreserved]
    exact ⟨rfl, rfl, fun _ => ⟨rfl, rfl, rfl, if_pos hstate⟩, fun h => absurd (hstate.symm.trans h) (by decide)⟩
  · obtain ⟨hbilling, hline⟩ := kick_unreserved hstate hreserved
    have ht : t = kick i v := if_neg (by rw [hstate]; decide)
    refine ⟨ht ▸ hbilling, ht ▸ hline, fun h => absurd (hstate.symm.trans h) (by decide), fun _ hbusy => ?_⟩
    rw [ht, kick_busy hbusy]

end

/-! ### The table given back after the access (R106, R108) -/

section
variable {u : State}

/-- The A port when the table is given back: HOLD_REVOKED latches where the limit has passed in GRANTED (R106). -/
theorem giveBack_aPort_latched (u : State) :
    (giveBack u).aPort =
      if u.hold.state = .granted ∧ u.hold.timer = some 0 then u.aPort.latch ACause.holdRevoked.bit else u.aPort := by
  unfold giveBack endAccess
  rw [arbitrate_eq, settleRelease_eq]
  rcases limitOver_cases (makeInstalls { u with arbiter := { u.arbiter with grant := none } }) with
    ⟨hst, htimer, h⟩ | ⟨h, hno⟩
  · have hrevoked : u.hold.state = .granted ∧ u.hold.timer = some 0 := ⟨hst, htimer⟩
    rw [if_pos hrevoked, h, beginRelease_eq]
    rfl
  · have hno : ¬ (u.hold.state = .granted ∧ u.hold.timer = some 0) := not_and_or.mpr hno
    rw [if_neg hno, h]
    rfl

theorem giveBack_hold_plain (h : u.hold.state ≠ .granted ∨ u.hold.timer ≠ some 0) (hr : u.hold.state ≠ .releasing) :
    (giveBack u).hold = u.hold := by
  rw [giveBack_plain h hr, arbitrate_hold]
  rfl

theorem giveBack_setAside (u : State) : (giveBack u).setAside = u.setAside := by
  rw [giveBack_eq]
  rfl

/-- A release under way ends with the access where nothing keeps it going, and else goes on (R108). -/
theorem giveBack_hold_releasing (hst : u.hold.state = .releasing) :
    (u.engine.pass ≠ none ∨ u.setAside = true → (giveBack u).hold = u.hold) ∧
      (u.engine.pass = none → u.setAside = false →
        (giveBack u).hold.state = .none ∧ (giveBack u).engine.dueAsked = true) := by
  rw [giveBack_releasing hst]
  refine ⟨fun h => ?_, fun hpass haside => ?_⟩
  · have hgoes : ¬ (u.engine.pass = none ∧ u.setAside = false) := fun ⟨hpass, haside⟩ =>
      h.elim (· hpass) fun h => absurd (haside.symm.trans h) Bool.false_ne_true
    rw [if_neg hgoes]
    rfl
  · have hends : u.engine.pass = none ∧ u.setAside = false := ⟨hpass, haside⟩
    rw [if_pos hends]
    exact ⟨rfl, rfl⟩

theorem giveBack_hold_revoked (hst : u.hold.state = .granted) (htimer : u.hold.timer = some 0) :
    (giveBack u).hold.state = .releasing ∨
      (giveBack u).hold.state = .none ∧ (giveBack u).engine.dueAsked = true := by
  rw [giveBack_revoked hst htimer, beginRelease_spec]
  split
  · exact .inr ⟨rfl, rfl⟩
  · exact .inl rfl

end

/-! ### The access of close work, whole -/

/-- The end of the line leaves the hold and the pass. -/
theorem State.closeWorked.callEnded {s v : State} {i : LineId} {kept : Session} {r : BillingRecord}
    (h : s.closeWorked v i kept r) :
    (v.callEnded i).hold = s.hold ∧ (v.callEnded i).engine.pass = s.engine.pass := by
  rw [v.callEnded_frame i]
  exact ⟨h.hold, h.pass⟩

/-- What account work, the end of the line and the table given back leave, beside the hold. -/
theorem State.closeWorked.settled {s v : State} {i : LineId} {kept : Session} {r : BillingRecord}
    (h : s.closeWorked v i kept r) (hstate : (s.line i).state = .session ∨ (s.line i).state = .closing) :
    let t := giveBack (v.callEnded i)
    t.engine.closeWork = s.engine.closeWork ∧
      t.billing =
        { records := s.billing.records ++ [r], sequence := nextCounter s.billing.sequence
          reservations := s.billing.reservations - 1 } ∧
      t.aPort = (if s.hold.state = .granted ∧ s.hold.timer = some 0 then
        s.recordLatched.latch ACause.holdRevoked.bit else s.recordLatched) ∧
      (t.line i).reserved = false ∧ t.input = s.input ∧
      ((s.line i).state = .session → (t.line i).state = .hangup ∧ t.session i = none ∧
        (t.line i).phaseTimer = some 20 ∧ (t.line i).txChar = (s.line i).txChar) ∧
      ((s.line i).state = .closing → (s.line i).txChar ≠ none →
        (t.line i).state = .closing ∧ t.session i = some kept) := by
  intro t
  obtain ⟨hbilling, hunreserved, hsession, hclosing⟩ :=
    State.callEnded_spec (v := v) (i := i) (by rw [h.line]) (by rw [h.line]; exact hstate)
  have hframe := v.callEnded_frame i
  obtain ⟨hhold, -⟩ := h.callEnded
  have haPort : (v.callEnded i).aPort = s.recordLatched := by rw [hframe]; exact h.aPort
  have hline : t.line i = (v.callEnded i).line i := giveBack_line _ i
  refine ⟨?_, ?_, ?_, by rw [hline]; exact hunreserved, ?_, fun hs => ?_, fun hs hbusy => ?_⟩
  · rw [show t = _ from giveBack_eq _, hframe]
    exact h.closeWork
  · rw [show t.billing = _ from giveBack_billing _, hbilling, h.billing]
  · rw [show t.aPort = _ from giveBack_aPort_latched _, hhold, haPort]
  · rw [show t = _ from giveBack_eq _, hframe]
    exact h.input
  · rw [h.line] at hsession
    rw [State.session, hline]
    exact hsession hs
  · rw [h.line] at hclosing
    rw [State.session, hline, hclosing hs hbusy]
    exact ⟨hs, rfl⟩

/-- The end of the line and the table given back are beside the accounts and what is set aside or due. -/
theorem giveBack_callEnded_beside (v : State) (i : LineId) :
    let t := giveBack (v.callEnded i)
    t.accounts = v.accounts ∧ t.deferred = v.deferred ∧ t.engine.secondsDue = v.engine.secondsDue := by
  intro t
  rw [show t = _ from giveBack_eq _, v.callEnded_frame i]
  exact ⟨rfl, rfl, rfl⟩

theorem exec_closeAccountWork {s : State} (hp : s.mainPower = true) (hnext : s.nextGrant = some .engine)
    (hdue : s.engine.dueAsked = false) (hclose : s.engine.closeWork ≠ []) :
    exec .closeAccountWork s = .next (giveBack (closeWorkAccess s)) := by
  have hgranted : s.nextGrant = some .engine ∧ (!s.engine.dueAsked) = true ∧ s.engine.closeWork ≠ [] :=
    ⟨hnext, by rw [hdue]; rfl, hclose⟩
  rw [exec_powered (f := closeWorkGranted) rfl hp, closeWorkGranted, if_pos hgranted]

/-- The record of a session whose close decision has been made. -/
theorem recordOf_closed {i : LineId} {x : Session} {up : Bool} {n : Nat} {stamp : Stamp} {r : CloseReason}
    (hstamp : x.closeStamp = some stamp) (hreason : x.closeReason = some r) :
    recordOf i x up n =
      { sequence := n, serial := x.serial, line := i, user := x.user, cls := x.cls, openStamp := x.openStamp
        closeStamp := stamp, connectSeconds := x.connectSeconds, heldSeconds := x.heldSeconds
        connectUnits := x.connectUnits, setupUnits := x.setupUnits, resourceUnits := x.resourceUnits, reason := r
        clockSet := x.clockSet, late := x.late, saturated := x.saturated, roundedUp := up } := by
  rw [recordOf, hstamp, hreason]
  rfl

/-- A closed session stands on a line in SESSION or in CLOSING (Table 1-1). -/
theorem LineRec.shaped.holdsCall {l : LineRec} {x : Session} (h : l.shaped) (hx : l.session = some x) :
    l.state = .session ∨ l.state = .closing := by
  obtain ⟨-, -, hcall, -, -⟩ := h
  exact hcall (by rw [hx]; rfl)

/-- Settles O47: the account work by the hold, then the end of the line and the table given back. -/
theorem closeWorkSettlesTheSession : Obligations.CloseWorkSettlesTheSession := by
  intro i rest x r stamp s hp hlaw hnext hdue hclose hx hclosing hwork hreason hstamp hreserved hunits
    up units aside full revoked settled
  have hup : (s.classRec x.cls).rounding.extra x.residue = up := by
    unfold up
    generalize (s.classRec x.cls).rounding = rounding
    cases rounding <;> rfl
  let g : State := { s with engine := { s.engine with closeWork := rest } }
  have hstate : (s.line i).state = .session ∨ (s.line i).state = .closing := (hlaw hp i).holdsCall hx
  have hrow (v : State) (hv : accountWork post i g = v) {kept : Session} {r : BillingRecord}
      (h : g.closeWorked v i kept r) : exec .closeAccountWork s = .next (giveBack (v.callEnded i)) := by
    rw [exec_closeAccountWork hp hnext hdue (by rw [hclose]; exact List.cons_ne_nil i rest),
      closeWorkAccess_eq hclose hx hwork hv (by rw [h.line]; exact hstate)]
  refine ⟨fun hst habove => ?_, fun hst => ?_⟩
  · have hd : g.diverting = false := by
      show (s.hold.state == .granted || s.hold.state == .releasing) = false
      rcases hst with hst | hst <;> rw [hst] <;> rfl
    obtain ⟨hworked, hdeferred, haccounts⟩ := posted_worked (s := g) (up := up) hx hreserved hclosing
      (State.openInSession_of_lineLaw hp hlaw) habove
    have hv := accountWork_posting (s := g) (post := post) hx hunits hup hd
    generalize hwas : accountWork post i g = v at hv
    rw [← hv, recordOf_closed (x := x.rounded up) hstamp hreason] at hworked
    rw [← hv] at hdeferred haccounts
    obtain ⟨haccounts', hdeferred', -⟩ := giveBack_callEnded_beside v i
    obtain ⟨hhold, -⟩ := hworked.callEnded
    replace hhold : (v.callEnded i).hold = s.hold := hhold
    have hplain : (v.callEnded i).hold.state ≠ .granted ∧ (v.callEnded i).hold.state ≠ .releasing := by
      rw [hhold]
      rcases hst with hst | hst <;> rw [hst] <;> decide
    exact ⟨_, hrow v hwas hworked, hworked.settled hstate,
      (giveBack_hold_plain (.inl hplain.1) hplain.2).trans hhold, hdeferred'.trans hdeferred,
      haccounts'.trans haccounts⟩
  · have hd : g.diverting = true := by
      show (s.hold.state == .granted || s.hold.state == .releasing) = true
      rcases hst with hst | hst <;> rw [hst] <;> rfl
    obtain ⟨hworked, hdeferred, hseconds, haccounts⟩ := diverted_worked (s := g) (up := up) hx hreserved
    have hv := accountWork_diverting (s := g) (post := post) hx hunits hup hd
    generalize hwas : accountWork post i g = v at hv
    rw [← hv, recordOf_closed (x := x.roundedAside up) hstamp hreason] at hworked
    rw [← hv] at hdeferred hseconds haccounts
    obtain ⟨haccounts', hdeferred', hseconds'⟩ := giveBack_callEnded_beside v i
    obtain ⟨hhold, hpass⟩ := hworked.callEnded
    replace hhold : (v.callEnded i).hold = s.hold := hhold
    replace hpass : (v.callEnded i).engine.pass = s.engine.pass := hpass
    refine ⟨_, hrow v hwas hworked, hworked.settled hstate, fun hgranted hnot => ?_, fun hreleasing hgoes => ?_,
      fun hreleasing hnone haside => ?_, fun ⟨hgranted, htimer⟩ => ?_, hdeferred'.trans hdeferred,
      hseconds'.trans hseconds, haccounts'.trans haccounts⟩
    · have hlimit : (v.callEnded i).hold.timer ≠ some 0 := by rw [hhold]; exact fun htimer => hnot ⟨hgranted, htimer⟩
      exact (giveBack_hold_plain (.inr hlimit) (by rw [hhold, hgranted]; decide)).trans hhold
    · rw [giveBack_setAside, ← hpass] at hgoes
      exact ((giveBack_hold_releasing (by rw [hhold, hreleasing])).1 hgoes).trans hhold
    · rw [giveBack_setAside] at haside
      exact (giveBack_hold_releasing (by rw [hhold, hreleasing])).2 (hpass.trans hnone) haside
    · exact giveBack_hold_revoked (by rw [hhold, hgranted]) (by rw [hhold, htimer])

end Sys2Proof.Machine
end

section
/-! PROOFS. The advance of the calendar clock (R112, Table 6-2). -/

namespace Sys2Proof.Machine

/-! ### The date -/

/-- A date of the calendar: year, month and day in their ranges (Tables 6-1 and 6-2). -/
def ValidDate (d : Nat × Nat × Nat) : Prop :=
  d.1 ≤ 99 ∧ 1 ≤ d.2.1 ∧ d.2.1 ≤ 12 ∧ 1 ≤ d.2.2 ∧ d.2.2 ≤ monthLength d.1 d.2.1

theorem monthLength_pos (y m : Nat) : 1 ≤ monthLength y m := by
  unfold monthLength; split_ifs <;> decide

section
variable {y m d : Nat}

theorem nextDate_day (h : d < monthLength y m) : nextDate (y, m, d) = (y, m, d + 1) := if_pos h

theorem nextDate_month (hd : ¬ d < monthLength y m) (h : m < 12) : nextDate (y, m, d) = (y, m + 1, 1) :=
  (if_neg hd).trans (if_pos h)

theorem nextDate_year (hd : ¬ d < monthLength y m) (hm : ¬ m < 12) (h : y < 99) :
    nextDate (y, m, d) = (y + 1, 1, 1) :=
  (if_neg hd).trans ((if_neg hm).trans (if_pos h))

theorem nextDate_century (hd : ¬ d < monthLength y m) (hm : ¬ m < 12) (hy : ¬ y < 99) :
    nextDate (y, m, d) = (0, 1, 1) :=
  (if_neg hd).trans ((if_neg hm).trans (if_neg hy))

/-- Each carry of the date starts from 1, which every month of every year has. -/
theorem nextDate_valid (h : ValidDate (y, m, d)) : ValidDate (nextDate (y, m, d)) := by
  obtain ⟨hyear, hmonth, hmonth', hday, -⟩ := h
  by_cases hd : d < monthLength y m
  · rw [nextDate_day hd]
    exact ⟨hyear, hmonth, hmonth', Nat.le_add_left 1 d, hd⟩
  by_cases hm : m < 12
  · rw [nextDate_month hd hm]
    exact ⟨hyear, Nat.le_add_left 1 m, hm, le_rfl, monthLength_pos _ _⟩
  by_cases hy : y < 99
  · rw [nextDate_year hd hm hy]
    exact ⟨hy, le_rfl, Nat.le_add_left 1 11, le_rfl, monthLength_pos _ _⟩
  · rw [nextDate_century hd hm hy]
    exact ⟨by decide, le_rfl, by decide, le_rfl, monthLength_pos _ _⟩

end

/-! ### The clock -/

namespace Calendar

theorem valid_iff (c : Calendar) :
    c.valid = true ↔ ValidDate (c.year, c.month, c.day) ∧ c.hour ≤ 23 ∧ c.minute ≤ 59 ∧ c.second ≤ 59 ∧
      1 ≤ c.weekday ∧ c.weekday ≤ 7 := by
  simp only [valid, ValidDate, Bool.and_eq_true, decide_eq_true_eq, and_assoc]

/-- The weekday after a weekday 1 to 7. -/
def nextWeekday (c : Calendar) : Nat := if c.weekday = 7 then 1 else c.weekday + 1

/-- The first second of a date, under the weekday after that of c. -/
def midnight (c : Calendar) (d : Nat × Nat × Nat) : Calendar :=
  { year := d.1, month := d.2.1, day := d.2.2, hour := 0, minute := 0, second := 0, weekday := c.nextWeekday }

section
variable {c : Calendar}

theorem advance_second (h : c.second < 59) : c.advance = { c with second := c.second + 1 } := by
  rw [advance, if_pos (by omega)]

theorem advance_minute (hs : ¬ c.second < 59) (h : c.minute < 59) :
    c.advance = { c with second := 0, minute := c.minute + 1 } := by
  rw [advance, if_neg (by omega), if_pos (by omega)]

theorem advance_hour (hs : ¬ c.second < 59) (hm : ¬ c.minute < 59) (h : c.hour < 23) :
    c.advance = { c with second := 0, minute := 0, hour := c.hour + 1 } := by
  rw [advance, if_neg (by omega), if_neg (by omega), if_pos (by omega)]

theorem advance_midnight (hs : ¬ c.second < 59) (hm : ¬ c.minute < 59) (hh : ¬ c.hour < 23) (hw : c.weekday ≤ 7) :
    c.advance = c.midnight (nextDate (c.year, c.month, c.day)) := by
  have hweekday : (if c.weekday + 1 ≤ 7 then c.weekday + 1 else 1) = c.nextWeekday := by
    unfold nextWeekday; split_ifs <;> omega
  rw [advance, if_neg (by omega), if_neg (by omega), if_neg (by omega), hweekday]
  rfl

theorem midnight_valid {d : Nat × Nat × Nat} (hd : ValidDate d) (hw : c.weekday ≤ 7) : (c.midnight d).valid = true := by
  have : 1 ≤ c.nextWeekday ∧ c.nextWeekday ≤ 7 := by unfold nextWeekday; split_ifs <;> omega
  exact (valid_iff _).mpr ⟨hd, Nat.zero_le _, Nat.zero_le _, Nat.zero_le _, this⟩

/-- An advance keeps the clock a value that SET CLOCK accepts (R112, R116). -/
theorem advance_valid (h : c.valid = true) : c.advance.valid = true := by
  obtain ⟨hdate, hhour, hminute, hsecond, hweekday, hweekday'⟩ := (valid_iff c).mp h
  by_cases hs : c.second < 59
  · rw [advance_second hs]
    exact (valid_iff _).mpr ⟨hdate, hhour, hminute, hs, hweekday, hweekday'⟩
  by_cases hm : c.minute < 59
  · rw [advance_minute hs hm]
    exact (valid_iff _).mpr ⟨hdate, hhour, hm, Nat.zero_le _, hweekday, hweekday'⟩
  by_cases hh : c.hour < 23
  · rw [advance_hour hs hm hh]
    exact (valid_iff _).mpr ⟨hdate, hh, Nat.zero_le _, Nat.zero_le _, hweekday, hweekday'⟩
  · rw [advance_midnight hs hm hh hweekday']
    exact midnight_valid (nextDate_valid hdate) hweekday'

end

end Calendar

/-! ### The row -/

/-- What a tick does beside the clock leaves the clock and CLOCK_INVALID: the row moves the clock by the advance alone. -/
theorem clockTick_clock (s : State) :
    (clockTick s).clock = s.clock.advance ∧ (clockTick s).clockInvalid = s.clockInvalid := by
  unfold clockTick
  split
  · obtain ⟨-, -, -, -, hon, hon', -⟩ := (passFrame_passOn s).fixed
    obtain ⟨-, -, -, -, htake, htake', -⟩ := (passFrame_takeTick (advanceClock (passOn s))).fixed
    exact ⟨htake.trans (congrArg Calendar.advance hon), htake'.trans hon'⟩
  · exact ⟨rfl, rfl⟩

theorem clockTick_unpowered {s : State} (h : s.mainPower = false) : clockTick s = advanceClock s := by
  simp [clockTick, h]

/-- Settles O41: each carry is one case of the advance, and the rest of the row leaves the clock. -/
theorem clockAdvanceCarries : Obligations.ClockAdvanceCarries := by
  intro s hvalid c length weekday midnight next
  obtain ⟨-, -, -, -, -, hweekday⟩ := (Calendar.valid_iff c).mp hvalid
  have hnext : c.advance = next := by
    unfold next
    split_ifs with hs hm hh hd hmonth hyear
    · exact Calendar.advance_second hs
    · exact Calendar.advance_minute hs hm
    · exact Calendar.advance_hour hs hm hh
    all_goals rw [Calendar.advance_midnight hs hm hh hweekday]
    · rw [nextDate_day hd]; rfl
    · rw [nextDate_month hd hmonth]; rfl
    · rw [nextDate_year hd hmonth hyear]; rfl
    · rw [nextDate_century hd hmonth hyear]; rfl
  obtain ⟨hclock, hinvalid⟩ := clockTick_clock s
  refine ⟨⟨clockTick s, rfl, hclock.trans hnext, ?_, hinvalid, clockTick_accounts s⟩, fun hoff => ?_⟩
  · rw [hclock]; exact Calendar.advance_valid hvalid
  · rw [← hnext, show exec .clockAdvance s = .next (clockTick s) from rfl, clockTick_unpowered hoff]
    rfl

end Sys2Proof.Machine
end

section
/-! PROOFS. TARIFF WRITE, DAY MAP WRITE and CLASS WRITE, the installs of R125, and the tariff lookup (R119 to R125). -/

namespace Sys2Proof.Machine

/-! ### Arguments -/

theorem scheduleArg_some {w : Word} (h : w.toNat ≤ 1) : scheduleArg w = some (if w = 0 then .a else .b) := by
  rcases word_le_one h with rfl | rfl <;> rfl

theorem scheduleArg_none {w : Word} (h : 1 < w.toNat) : scheduleArg w = none := by
  have h0 : w ≠ 0 := by rintro rfl; simp at h
  have h1 : w ≠ 1 := by rintro rfl; simp at h
  rw [scheduleArg, if_neg h0, if_neg h1]

theorem word_eq_zero_iff (w : Word) : w = 0 ↔ w.toNat = 0 := BitVec.toNat_eq

theorem roundingArg_some {w : Word} (h : w.toNat ≤ 2) :
    roundingArg w = some (if w = 0 then .truncate else if w = 1 then .halfUp else .ceiling) := by
  rcases Nat.lt_or_eq_of_le h with h | h
  · rcases word_le_one (Nat.le_of_lt_succ h) with rfl | rfl <;> rfl
  · obtain rfl : w = 2 := BitVec.eq_of_toNat_eq (by simpa using h)
    rfl

theorem roundingArg_none {w : Word} (h : 2 < w.toNat) : roundingArg w = none := by
  obtain ⟨h0, h1, h2⟩ : w ≠ 0 ∧ w ≠ 1 ∧ w ≠ 2 := by refine ⟨?_, ?_, ?_⟩ <;> rintro rfl <;> simp at h
  rw [roundingArg, if_neg h0, if_neg h1, if_neg h2]

/-! ### Installs (R125) -/

/-- The tables with an install made, all else as it stands. -/
def State.installed (s : State) (x : Install) : State :=
  { s with tariff := s.tariff.install x, classes := installClass s.classes x }

/-- The last of the installs that wait is made after the others. -/
theorem makeInstalls_append {s : State} {rest : List Install} {x : Install} (h : s.installs = rest ++ [x]) :
    makeInstalls s = (makeInstalls { s with installs := rest }).installed x := by
  simp [makeInstalls, State.installed, State.takenTariff, State.takenClasses, h]

/-- The end of a release reads no table of an install. -/
theorem settleRelease_installed (s : State) (x : Install) :
    settleRelease (s.installed x) = (settleRelease s).installed x := by
  unfold settleRelease
  rw [apply_ite (State.installed · x)]
  rfl

/-- The passing of the hold limit reads no table of an install. -/
theorem limitOver_installed (s : State) (x : Install) : limitOver (s.installed x) = (limitOver s).installed x := by
  have hbegin : beginRelease (latchA .holdRevoked (s.installed x)) =
      (beginRelease (latchA .holdRevoked s)).installed x :=
    settleRelease_installed
      { latchA .holdRevoked s with hold := { s.hold with state := .releasing, timer := none } } x
  unfold limitOver
  rw [hbegin]
  exact (apply_ite (State.installed · x) _ _ _).symm

/-- The arbiter reads no table of an install. -/
theorem arbitrate_installed (s : State) (x : Install) : arbitrate (s.installed x) = (arbitrate s).installed x := by
  rcases arbitrate_cases s with ⟨c, hne, hfree, hchosen, h⟩ | ⟨h, hheld | hstands⟩ <;> rw [h]
  · exact arbitrate_chosen (s := s.installed x) hfree hchosen hne
  · exact arbitrate_held (s := s.installed x) hheld
  · exact arbitrate_stands (s := s.installed x) hstands

/-- The last of the installs taken during an access is made on what giving the table back leaves with the others. -/
theorem giveBack_append {s : State} {rest : List Install} {x : Install} (h : s.installs = rest ++ [x]) :
    giveBack s = (giveBack { s with installs := rest }).installed x := by
  have hfree : makeInstalls { s with arbiter := { s.arbiter with grant := none } } =
      (makeInstalls { s with arbiter := { s.arbiter with grant := none }, installs := rest }).installed x :=
    makeInstalls_append h
  rw [giveBack, endAccess, hfree, limitOver_installed, settleRelease_installed, arbitrate_installed]
  rfl

/-- Giving the table back makes every install that waits. -/
theorem giveBack_tables (s : State) :
    (giveBack s).tariff = s.takenTariff ∧ (giveBack s).classes = s.takenClasses ∧ (giveBack s).installs = [] := by
  rw [giveBack_eq]; exact ⟨rfl, rfl, rfl⟩

/-! ### TARIFF WRITE (R119, R121, R122) -/

theorem risingBands_iff (bands : List Band) :
    risingBands bands = true ↔ bands.Pairwise fun x y => x.start < y.start := by
  induction bands with
  | nil => simp [risingBands]
  | cons a rest ih =>
    cases rest with
    | nil => simp [risingBands]
    | cons b rest =>
      rw [risingBands, Bool.and_eq_true, decide_eq_true_eq, ih, List.pairwise_cons (a := a)]
      refine and_congr_left fun hrest => ⟨fun hab e he => ?_, fun hall => hall b List.mem_cons_self⟩
      rcases List.mem_cons.mp he with rfl | he
      · exact hab
      · exact hab.trans (List.rel_of_pairwise_cons hrest he)

theorem validBands_iff (bands : List Band) :
    validBands bands = true ↔ 1 ≤ bands.length ∧ bands.length ≤ 8 ∧ bands.head?.map Band.start = some 0 ∧
      bands.Pairwise fun x y => x.start < y.start := by
  have hhead : bands.head?.any (·.start == 0) = true ↔ bands.head?.map Band.start = some 0 := by
    cases bands <;> simp
  simp only [validBands, Bool.and_eq_true, inRange_iff, hhead, risingBands_iff, and_assoc]

section
variable {p : PortId} {sc fb fi c : Word} {ws : List Word} {s : State}

theorem workTariffWrite_flags (h : 1 < sc.toNat ∨ 1 < fi.toNat) :
    workTariffWrite p sc fb fi c ws s = refuse p .badArgument s := by
  unfold workTariffWrite
  split
  next hsc hfi =>
    rcases h with h | h
    · rw [scheduleArg_none h] at hsc; cases hsc
    · rw [flagArg_none h] at hfi; cases hfi
  next => rfl

/-- TARIFF WRITE with a schedule and a final flag that Table 11-5 names: the ranges of R121, then the place of the first
band in the staging area. -/
theorem workTariffWrite_eq (hsc : sc.toNat ≤ 1) (hfi : fi.toNat ≤ 1) :
    workTariffWrite p sc fb fi c ws s =
      if fb.toNat ≤ 7 ∧ c.toNat ≤ 3 ∧ fb.toNat + c.toNat ≤ 8 ∧ ∀ b ∈ bandsOf ws, b.start ≤ 1439 then
        if fb = 0 then acceptBands p (if sc = 0 then .a else .b) (fi == 1) (bandsOf ws) s
        else if s.tariff.stagingSchedule = some (if sc = 0 then .a else .b) ∧
            s.tariff.stagedBands.length = fb.toNat then
          acceptBands p (if sc = 0 then .a else .b) (fi == 1) (s.tariff.stagedBands ++ bandsOf ws) s
        else refuse p .badArgument (clearTariffStaging s)
      else refuse p .badArgument s := by
  simp only [workTariffWrite, scheduleArg_some hsc, flagArg_some hfi, List.all_eq_true, decide_eq_true_eq,
    word_eq_zero_iff fb, eq_comm (a := fb.toNat) (b := s.tariff.stagedBands.length)]

/-- Bands that are accepted but are not the final part are staged (R121). -/
theorem acceptBands_part (sch : Schedule) (bands : List Band) :
    acceptBands p sch false bands s = complete p .ok false []
      { s with tariff := { s.tariff with stagingSchedule := some sch, stagedBands := bands } } := rfl

section
variable {bands : List Band} {sch : Schedule} (hvalid : validBands bands = true)
include hvalid

/-- A valid list whose final part comes between accesses replaces its schedule whole at once (R122, R125). -/
theorem acceptBands_free (h : s.arbiter.grant = none) :
    acceptBands p sch true bands s = complete p .ok false [] { s with tariff := { s.tariff with
      schedA := if sch = .a then bands else s.tariff.schedA
      schedB := if sch = .a then s.tariff.schedB else bands
      stagingSchedule := none, stagedBands := [] } } := by
  rw [acceptBands, if_neg (by decide), if_pos hvalid, takeInstall_free _ h]
  cases sch <;> rfl

/-- A valid list whose final part comes during an access waits, and the schedules stand (R125). -/
theorem acceptBands_held (h : s.arbiter.grant ≠ none) :
    acceptBands p sch true bands s = complete p .ok false []
      { clearTariffStaging s with installs := s.installs ++ [.schedule sch bands] } := by
  rw [acceptBands, if_neg (by decide), if_pos hvalid, takeInstall_held _ h]
  rfl

end

/-- A list that may not be installed is dropped at its final part (R122). -/
theorem acceptBands_invalid {bands : List Band} (sch : Schedule) (h : ¬ validBands bands = true) :
    acceptBands p sch true bands s = complete p .badArgument false [] (clearTariffStaging s) := by
  rw [acceptBands, if_neg (by decide), if_neg h, refuse]

end

/-! ### DAY MAP WRITE (R123) -/

/-- The day map of seven selections. -/
def dayMapBank (d : Fin 7 → Word) : Bank Schedule 7 := Bank.ofFn fun k => if d k = 0 then .a else .b

theorem dayMapOf_some {d : Fin 7 → Word} (h : ∀ k, (d k).toNat ≤ 1) :
    dayMapOf (d 0) (d 1) (d 2) (d 3) (d 4) (d 5) (d 6) = some (dayMapBank d) := by
  simp only [dayMapOf, scheduleArg_some (h _)]
  rfl

theorem dayMapOf_none {d : Fin 7 → Word} (h : ∃ k, 1 < (d k).toNat) :
    dayMapOf (d 0) (d 1) (d 2) (d 3) (d 4) (d 5) (d 6) = none := by
  obtain ⟨k, hk⟩ := h
  have hnone := scheduleArg_none hk
  unfold dayMapOf
  split
  next h0 h1 h2 h3 h4 h5 h6 =>
    have hsome : ∀ k, (scheduleArg (d k)).isSome = true := by
      simp [Fin.forall_fin_succ, h0, h1, h2, h3, h4, h5, h6]
    simpa [hnone] using hsome k
  next => rfl

/-! ### CLASS WRITE (R124) -/

section
variable {su fl wa gr iw il ro fa lo : Word}

theorem classOf_some
    (h : su.toNat ≤ 255 ∧ gr.toNat ≤ 600 ∧ iw.toNat ≤ 60 ∧ il.toNat ≤ 120 ∧ ro.toNat ≤ 2 ∧ 1 ≤ fa.toNat ∧
      fa.toNat ≤ 15 ∧ 1 ≤ lo.toNat ∧ lo.toNat ≤ 1440) :
    classOf su fl wa gr iw il ro fa lo = some
      { setup := su.toNat, floor := fl.toNat, warn := wa.toNat, grace := gr.toNat, idleWarn := iw.toNat
        idleLimit := il.toNat, failLimit := fa.toNat, lockout := lo.toNat
        rounding := if ro = 0 then .truncate else if ro = 1 then .halfUp else .ceiling } := by
  obtain ⟨hsu, hgr, hiw, hil, hro, hfa, hfa', hlo, hlo'⟩ := h
  simp only [classOf, roundingArg_some hro]
  exact if_pos (by simp [inRange, hsu, hgr, hiw, hil, hfa, hfa', hlo, hlo'])

theorem classOf_none
    (h : ¬ (su.toNat ≤ 255 ∧ gr.toNat ≤ 600 ∧ iw.toNat ≤ 60 ∧ il.toNat ≤ 120 ∧ ro.toNat ≤ 2 ∧ 1 ≤ fa.toNat ∧
      fa.toNat ≤ 15 ∧ 1 ≤ lo.toNat ∧ lo.toNat ≤ 1440)) :
    classOf su fl wa gr iw il ro fa lo = none := by
  by_cases hro : ro.toNat ≤ 2
  · simp only [classOf, roundingArg_some hro]
    refine if_neg fun hrange => h ?_
    simp only [Bool.and_eq_true, inRange_iff] at hrange
    omega
  · simp only [classOf, roundingArg_none (Nat.lt_of_not_le hro)]

end

section
variable {p : PortId} {k : Word} {record : Option ClassRec} {s : State}

theorem workClassWrite_ok {j : Fin 4} {r : ClassRec} (hj : j.val = k.toNat) (hr : record = some r) :
    workClassWrite p k record s = complete p .ok false [] (takeInstall (.classRecord j r) s) := by
  simp only [workClassWrite, classArg, groupArg_val hj, hr, completeOk]

theorem workClassWrite_refused (h : 3 < k.toNat ∨ record = none) :
    workClassWrite p k record s = complete p .badArgument false [] s := by
  rcases h with h | h
  · simp only [workClassWrite, classArg, groupArg_none h, refuse]
  · subst h
    cases hk : classArg k <;> simp only [workClassWrite, hk, refuse]

end

/-! ### The lookup (R120) -/

/-- Weekdays 1 to 7 stand at places 0 to 6 of the day map (R120). -/
theorem scheduleFor_weekday (t : Tariff) {n : Nat} {k : Fin 7} (h : n = k.val + 1) :
    t.scheduleFor n = if t.dayMap.get k = .a then t.schedA else t.schedB := by
  have hget : t.dayMap.cells.getD (n - 1) .a = t.dayMap.get k := by
    subst h
    simp [Bank.get, List.getD_eq_getElem?_getD, t.dayMap.size]
  rw [Tariff.scheduleFor, hget]
  cases t.dayMap.get k <;> rfl

/-- The band in force is the last that has started, whatever stands before it (R120). -/
theorem bandAt_split {before after : List Band} {b : Band} {m : Nat} (hb : b.start ≤ m)
    (hafter : ∀ e ∈ after, m < e.start) : bandAt (before ++ b :: after) m = some b := by
  have hnone : after.filter (fun e => decide (e.start ≤ m)) = [] := by
    simpa [List.filter_eq_nil_iff] using hafter
  rw [bandAt, List.filter_append, List.filter_cons_of_pos (by simpa using hb), hnone, List.getLast?_concat]

/-! ### The obligation -/

/-- Settles O44: each command is its refusal or one install, the end of an access makes the last install after the others,
and the bands after the one in force start too late to be looked up. -/
theorem tablesAreReplacedWhole : Obligations.TablesAreReplacedWhole := by
  refine ⟨fun p sc fb fi c ws s hrun => ?_, fun p d s hrun => ?_,
    fun p k su fl wa gr iw il ro fa lo s hrun => ?_, fun s => ?_,
    fun t c v k before after b hweekday hbands hb hafter => ?_⟩
  · rw [exec_running (work := workTariffWrite p sc fb fi c ws) rfl hrun]
    refine ⟨fun h => by rw [workTariffWrite_flags h, refuse], fun hsc hfi => ?_⟩
    have hwork := workTariffWrite_eq (p := p) (fb := fb) (c := c) (ws := ws) (s := s) hsc hfi
    intro schedule good cleared accepted
    have hschedule : schedule = .a ↔ sc = 0 := by
      unfold schedule; split_ifs with h <;> simp only [h]
    have haccepted (bands : List Band)
        (h : workTariffWrite p sc fb fi c ws s = acceptBands p schedule (fi == 1) bands s) : accepted bands := by
      dsimp only [accepted]
      rw [h]
      refine ⟨fun hpart => ?_, fun hfinal hvalid hfree => ?_, fun hfinal hvalid hheld => ?_, fun hfinal hinvalid => ?_⟩
      · subst hpart; exact congrArg _ (acceptBands_part schedule bands)
      all_goals subst hfinal
      · rw [← validBands_iff] at hvalid
        simp only [beq_self_eq_true, acceptBands_free hvalid hfree, hschedule]; rfl
      · exact congrArg _ (acceptBands_held ((validBands_iff bands).mpr hvalid) hheld)
      · exact congrArg _ (acceptBands_invalid schedule (mt (validBands_iff bands).mp hinvalid))
    refine ⟨fun hgood hfirst => haccepted _ ?_, fun hgood hfirst hstaging hlength => haccepted _ ?_,
      fun hgood hfirst hother => ?_, fun hbad => ?_⟩
    · rw [hwork, if_pos hgood, if_pos hfirst]
    · rw [hwork, if_pos hgood, if_neg hfirst, if_pos ⟨hstaging, hlength⟩]
    · rw [hwork, if_pos hgood, if_neg hfirst, if_neg (not_and_or.mpr hother), refuse]; rfl
    · rw [hwork, if_neg hbad, refuse]
  · rw [exec_running (work := workDayMapWrite p (d 0) (d 1) (d 2) (d 3) (d 4) (d 5) (d 6)) rfl hrun]
    refine ⟨fun h => ⟨dayMapBank d, fun k => Bank.get_ofFn _ k, ?_⟩, fun h => ?_⟩
    · simp only [workDayMapWrite, dayMapOf_some h, completeOk]
      rfl
    · simp only [workDayMapWrite, dayMapOf_none h, refuse]
  · intro good record
    rw [exec_running (work := workClassWrite p k (classOf su fl wa gr iw il ro fa lo)) rfl hrun]
    by_cases hk : k.toNat ≤ 3
    · obtain ⟨j, hj⟩ : ∃ j : Fin 4, j.val = k.toNat := ⟨⟨k.toNat, by omega⟩, rfl⟩
      refine ⟨fun ⟨_, hset⟩ hfree => ⟨s.classes.set j record, ?_, fun i => ?_⟩, fun ⟨_, hset⟩ hheld => ⟨j, hj, ?_⟩,
        fun hbad => ?_⟩
      · rw [workClassWrite_ok hj (classOf_some hset), takeInstall_free _ hfree]; rfl
      · simp only [Bank.get_set, ← hj, Fin.val_inj, eq_comm (a := j), State.classRec]
      · rw [workClassWrite_ok hj (classOf_some hset), takeInstall_held _ hheld]
      · rw [workClassWrite_refused (.inr (classOf_none fun hset => hbad ⟨hk, hset⟩))]
    · refine ⟨fun ⟨hle, _⟩ => absurd hle hk, fun ⟨hle, _⟩ => absurd hle hk, fun _ => ?_⟩
      rw [workClassWrite_refused (.inl (Nat.lt_of_not_le hk))]
  · obtain ⟨htariff, hclasses, hinstalls⟩ := giveBack_tables s
    refine ⟨fun h => ?_, hinstalls, fun rest x h => ?_⟩
    · rw [htariff, hclasses, State.takenTariff, State.takenClasses, h]
      exact ⟨rfl, rfl⟩
    · rw [giveBack_append h]
      cases x with
      | schedule sch bands => cases sch <;> rfl
      | dayMap m => rfl
      | classRecord c r => rfl
  · rw [Tariff.lookup, scheduleFor_weekday t hweekday, hbands, bandAt_split hb hafter]

end Sys2Proof.Machine
end

section
/-! PROOFS. What a pass that goes on, and the pass of a remembered tick after it, can change (R129, R130, R138). -/

namespace Sys2Proof.Machine

/-! ### The frame -/

/-- A line that a pass passes over: the held seconds of a HELD session may change (R138). -/
def LineRec.passedOver (l m : LineRec) : Prop :=
  ∃ f : Session → Nat, (∀ y, y.state ≠ .held → f y = y.heldSeconds) ∧
    m = { l with session := l.session.map fun y => { y with heldSeconds := f y } }

/-- A pass that goes on changes held seconds, which pass is in progress and how it was begun, and which tick is
remembered; while the table is free it makes no request that was not made (log entry 42). -/
structure State.goesOn (s t : State) : Prop where
  frame : t = { s with
    lines := t.lines, freeIndex := t.freeIndex
    engine := { s.engine with pass := t.engine.pass, remembered := t.engine.remembered }
    hold := { s.hold with passInGranted := t.hold.passInGranted }
    arbiter := { s.arbiter with passAsked := t.arbiter.passAsked } }
  line : ∀ j, (s.line j).passedOver (t.line j)
  unasked : s.arbiter.grant = none → s.arbiter.passAsked = false → t.arbiter.passAsked = false

theorem LineRec.passedOver.refl (l : LineRec) : l.passedOver l :=
  ⟨Session.heldSeconds, fun _ _ => rfl, by simp⟩

theorem LineRec.passedOver.trans {l m n : LineRec} (h : l.passedOver m) (k : m.passedOver n) : l.passedOver n := by
  obtain ⟨f, hf, rfl⟩ := h
  obtain ⟨g, hg, rfl⟩ := k
  refine ⟨fun y => g { y with heldSeconds := f y }, fun y hy => ?_, ?_⟩
  · exact (hg { y with heldSeconds := f y } hy).trans (hf y hy)
  dsimp only
  rw [Option.map_map]
  rfl

section
variable {l m : LineRec}

/-- A session that is not HELD stands as it did. -/
theorem LineRec.passedOver.session (h : l.passedOver m) {y : Session} (hy : l.session = some y)
    (hstate : y.state ≠ .held) : m.session = some y := by
  obtain ⟨f, hf, rfl⟩ := h
  dsimp only
  rw [hy, Option.map_some, hf y hstate]

/-- The session parts of the line, but for their held seconds. -/
theorem LineRec.passedOver.map (h : l.passedOver m) {α : Type} {g : Session → α}
    (hg : ∀ (y : Session) (n : Nat), g { y with heldSeconds := n } = g y) : m.session.map g = l.session.map g := by
  obtain ⟨f, -, rfl⟩ := h
  dsimp only
  rw [Option.map_map]
  exact Option.map_congr fun y _ => hg y (f y)

theorem LineRec.passedOver.messages (h : l.passedOver m) : m.messages = l.messages := by
  obtain ⟨f, -, rfl⟩ := h
  rfl

end

theorem State.goesOn.refl (s : State) : s.goesOn s := ⟨rfl, fun _ => .refl _, fun _ h => h⟩

theorem State.goesOn.trans {s t u : State} (h : s.goesOn t) (k : t.goesOn u) : s.goesOn u := by
  refine ⟨?_, fun j => (h.line j).trans (k.line j), fun hgrant hasked => k.unasked ?_ (h.unasked hgrant hasked)⟩
  · rw [k.frame, h.frame]
  · rw [h.frame]; exact hgrant

/-- Changes of the pass, of the remembered tick and of how the pass was begun. -/
theorem goesOn_of_lines {s t : State} (hlines : t.lines = s.lines)
    (hframe : t = { s with
      lines := t.lines, freeIndex := t.freeIndex
      engine := { s.engine with pass := t.engine.pass, remembered := t.engine.remembered }
      hold := { s.hold with passInGranted := t.hold.passInGranted }
      arbiter := { s.arbiter with passAsked := t.arbiter.passAsked } })
    (hasked : s.arbiter.grant = none → s.arbiter.passAsked = false → t.arbiter.passAsked = false) : s.goesOn t :=
  ⟨hframe, fun j => by rw [show t.line j = s.line j by rw [State.line, hlines]; rfl]; exact .refl _, hasked⟩

/-! ### The operations of a pass -/

theorem goesOn_heldSecond {i : LineId} {s : State} {x : Session} (hx : s.session i = some x) (hheld : x.state = .held) :
    s.goesOn (heldSecond i s) := by
  simp only [heldSecond, hx]
  have hsum : s.goesOn (addStated .heldSeconds x.heldSeconds 1 s).2 :=
    goesOn_of_lines (addStated_lines _ _ _ s) (by unfold addStated; split <;> rfl)
      (by unfold addStated; split <;> exact fun _ h => h)
  have hline : (addStated .heldSeconds x.heldSeconds 1 s).2.session i = some x := by
    rw [State.session, State.line, addStated_lines]; exact hx
  generalize addStated .heldSeconds x.heldSeconds 1 s = sum at hsum hline
  refine hsum.trans ⟨rfl, fun j => ?_, fun _ h => h⟩
  by_cases hj : j = i
  · subst hj
    have hline : (sum.2.line j).session = some x := hline
    rw [State.modSession, State.line_modLine]
    refine ⟨fun y => if y.state = .held then sum.1 else y.heldSeconds, fun y hy => if_neg hy, ?_⟩
    simp only [hline, Option.map_some, hheld, if_true]
  · rw [State.modSession, State.line_modLine_ne _ _ (Ne.symm hj)]
    exact .refl _

theorem goesOn_visitLines (t : Tick) (is : List LineId) (s : State) : s.goesOn (visitLines t is s) := by
  induction is generalizing s with
  | nil => exact goesOn_of_lines rfl rfl fun _ h => h
  | cons i rest ih =>
    unfold visitLines
    split
    · next x hx =>
      split
      · exact goesOn_of_lines rfl rfl fun _ h => h
      · split
        · next hheld =>
          simp only [Bool.and_eq_true, beq_iff_eq] at hheld
          exact (goesOn_heldSecond hx hheld.2).trans (ih _)
        · exact ih s
    · exact ih s

theorem goesOn_endPass (s : State) : s.goesOn (endPass s) := by
  unfold endPass
  split
  · exact goesOn_of_lines rfl rfl fun _ _ => rfl
  · exact .refl s

theorem goesOn_visit (s : State) : s.goesOn (visit s) := by
  unfold visit
  split
  · exact .refl s
  · exact (goesOn_visitLines _ _ s).trans (goesOn_endPass _)

/-- A pass for tick t at line 0, which has not asked for an access unless a client holds the grant (log entry 42). -/
def State.passBegun (s : State) (t : Tick) : State :=
  { s with
    engine := { s.engine with pass := some ⟨t, 0⟩ }
    hold := { s.hold with passInGranted := s.hold.state == .granted }
    arbiter := { s.arbiter with passAsked := s.arbiter.grant.isSome } }

theorem startPass_eq (t : Tick) (s : State) : startPass t s = visit (s.passBegun t) := rfl

theorem goesOn_startPass (t : Tick) (s : State) : s.goesOn (startPass t s) := by
  have hbegun : s.goesOn (s.passBegun t) :=
    goesOn_of_lines rfl rfl fun hgrant _ => show s.arbiter.grant.isSome = false by rw [hgrant]; rfl
  exact hbegun.trans (goesOn_visit _)

/-- No pass is in progress, and no tick is remembered. -/
def State.unremembered (s : State) : State :=
  { s with engine := { s.engine with pass := none, remembered := none } }

/-- A remembered tick starts its pass once there is none, but not in RELEASING or ahead of the access of R134. -/
theorem startRemembered_some {s : State} {k : Tick} (hpass : s.engine.pass = none) (hk : s.engine.remembered = some k)
    (hhold : s.hold.state ≠ .releasing) (hdue : s.engine.dueAsked = false) :
    startRemembered s = startPass k s.unremembered := by
  have hunremembered : s.unremembered = { s with engine := { s.engine with remembered := none } } := by
    rw [State.unremembered, ← hpass]
  rw [hunremembered]
  simp [startRemembered, hpass, hk, hhold, hdue]

theorem goesOn_startRemembered (s : State) : s.goesOn (startRemembered s) := by
  unfold startRemembered
  split
  · split
    · exact .refl s
    · refine State.goesOn.trans ?_ (goesOn_startPass _ _)
      exact goesOn_of_lines rfl rfl fun _ h => h
  · exact .refl s

theorem goesOn_goOn (s : State) : s.goesOn (goOn s) := (goesOn_visit s).trans (goesOn_startRemembered _)

/-- Where no release is under way, none ends. -/
theorem passOn_goOn {s : State} (h : s.hold.state ≠ .releasing) : passOn s = goOn s := by
  have hstate : (goOn s).hold.state = s.hold.state := by rw [(goesOn_goOn s).frame]
  exact (settleRelease_cases (goOn s)).elim (fun k => absurd (hstate.symm.trans k.1) h) And.left

end Sys2Proof.Machine
end

section
/-! PROOFS. Passes (R129, R130, R138): the lines that a visit passes over, with the held seconds that it counts, the
sessions that it comes to, and what a tick and a remembered tick start. -/

namespace Sys2Proof.Machine

/-! ### Lines in order -/

theorem allLines_split (i : LineId) : allLines = allLines.take i.val ++ i :: allLines.drop (i.val + 1) := by
  have hcut : allLines.drop i.val = i :: allLines.drop (i.val + 1) := by
    rw [show allLines = List.finRange 32 from rfl, List.drop_eq_getElem_cons (by simp)]
    simp
  rw [← hcut, List.take_append_drop]

theorem drop_allLines (i : LineId) : allLines.drop i.val = i :: allLines.drop (i.val + 1) := by
  conv_lhs => rw [allLines_split i]
  exact List.drop_left' (by simp [show allLines = List.finRange 32 from rfl])

theorem mem_take_allLines (i j : LineId) : j ∈ allLines.take i.val ↔ j < i := by
  have hnodup := allLines_nodup
  rw [← List.take_append_drop i.val allLines] at hnodup
  have hdisjoint := List.disjoint_of_nodup_append hnodup
  have hmem : j ∈ allLines.take i.val ∨ j ∈ allLines.drop i.val := by
    rw [← List.mem_append, List.take_append_drop]
    exact mem_allLines j
  have hdrop := mem_drop_allLines i.val j
  rw [Fin.lt_def, ← Nat.not_le, ← hdrop]
  exact ⟨fun htake hd => hdisjoint htake hd, hmem.resolve_right⟩

/-! ### Held seconds counted without an access (R138) -/

/-- Every session's held seconds grow by what n gives. -/
def State.countHeld (s : State) (n : LineId → Session → Nat) : State :=
  s.mapSessions fun j y => { y with heldSeconds := y.heldSeconds + n j y }

/-- The held seconds that the pass of tick t counts on line j in a visit of the lines `is`. -/
def Tick.heldOn (t : Tick) (is : List LineId) (j : LineId) (y : Session) : Nat :=
  if j ∈ is ∧ y.state = .held ∧ y.bornTick < t.number then 1 else 0

section
variable {t : Tick} {s : State}

theorem State.countHeld_line (n : LineId → Session → Nat) (j : LineId) :
    (s.countHeld n).line j =
      { s.line j with session := (s.session j).map fun y => { y with heldSeconds := y.heldSeconds + n j y } } :=
  s.line_mapLines _ j

theorem State.countHeld_session (n : LineId → Session → Nat) (j : LineId) :
    (s.countHeld n).session j = (s.session j).map fun y => { y with heldSeconds := y.heldSeconds + n j y } :=
  congrArg LineRec.session (State.countHeld_line n j)

/-- What is counted rests on the lines' sessions alone. -/
theorem State.countHeld_eq {u : State} {n : LineId → Session → Nat}
    (h : ∀ j, u.line j = { s.line j with
      session := (s.session j).map fun y => { y with heldSeconds := y.heldSeconds + n j y } })
    (hframe : u = { s with lines := u.lines }) : u = s.countHeld n := by
  have hlines : u.lines = (s.countHeld n).lines := Bank.ext_get fun j => (h j).trans (State.countHeld_line n j).symm
  rw [hframe, hlines]
  rfl

theorem State.countHeld_zero {n : LineId → Session → Nat} (h : ∀ j y, s.session j = some y → n j y = 0) :
    s.countHeld n = s := by
  refine (State.countHeld_eq (fun j => ?_) rfl).symm
  have hsame : (s.session j).map (fun y => { y with heldSeconds := y.heldSeconds + n j y }) = s.session j := by
    refine (Option.map_congr fun y hy => ?_).trans (congrFun Option.map_id_fun' (s.session j))
    rw [h j y hy]
    rfl
  rw [hsame]
  rfl

/-- A visit of no line counts nothing. -/
theorem State.countHeld_nil (s : State) (t : Tick) : s.countHeld (t.heldOn []) = s :=
  State.countHeld_zero fun _ _ _ => if_neg fun h => List.not_mem_nil h.1

/-- Two countings in turn, the second of which does not read what the first counts. -/
theorem State.countHeld_countHeld (n m : LineId → Session → Nat)
    (hm : ∀ (j : LineId) (y : Session) (h : Nat), m j { y with heldSeconds := h } = m j y) :
    (s.countHeld n).countHeld m = s.countHeld fun j y => n j y + m j y := by
  refine State.countHeld_eq (fun j => ?_) rfl
  rw [State.countHeld_line, State.countHeld_session, State.countHeld_line, Option.map_map]
  refine congrArg (fun o => { s.line j with session := o }) (Option.map_congr fun y _ => ?_)
  simp only [Function.comp_apply, hm, Nat.add_assoc]

/-- A HELD session with room for the second counts it, on its own line. -/
theorem heldSecond_eq {i : LineId} {y : Session} (hy : s.session i = some y) (hheld : y.state = .held)
    (hborn : y.bornTick < t.number) (hroom : y.heldSeconds < 4294967295) :
    heldSecond i s = s.countHeld (t.heldOn [i]) := by
  have hsecond : heldSecond i s = s.modSession i fun x => { x with heldSeconds := y.heldSeconds + 1 } := by
    simp only [heldSecond, hy, addStated_room .heldSeconds s hroom]
  rw [hsecond]
  refine State.countHeld_eq (fun j => ?_) rfl
  by_cases hj : j = i
  · subst hj
    have hcounted : t.heldOn [j] j y = 1 := if_pos ⟨List.mem_singleton_self j, hheld, hborn⟩
    rw [State.modSession, State.line_modLine, show (s.line j).session = some y from hy, hy, Option.map_some,
      Option.map_some, hcounted]
  · have hnone (z : Session) : t.heldOn [i] j z = 0 := if_neg fun h => hj (List.mem_singleton.mp h.1)
    rw [State.modSession, State.line_modLine_ne _ _ (Ne.symm hj)]
    simp only [hnone, Nat.add_zero, Option.map_id']
    rfl

/-! ### A visit of lines (R130) -/

/-- Lines that the pass need not charge, with room for the held seconds that it may count there. -/
def Tick.passesBy (t : Tick) (s : State) (is : List LineId) : Prop :=
  ∀ (j : LineId) (y : Session), j ∈ is → s.session j = some y →
    (y.state.isCharged = true → t.number ≤ y.bornTick) ∧
      (y.state = .held → y.bornTick < t.number → y.heldSeconds < 4294967295)

/-- One line passed over. -/
theorem visitLines_passed {i : LineId} {rest : List LineId} (h : t.passesBy s [i]) :
    visitLines t (i :: rest) s = visitLines t rest (s.countHeld (t.heldOn [i])) := by
  have hnone (hz : ∀ y, s.session i = some y → t.heldOn [i] i y = 0) : s.countHeld (t.heldOn [i]) = s := by
    refine State.countHeld_zero fun j y hy => ?_
    by_cases hj : j = i
    · subst hj; exact hz y hy
    · exact if_neg fun k => hj (List.mem_singleton.mp k.1)
  cases hy : s.session i with
  | none =>
    rw [hnone fun y h => absurd (hy.symm.trans h) (Option.some_ne_none y).symm]
    simp only [visitLines, hy]
  | some y =>
    obtain ⟨hcharged, hroom⟩ := h i y (List.mem_singleton_self i) hy
    have hspared : (t.sees y && y.state.isCharged) = false := by
      rw [Tick.sees, Bool.and_eq_false_imp, decide_eq_true_eq]
      exact fun hborn => Bool.eq_false_iff.mpr fun hc => absurd (hcharged hc) (Nat.not_le.mpr hborn)
    by_cases hheld : y.state = .held ∧ y.bornTick < t.number
    · rw [← heldSecond_eq hy hheld.1 hheld.2 (hroom hheld.1 hheld.2)]
      simp [visitLines, hy, hheld.1, Tick.sees, hheld.2, SessionState.isCharged]
    · have hno : (t.sees y && y.state == .held) = false := by
        rw [Bool.eq_false_iff]
        simpa [Tick.sees, and_comm] using hheld
      rw [hnone fun z hz => if_neg fun k => hheld (by rw [Option.some.inj (hy.symm.trans hz)]; exact k.2)]
      simp only [visitLines, hy, hspared, hno, Bool.false_eq_true, if_false]

theorem Tick.heldOn_cons {i : LineId} {is : List LineId} (hi : i ∉ is) (j : LineId) (y : Session) :
    t.heldOn [i] j y + t.heldOn is j y = t.heldOn (i :: is) j y := by
  unfold Tick.heldOn
  by_cases hj : j = i
  · subst hj; simp [hi]
  · simp [hj]

/-- Lines passed over in turn: their held seconds are counted, and the visit goes on. -/
theorem visitLines_append (is : List LineId) (hnodup : is.Nodup) (rest : List LineId) (h : t.passesBy s is) :
    visitLines t (is ++ rest) s = visitLines t rest (s.countHeld (t.heldOn is)) := by
  induction is generalizing s with
  | nil =>
    rw [State.countHeld_nil, List.nil_append]
  | cons i is ih =>
    obtain ⟨hi, hrest⟩ := List.nodup_cons.mp hnodup
    have hone : t.passesBy s [i] := fun j y hj hy => by
      obtain rfl := List.mem_singleton.mp hj
      exact h j y List.mem_cons_self hy
    have hothers : t.passesBy (s.countHeld (t.heldOn [i])) is := fun j z hj hz => by
      rw [State.countHeld_session] at hz
      obtain ⟨y, hy, rfl⟩ := Option.map_eq_some_iff.mp hz
      obtain ⟨hcharged, hroom⟩ := h j y (List.mem_cons_of_mem i hj) hy
      have hne : j ≠ i := fun e => hi (e ▸ hj)
      refine ⟨hcharged, fun hheld hborn => ?_⟩
      have hnone : t.heldOn [i] j y = 0 := if_neg fun k => hne (List.mem_singleton.mp k.1)
      rw [hnone]
      exact hroom hheld hborn
    rw [List.cons_append, visitLines_passed hone, ih hrest hothers,
      State.countHeld_countHeld (t.heldOn [i]) (t.heldOn is) fun _ _ _ => rfl]
    simp only [Tick.heldOn_cons hi]

/-- A line that the pass must charge ends the visit. -/
theorem visitLines_charged {i : LineId} {rest : List LineId} {x : Session} (hx : s.session i = some x)
    (hcharged : x.state.isCharged = true) (hborn : x.bornTick < t.number) :
    visitLines t (i :: rest) s = setNext i.val s := by
  simp [visitLines, hx, hcharged, Tick.sees, hborn]

/-! ### A visit, whole (R129, R130) -/

/-- The pass has ended. -/
def State.passEnded (s : State) : State :=
  { s with
    engine := { s.engine with pass := none }, hold := { s.hold with passInGranted := false }
    arbiter := { s.arbiter with passAsked := false } }

/-- The pass of tick t stands at line i. -/
def State.passAt (s : State) (t : Tick) (i : LineId) : State :=
  { s with engine := { s.engine with pass := some ⟨t, i.val⟩ } }

section
variable {p : Pass}

/-- A pass with no session left to charge goes to its end. -/
theorem visit_ends (hp : s.engine.pass = some p) (h : p.tick.passesBy s (allLines.drop p.next)) :
    visit s = (s.countHeld (p.tick.heldOn (allLines.drop p.next))).passEnded := by
  have hvisit := visitLines_append (rest := []) _ (allLines_nodup.sublist (List.drop_sublist _ _)) h
  rw [List.append_nil] at hvisit
  have hengine : (s.countHeld (p.tick.heldOn (allLines.drop p.next))).engine = s.engine := rfl
  simp only [visit, hp, hvisit, visitLines, endPass, setNext, hengine, Option.map_some, Option.any_some, le_refl,
    decide_true, if_true]
  rfl

/-- A pass comes to the lowest line that it must charge, past the lines before it. -/
theorem visit_reaches {is rest : List LineId} {i : LineId} {x : Session} (hp : s.engine.pass = some p)
    (hsplit : allLines.drop p.next = is ++ i :: rest) (h : p.tick.passesBy s is) (hx : s.session i = some x)
    (hcharged : x.state.isCharged = true) (hborn : x.bornTick < p.tick.number) :
    visit s = (s.countHeld (p.tick.heldOn is)).passAt p.tick i := by
  have hnodup : is.Nodup := by
    have hall := allLines_nodup.sublist (List.drop_sublist p.next allLines)
    rw [hsplit] at hall
    exact hall.of_append_left
  have hx' : (s.countHeld (p.tick.heldOn is)).session i = some _ :=
    (State.countHeld_session _ i).trans (by rw [hx, Option.map_some])
  have hengine : (s.countHeld (p.tick.heldOn is)).engine = s.engine := rfl
  have hbefore : ¬ 32 ≤ i.val := Nat.not_le.mpr i.isLt
  simp only [visit, hp, hsplit, visitLines_append is hnodup _ h, visitLines_charged hx' hcharged hborn, endPass,
    setNext, hengine, Option.map_some, Option.any_some, hbefore, decide_false, Bool.false_eq_true, if_false,
    State.passAt]

/-- A pass that stands at a session it must charge stays there. -/
theorem visit_stays {i : LineId} {x : Session} (hp : s.engine.pass = some p) (hnext : p.next = i.val)
    (hx : s.session i = some x) (hcharged : x.state.isCharged = true) (hborn : x.bornTick < p.tick.number) :
    visit s = s := by
  have hsplit : allLines.drop p.next = [] ++ i :: allLines.drop (i.val + 1) := by rw [hnext, drop_allLines]; rfl
  rw [visit_reaches hp hsplit (fun j y hj _ => absurd hj List.not_mem_nil) hx hcharged hborn, State.countHeld_nil,
    State.passAt, ← hnext, ← hp]

end

/-! ### A pass that starts (R129) -/

/-- A pass that finds no session to charge goes to its end. -/
theorem startPass_ends (h : t.passesBy s allLines) :
    startPass t s = (s.countHeld (t.heldOn allLines)).passEnded := by
  rw [startPass_eq, visit_ends (s := s.passBegun t) (p := ⟨t, 0⟩) rfl h]
  rfl

/-- A pass comes to the lowest line that it must charge. -/
theorem startPass_reaches {i : LineId} {x : Session} (h : t.passesBy s (allLines.take i.val))
    (hx : s.session i = some x) (hcharged : x.state.isCharged = true) (hborn : x.bornTick < t.number) :
    startPass t s = ((s.countHeld (t.heldOn (allLines.take i.val))).passBegun t).passAt t i := by
  rw [startPass_eq, visit_reaches (s := s.passBegun t) (p := ⟨t, 0⟩) rfl (allLines_split i) h hx hcharged hborn]
  rfl

end

end Sys2Proof.Machine
end

section
/-! PROOFS. Ticks (R113, R129, R135, R138): a tick starts a pass, is remembered, or is lost, and a remembered tick
starts its pass when the pass before it has ended. -/

namespace Sys2Proof.Machine

/-! ### A pass in progress at the tick -/

/-- A pass in progress stands at a session that it must charge. -/
def State.inPass (s : State) : Prop :=
  ∃ (p : Pass) (i : LineId) (x : Session), s.engine.pass = some p ∧ p.next = i.val ∧ s.session i = some x ∧
    x.state.isCharged = true ∧ x.bornTick < p.tick.number

/-- Then the row has nothing to go on with before it acts. -/
theorem passOn_inPass {s : State} (h : s.inPass) : passOn s = s := by
  obtain ⟨p, i, x, hp, hnext, hx, hcharged, hborn⟩ := h
  have hgoOn : goOn s = s := by
    rw [goOn, visit_stays hp hnext hx hcharged hborn]
    simp [startRemembered, hp]
  rw [passOn, hgoOn]
  exact (settleRelease_cases s).elim (fun ⟨_, _, hnone, _⟩ => absurd (hnone.symm.trans hp) (by simp)) And.left

theorem State.inPass.isSome {s : State} (h : s.inPass) : s.engine.pass.isSome = true := by
  obtain ⟨p, -, -, hp, -⟩ := h
  rw [hp]; rfl

/-! ### The tick is taken (R129, R135) -/

/-- The tick that the clock's advance gives (R113, R125). -/
def State.tickNext (s : State) : Tick := ⟨s.clock.advance, s.engine.ticks + 1, s.takenTariff⟩

/-- The clock has advanced and the tick has its number. -/
def State.ticked (s : State) : State :=
  { s with clock := s.clock.advance, engine := { s.engine with ticks := s.engine.ticks + 1 } }

section
variable {s : State}

/-- The row, where nothing goes on by itself before the tick. -/
theorem exec_clockAdvance (hp : s.mainPower = true) (hstart : s.tPort.starting = false) (hon : passOn s = s) :
    exec .clockAdvance s = .next (takeTick (advanceClock s)) := by
  show Host.Outcome.next (clockTick s) = _
  rw [clockTick, hp, hstart, hon]
  rfl

/-- A tick taken while another is remembered is lost (R135). -/
theorem takeTick_lost (h : s.engine.remembered ≠ none) : takeTick (advanceClock s) = loseTick s.ticked :=
  if_pos (Option.isSome_iff_ne_none.mpr h)

/-- A tick taken during a pass, or while the hold is RELEASING, is remembered (R129). -/
theorem takeTick_remembered (h : s.engine.remembered = none)
    (hbusy : s.engine.pass.isSome = true ∨ s.hold.state = .releasing) :
    takeTick (advanceClock s) =
      { s.ticked with engine := { s.ticked.engine with remembered := some s.tickNext } } := by
  have hnone : ¬ (s.engine.remembered.isSome = true) := by simp [h]
  have hbusy : (s.engine.pass.isSome || s.hold.state == .releasing) = true := by simpa using hbusy
  exact (if_neg hnone).trans (if_pos hbusy)

/-- Any other tick starts its pass (R129). -/
theorem takeTick_starts (h : s.engine.remembered = none) (hpass : s.engine.pass = none)
    (hhold : s.hold.state ≠ .releasing) : takeTick (advanceClock s) = startPass s.tickNext s.ticked := by
  have hnone : ¬ (s.engine.remembered.isSome = true) := by simp [h]
  have hidle : ¬ ((s.engine.pass.isSome || s.hold.state == .releasing) = true) := by simpa [hpass] using hhold
  exact (if_neg hnone).trans (if_neg hidle)

/-! ### A remembered tick starts its pass (R129) -/

/-- The held seconds that the rest of the pass in progress counts, if there is one. -/
def State.heldLeft (s : State) (j : LineId) (y : Session) : Nat :=
  s.engine.pass.elim 0 fun p => p.tick.heldOn (allLines.drop p.next) j y

/-- The pass in progress, if there is one, ends, having no session left to charge, and the remembered tick starts its
pass. -/
theorem passOn_remembered {k : Tick} (hk : s.engine.remembered = some k) (hhold : s.hold.state ≠ .releasing)
    (hdue : s.engine.dueAsked = false)
    (hleft : ∀ p, s.engine.pass = some p → p.tick.passesBy s (allLines.drop p.next)) :
    passOn s = startPass k (s.countHeld s.heldLeft).unremembered := by
  rw [passOn_goOn hhold, goOn]
  cases hp : s.engine.pass with
  | none =>
    have hsame : s.countHeld s.heldLeft = s := State.countHeld_zero fun _ _ _ => by rw [State.heldLeft, hp]; rfl
    have hvisit : visit s = s := by simp [visit, hp]
    rw [hvisit, startRemembered_some hp hk hhold hdue, hsame]
  | some p =>
    have hcounts : s.heldLeft = p.tick.heldOn (allLines.drop p.next) := by
      funext j y
      rw [State.heldLeft, hp]; rfl
    rw [visit_ends hp (hleft p hp), hcounts]
    exact startRemembered_some (s := State.passEnded _) rfl hk hhold hdue

theorem State.heldLeft_eq (j : LineId) (y : Session) :
    s.heldLeft j y = if y.state = .held ∧
      s.engine.pass.any (fun p => decide (p.next ≤ j.val ∧ y.bornTick < p.tick.number)) = true then 1 else 0 := by
  unfold State.heldLeft
  cases s.engine.pass with
  | none => simp
  | some p => simp [Tick.heldOn, mem_drop_allLines, and_left_comm]

/-- No session is left to the pass in progress, if there is one, and there is room for what the rest of it counts, and
for what the pass of tick k counts on the lines `is` after it, where it charges no session. -/
structure State.lastVisit (s : State) (k : Tick) (is : List LineId) : Prop where
  left : ∀ p, s.engine.pass = some p → p.tick.passesBy s (allLines.drop p.next)
  next : k.passesBy (s.countHeld s.heldLeft).unremembered is

theorem State.lastVisit_of {k : Tick} {is : List LineId}
    (hidle : ∀ (p : Pass) (i : LineId) (x : Session), s.engine.pass = some p → p.next ≤ i.val →
      s.session i = some x → x.state.isCharged = true → p.tick.number ≤ x.bornTick)
    (h : ∀ (j : LineId) (y : Session), s.session j = some y →
      (j ∈ is → y.state.isCharged = true → k.number ≤ y.bornTick) ∧
        y.heldSeconds + s.heldLeft j y + k.heldOn is j y ≤ 4294967295) : s.lastVisit k is := by
  refine ⟨fun p hp j y hj hy => ⟨hidle p j y hp ((mem_drop_allLines _ _).mp hj) hy, fun hheld hborn => ?_⟩,
    fun j z hj hz => ?_⟩
  · have hone : s.heldLeft j y = 1 := by
      rw [State.heldLeft, hp]
      exact if_pos ⟨hj, hheld, hborn⟩
    have hroom := (h j y hy).2
    omega
  · obtain ⟨y, hy, rfl⟩ := Option.map_eq_some_iff.mp ((State.countHeld_session _ j).symm.trans hz)
    obtain ⟨hcharged, hroom⟩ := h j y hy
    refine ⟨hcharged hj, fun hheld hborn => ?_⟩
    have hone : k.heldOn is j y = 1 := if_pos ⟨hj, hheld, hborn⟩
    show y.heldSeconds + s.heldLeft j y < _
    omega

/-- Both passes count in turn. -/
theorem State.countHeld_unremembered (k : Tick) (is : List LineId) :
    (s.countHeld s.heldLeft).unremembered.countHeld (k.heldOn is) =
      (s.countHeld fun j y => s.heldLeft j y + k.heldOn is j y).unremembered := by
  rw [← State.countHeld_countHeld s.heldLeft (k.heldOn is) fun _ _ _ => rfl]
  rfl

/-- The row of a remembered tick, where its pass finds no session to charge. -/
theorem exec_rememberedTickPass_ends {k : Tick} (hp : s.mainPower = true) (hk : s.engine.remembered = some k)
    (hhold : s.hold.state ≠ .releasing) (hdue : s.engine.dueAsked = false) (h : s.lastVisit k allLines) :
    exec .rememberedTickPass s =
      .next (s.countHeld fun j y => s.heldLeft j y + k.heldOn allLines j y).unremembered.passEnded := by
  rw [exec_powered (f := passOn) rfl hp, passOn_remembered hk hhold hdue h.left, startPass_ends h.next,
    State.countHeld_unremembered]

/-- The row of a remembered tick, where its pass comes to line i. -/
theorem exec_rememberedTickPass_reaches {k : Tick} {i : LineId} {x : Session} (hp : s.mainPower = true)
    (hk : s.engine.remembered = some k) (hhold : s.hold.state ≠ .releasing) (hdue : s.engine.dueAsked = false)
    (h : s.lastVisit k (allLines.take i.val)) (hx : s.session i = some x) (hcharged : x.state.isCharged = true)
    (hborn : x.bornTick < k.number) :
    exec .rememberedTickPass s =
      .next (((s.countHeld fun j y =>
        s.heldLeft j y + k.heldOn (allLines.take i.val) j y).unremembered.passBegun k).passAt k i) := by
  have hx' : (s.countHeld s.heldLeft).unremembered.session i = some _ :=
    (State.countHeld_session _ i).trans (by rw [hx, Option.map_some])
  rw [exec_powered (f := passOn) rfl hp, passOn_remembered hk hhold hdue h.left,
    startPass_reaches h.next hx' hcharged hborn, State.countHeld_unremembered]

end

theorem HoldState.ne_releasing {h : HoldState} (k : h = .none ∨ h = .requested ∨ h = .granted) : h ≠ .releasing := by
  rcases k with rfl | rfl | rfl <;> decide

/-- Settles O42: what the row goes on with before the tick (`passOn_inPass`, `passOn_idle`, `passOn_releasing`), what
becomes of the tick (`takeTick_starts` and the like), and where a pass that starts comes to. -/
theorem ticksStartRememberOrLose : Obligations.TicksStartRememberOrLose := by
  refine ⟨fun s hp hstart => ?_, fun k s hp hk hhold hdue hidle => ?_⟩
  · intro tick ticked inPass
    refine ⟨fun i x hpass hnone hhold hx hcharged hborn hbefore => ?_, fun hin hnone => ?_,
      fun hpass hnone hhold haside => ?_, fun hin hsome => ?_⟩
    · have hhold := HoldState.ne_releasing hhold
      have hpasses : s.tickNext.passesBy s.ticked (allLines.take i.val) := fun j y hj hy => by
        rcases hbefore j y ((mem_take_allLines i j).mp hj) hy with hy | ⟨hheld, -, hroom⟩
        · rw [hy]
          exact ⟨fun h => absurd h (by decide), fun h => absurd h (by decide)⟩
        · rw [hheld]
          exact ⟨fun h => absurd h (by decide), fun _ _ => hroom⟩
      rw [exec_clockAdvance hp hstart (passOn_idle hpass hnone hhold), takeTick_starts hnone hpass hhold,
        startPass_reaches hpasses hx hcharged (Nat.lt_succ_of_le hborn)]
      refine ⟨_, rfl, rfl, rfl, hnone, rfl, rfl, fun j => ?_⟩
      refine (State.countHeld_session (s := s.ticked) _ j).trans (Option.map_congr fun y hy => ?_)
      by_cases hcount : j < i ∧ y.state = .held
      · have hone : s.tickNext.heldOn (allLines.take i.val) j y = 1 := by
          rcases hbefore j y hcount.1 hy with hclosing | ⟨-, hborn, -⟩
          · exact absurd (hclosing.symm.trans hcount.2) (by decide)
          · exact if_pos ⟨(mem_take_allLines i j).mpr hcount.1, hcount.2, Nat.lt_succ_of_le hborn⟩
        rw [if_pos hcount, hone]
      · have hzero : s.tickNext.heldOn (allLines.take i.val) j y = 0 :=
          if_neg fun h => hcount ⟨(mem_take_allLines i j).mp h.1, h.2.1⟩
        rw [if_neg hcount, hzero]
        rfl
    · rw [exec_clockAdvance hp hstart (passOn_inPass hin), takeTick_remembered hnone (.inl (State.inPass.isSome hin))]
      rfl
    · rw [exec_clockAdvance hp hstart (passOn_releasing hhold hpass haside), takeTick_remembered hnone (.inr hhold)]
      rfl
    · rw [exec_clockAdvance hp hstart (passOn_inPass hin), takeTick_lost hsome]
      exact ⟨_, rfl, rfl, rfl, fun i => s.ticked.line_mapLines _ i, rfl⟩
  · intro old new counted
    have hhold := HoldState.ne_releasing hhold
    have hold (j : LineId) (y : Session) : s.heldLeft j y = old j y := State.heldLeft_eq j y
    refine ⟨fun h => ?_, fun i x hx hcharged hborn h => ?_⟩
    · have hnew (j : LineId) (y : Session) : k.heldOn allLines j y = new y := by simp [Tick.heldOn, new]
      rw [exec_rememberedTickPass_ends hp hk hhold hdue (State.lastVisit_of hidle fun j y hy => by
        rw [hold, hnew]
        exact ⟨fun _ => (h j y hy).1, (h j y hy).2⟩)]
      refine ⟨_, rfl, fun j => ?_, rfl⟩
      simp only [hold, hnew]
      exact State.countHeld_line _ j
    · have hnew (j : LineId) (y : Session) :
          k.heldOn (allLines.take i.val) j y = if j < i then new y else 0 := by
        simp only [Tick.heldOn, mem_take_allLines, new, ← ite_and]
      rw [exec_rememberedTickPass_reaches hp hk hhold hdue (State.lastVisit_of hidle fun j y hy => by
        rw [hold, hnew, mem_take_allLines]
        exact h j y hy) hx hcharged hborn]
      refine ⟨_, rfl, fun j => ?_, rfl⟩
      simp only [hold, hnew]
      exact State.countHeld_line _ j

end Sys2Proof.Machine
end

section
/-! PROOFS. An access of the pass (R130 to R133, R136, R137): the second charged, the supervision, and what follows the
access (R93, R94, R106). -/

namespace Sys2Proof.Machine

/-! ### The row of the access -/

section
variable {s : State} {k : Tick} {i : LineId} {x : Session}

/-- The engine makes its access for the session at which the pass stands. -/
theorem passStep_access (hpass : s.engine.pass = some ⟨k, i.val⟩) (hx : s.session i = some x)
    (hcharged : x.state.isCharged = true) (hborn : x.bornTick < k.number) (hgrants : s.grantsPass = true) :
    passStep s = (afterAccess (passAccess i k s).1, some (i, (passAccess i k s).2)) := by
  have hon : passOn s = s := passOn_inPass ⟨_, i, x, hpass, rfl, hx, hcharged, hborn⟩
  have hline : (⟨k, i.val⟩ : Pass).line = some i := dif_pos i.isLt
  simp only [passStep, hon, hpass, hline, hgrants, if_true]

theorem exec_meteringPassAccess (hp : s.mainPower = true) (hpass : s.engine.pass = some ⟨k, i.val⟩)
    (hx : s.session i = some x) (hcharged : x.state.isCharged = true) (hborn : x.bornTick < k.number)
    (hgrants : s.grantsPass = true) :
    exec .meteringPassAccess s = .next (afterAccess (passAccess i k s).1) := by
  rw [exec_powered (f := fun s => (passStep s).1) rfl hp, passStep_access hpass hx hcharged hborn hgrants]

/-- A row that is the pass's access where it comes to an event (log entry 26), where it does. -/
theorem exec_passEvent {row : Instr} {hit : PassNote → Bool}
    (hrow : exec row s = .next (whenPowered s (passStepOn i hit))) (hp : s.mainPower = true)
    (hpass : s.engine.pass = some ⟨k, i.val⟩) (hx : s.session i = some x) (hcharged : x.state.isCharged = true)
    (hborn : x.bornTick < k.number) (hgrants : s.grantsPass = true) (hhit : hit (passAccess i k s).2 = true) :
    exec row s = .next (afterAccess (passAccess i k s).1) := by
  rw [exec_powered hrow hp, passStepOn, passStep_access hpass hx hcharged hborn hgrants]
  simp only [hhit, and_self, if_true]

/-- The pass's access is next: no client of the rotation holds the grant, and the engine has nothing to do before it. -/
theorem State.grantsPass_iff : s.grantsPass = true ↔
    s.nextGrant = some .engine ∧ s.engine.dueAsked = false ∧ s.engine.closeWork = [] := by
  simp [State.grantsPass, and_assoc]

theorem State.grant_of_nextGrant (h : s.nextGrant = some .engine) :
    s.arbiter.grant = none ∨ s.arbiter.grant = some .engine := by
  cases hg : s.arbiter.grant with
  | none => exact .inl rfl
  | some c => exact .inr ((State.nextGrant_held hg).symm.trans h)

end

/-! ### A session part put in place -/

/-- Line i's session part is z. -/
def State.putSession (s : State) (i : LineId) (z : Session) : State :=
  s.setLine i { s.line i with session := some z }

section
variable {s : State} {i j : LineId} {x : Session}

@[simp] theorem State.putSession_line (s : State) (i : LineId) (z : Session) :
    (s.putSession i z).line i = { s.line i with session := some z } := s.line_setLine i _

@[simp] theorem State.putSession_session (s : State) (i : LineId) (z : Session) :
    (s.putSession i z).session i = some z := congrArg LineRec.session (s.putSession_line i z)

theorem State.putSession_line_ne (s : State) (z : Session) (h : j ≠ i) : (s.putSession i z).line j = s.line j :=
  s.line_setLine_ne _ (Ne.symm h)

theorem State.putSession_session_ne (s : State) (z : Session) (h : j ≠ i) :
    (s.putSession i z).session j = s.session j := congrArg LineRec.session (s.putSession_line_ne z h)

@[simp] theorem State.putSession_putSession (s : State) (i : LineId) (y z : Session) :
    (s.putSession i y).putSession i z = s.putSession i z := by
  rw [State.putSession, State.putSession_line, State.putSession, State.setLine_setLine]
  rfl

theorem State.putSession_self (hx : s.session i = some x) : s.putSession i x = s := by
  rw [State.putSession, ← hx]
  exact s.setLine_self i

/-- A change of a session part puts what it has become in its place. -/
theorem State.modSession_put (hx : s.session i = some x) (f : Session → Session) :
    s.modSession i f = s.putSession i (f x) := by
  have hx : (s.line i).session = some x := hx
  rw [State.modSession, State.modLine_eq, hx]
  rfl

theorem State.openSession_charged (hx : s.session i = some x) (hcharged : x.state.isCharged = true) :
    s.openSession i = some x :=
  (s.openSession_iff i x).mpr ⟨hx, by revert hcharged; cases x.state <;> decide⟩

end

/-! ### What follows the access (R93, R94, R106, R130) -/

/-- The access of the pass has ended. -/
def State.accessEnded (v : State) : State :=
  { v with
    engine := { v.engine with pass := v.engine.pass.map fun p => { p with next := p.next + 1 } }
    arbiter := { v.arbiter with grant := none, passAsked := false } }

theorem afterAccess_eq (v : State) : afterAccess v = arbitrate (passOn (limitOver v.accessEnded)) := rfl

/-- What follows an access leaves the lines but for held seconds, and the accounts, records and queues. -/
theorem afterAccess_beside (v : State) :
    (∀ j, (v.line j).passedOver ((afterAccess v).line j)) ∧ (afterAccess v).accounts = v.accounts ∧
      (afterAccess v).billing = v.billing ∧ (afterAccess v).input = v.input ∧
      (afterAccess v).deferred = v.deferred := by
  have hgoes := goesOn_goOn (limitOver v.accessEnded)
  have hover (j : LineId) : (limitOver v.accessEnded).line j = v.line j := by rw [limitOver_eq]; rfl
  have hline (j : LineId) : (passOn (limitOver v.accessEnded)).line j = (goOn (limitOver v.accessEnded)).line j := by
    rw [passOn, settleRelease_eq]; rfl
  rw [afterAccess_eq]
  refine ⟨fun j => ?_, ?_, ?_, ?_, ?_⟩
  · rw [arbitrate_line, hline, ← hover]
    exact hgoes.line j
  · rw [arbitrate_accounts, passOn, settleRelease_eq, hgoes.frame, limitOver_eq]; rfl
  · rw [arbitrate_billing, passOn, settleRelease_eq, hgoes.frame, limitOver_eq]; rfl
  · rw [arbitrate_input, passOn, settleRelease_eq, hgoes.frame, limitOver_eq]; rfl
  · rw [arbitrate_deferred, passOn, settleRelease_eq, hgoes.frame, limitOver_eq]; rfl

/-- A free table, with the hold NONE and the engine asking for nothing: the client whose turn it is is granted, if one
waits (R93, R94). -/
theorem arbitrate_turn {u : State} (hgrant : u.arbiter.grant = none) (hhold : u.hold.state = .none)
    (hasks : u.engineAsks = false) (hpass : u.arbiter.passAsked = false) :
    (arbitrate u).arbiter = match u.arbiter.rotation.find? u.asks with
      | none => u.arbiter
      | some c => (grantTo c u).arbiter := by
  have hchosen := State.chosen_none hhold
  rw [hasks, hpass, Bool.and_false, Bool.or_false, if_neg Bool.false_ne_true] at hchosen
  cases hfind : u.arbiter.rotation.find? u.asks with
  | none =>
    rw [hfind, Option.none_or] at hchosen
    rw [arbitrate_stands]
    rw [hchosen]
    split
    · exact .inr rfl
    · exact .inl rfl
  | some c =>
    rw [hfind, Option.some_or] at hchosen
    have hne : c ≠ .engine := fun e => absurd (e ▸ List.find?_some hfind) (by simp [State.asks])
    rw [arbitrate_chosen hgrant hchosen hne]

/-- Who asks rests on the hold, the check request queue, the commands that wait, and the grants of the rotation. -/
theorem State.asks_congr {s u : State} (hhold : u.hold.state = s.hold.state)
    (hs : s.arbiter.grant = none ∨ s.arbiter.grant = some .engine) (hu : u.arbiter.grant = none)
    (hasked : u.arbiter.checkerAsked = s.arbiter.checkerAsked) (hqueue : u.checkQueue = s.checkQueue)
    (hwaits : ∀ p, u.waitingCommand p = s.waitingCommand p) : u.asks = s.asks := by
  have hfree {v : State} (hv : v.arbiter.grant = none ∨ v.arbiter.grant = some .engine) {c : Client}
      (hc : c ≠ .engine) : (v.arbiter.grant != some c) = true := by
    rw [bne_iff_ne]
    rcases hv with hv | hv <;> simp [hv, Ne.symm hc]
  funext c
  cases c with
  | engine => rfl
  | checker =>
    have hne : Client.checker ≠ .engine := by decide
    simp only [State.asks, State.checkerAsks, State.eligibleCheck, hhold, hfree hs hne, hfree (.inl hu) hne, hasked,
      hqueue]
  | unit p =>
    have hne : Client.unit p ≠ .engine := by simp
    simp only [State.asks, hwaits, hfree hs hne, hfree (.inl hu) hne]

/-- After an access with the hold NONE and no request of the engine, the client whose turn it is is granted, if one
waits. -/
theorem afterAccess_arbiter {v : State} (hhold : v.hold.state = .none) (hasks : v.engineAsks = false) :
    (afterAccess v).arbiter = match v.arbiter.rotation.find? v.accessEnded.asks with
      | none => { v.arbiter with grant := none, passAsked := false }
      | some c =>
        { grant := some c, rotation := v.arbiter.rotation.erase c ++ [c]
          passAsked := (afterAccess v).engine.pass.isSome
          checkerAsked := v.arbiter.checkerAsked && c != .checker } := by
  have hover : limitOver v.accessEnded = v.accessEnded :=
    (limitOver_cases v.accessEnded).elim (fun h => absurd (hhold.symm.trans h.1) (by decide)) And.left
  have hgoes := goesOn_goOn v.accessEnded
  have hpassOn : passOn v.accessEnded = goOn v.accessEnded :=
    passOn_goOn (show v.hold.state ≠ .releasing by rw [hhold]; decide)
  rw [afterAccess_eq, hover, hpassOn]
  generalize goOn v.accessEnded = u at hgoes
  have hunasked : u.arbiter.passAsked = false := hgoes.unasked rfl rfl
  have harbiter : u.arbiter = { v.arbiter with grant := none, passAsked := false } := by
    rw [hgoes.frame, hunasked]; rfl
  have hugrant : u.arbiter.grant = none := by rw [harbiter]
  have huhold : u.hold.state = .none := by rw [hgoes.frame]; exact hhold
  have huasks : u.engineAsks = false := by rw [hgoes.frame]; exact hasks
  have hasks' : u.asks = v.accessEnded.asks := State.asks_congr (by rw [hgoes.frame]) (.inl rfl) hugrant
    (by rw [harbiter]; rfl) (by rw [hgoes.frame]) fun p => by rw [hgoes.frame]; cases p <;> rfl
  have hrotation : u.arbiter.rotation = v.arbiter.rotation := by rw [harbiter]
  rw [arbitrate_engine, arbitrate_turn hugrant huhold huasks hunasked, hasks', hrotation]
  split
  · exact harbiter
  · rw [grantTo, harbiter]

end Sys2Proof.Machine
end

section
/-! PROOFS. One second charged (R127, R128, R131, R133, R137): to the account or to the unposted figures, and the access
that supervises no idleness. -/

namespace Sys2Proof.Machine

/-! ### The second charged (R131) -/

/-- A session with one second charged: the residue, the seconds, the units, and the stamp of the tick. -/
def Session.secondCharged (x : Session) (t : Stamp) : Session :=
  { x with
    residue := (x.residue + x.rate) % 6000, connectSeconds := x.connectSeconds + 1, lastMetered := t
    connectUnits := x.connectUnits + (x.residue + x.rate) / 6000 }

/-- One second and u units added to the unposted figures, which hold at 65,535 (R133). -/
def Session.divertedBy (x : Session) (u : Nat) : Session :=
  { x with
    unpostedUnits := min (x.unpostedUnits + u) 65535, unpostedSeconds := min (x.unpostedSeconds + 1) 65535
    saturated := x.saturated || decide (65535 < x.unpostedUnits + u) }

/-- A session with the marks of R34 and R89 set, or as they stand. -/
def Session.marked (x : Session) (sent warned : Bool) : Session :=
  { x with activity := x.activity || sent, fundsWarned := x.fundsWarned || warned }

theorem Session.marked_none (x : Session) : x.marked false false = x := by
  simp [Session.marked]

/-- The second is charged to line i's session x, and counted in its account (R131). -/
def State.secondCounted (s : State) (i : LineId) (x : Session) (t : Stamp) : State :=
  (s.putSession i (x.secondCharged t)).modAccount x.user fun a =>
    { a with periodSeconds := addHold32 a.periodSeconds 1 }

section
variable {s : State} {i : LineId} {x : Session} {t : Stamp}

theorem addStated_fits (k : Config.Unstated) {n m : Nat} (s : State) (h : n + m ≤ 4294967295) :
    addStated k n m s = (n + m, s) := if_pos h

/-- A pass not begun in GRANTED posts the units (R131). -/
theorem chargeSecond_posted (hx : s.session i = some x) (hseconds : x.connectSeconds < 4294967295)
    (hunits : x.connectUnits + (x.residue + x.rate) / 6000 ≤ 4294967295) (hg : s.hold.passInGranted = false) :
    chargeSecond i t s = post x.user ((x.residue + x.rate) / 6000) (s.secondCounted i x t) := by
  rw [State.secondCounted, ← State.modSession_put hx fun _ => x.secondCharged t]
  simp only [chargeSecond, hx, addStated_room _ s hseconds, addStated_fits _ s hunits, hg, Bool.false_eq_true, if_false]
  rfl

/-- A pass begun in GRANTED sets the second and the units aside (R133). -/
theorem chargeSecond_diverted (hx : s.session i = some x) (hseconds : x.connectSeconds < 4294967295)
    (hunits : x.connectUnits + (x.residue + x.rate) / 6000 ≤ 4294967295) (hg : s.hold.passInGranted = true) :
    chargeSecond i t s =
      s.putSession i ((x.secondCharged t).divertedBy ((x.residue + x.rate) / 6000)) := by
  rw [← State.modSession_put hx fun _ => (x.secondCharged t).divertedBy ((x.residue + x.rate) / 6000)]
  simp only [chargeSecond, hx, addStated_room _ s hseconds, addStated_fits _ s hunits, hg, if_true,
    Session.addUnposted_eq]
  rfl

end

/-! ### What the charge leaves, where it exhausts no session -/

/-- What the charge leaves: line i's session part is z, no other session part changes but in its marks, and beside the
lines the accounts and latches of the T port at most. -/
structure State.secondMade (s v : State) (i : LineId) (z : Session) : Prop where
  frame : v = { s with
    lines := v.lines, accounts := v.accounts, tPort := { s.tPort with latches := v.tPort.latches } }
  session : v.session i = some z
  others : ∀ j, j ≠ i → ∃ sent warned, v.session j = (s.session j).map fun y => y.marked sent warned

section
variable {s : State} {user u : Nat}

/-- The posting leaves the account above the floor of every METERED session of the user. -/
def State.exhaustsNone (s : State) (user u : Nat) : Prop :=
  ∀ (a : Account) (j : LineId) (z : Session), s.account user = some a → s.session j = some z → z.user = user →
    z.state = .metered → -((s.classRec z.cls).floor : Int) < debited a.balance u

theorem State.exhaustsNone.lines (h : s.exhaustsNone user u) : (debitBalance user u s).exhaustedLines user = [] := by
  cases ha : s.account user with
  | none => exact State.exhaustedLines_noAccount (debitBalance_noAccount ha)
  | some a =>
    refine List.filter_eq_nil_iff.mpr fun j _ hj => ?_
    obtain ⟨z, hz, hjudged⟩ := (Option.any_eq_true _ _).mp hj
    simp only [Bool.and_eq_true, beq_iff_eq] at hjudged
    obtain ⟨⟨hstate, rfl⟩, hexhausted⟩ := hjudged
    rw [State.exhausted_eq (debitBalance_account u ha), decide_eq_true_iff] at hexhausted
    exact absurd (h a j z ha hz rfl hstate) (Int.not_lt.mpr hexhausted)

/-- Such a posting is the debit, and on each line the funds warning at most (R86, R89). -/
theorem State.exhaustsNone.post (h : s.exhaustsNone user u) (hu : u ≠ 0) (hopen : s.openInSession) :
    (debitBalance user u s).sendFrame (post user u s) ∧
      ∀ i, (debitBalance user u s).warns (post user u s) user i := by
  rw [post_graceful hu (by rw [State.zeroGraceLines, h.lines, List.filter_nil]), exhaust_none h.lines]
  exact fundsWarning_warns (s := debitBalance user u s) hopen user

/-- A line at the funds warning: marks are all that its session part may change in. -/
theorem State.warns.marked {v : State} {i : LineId} (h : s.warns v user i) :
    ∃ sent warned, v.session i = (s.session i).map fun y => y.marked sent warned := by
  obtain ⟨-, sent, hsession⟩ := h.line
  exact ⟨sent, _, hsession⟩

/-- Latches are all that a posting changes of the T port. -/
theorem post_tPort (user u : Nat) (s : State) :
    (post user u s).tPort = { s.tPort with latches := (post user u s).tPort.latches } :=
  congrArg State.tPort (workFrame_post s user u)

end

section
variable {s : State} {i : LineId} {x : Session} {t : Stamp}

theorem State.secondCounted_session (s : State) (i : LineId) (x : Session) (t : Stamp) :
    (s.secondCounted i x t).session i = some (x.secondCharged t) := s.putSession_session i _

theorem State.secondCounted_session_ne {j : LineId} (s : State) (x : Session) (t : Stamp) (h : j ≠ i) :
    (s.secondCounted i x t).session j = s.session j := s.putSession_session_ne _ h

/-- The charged second is no matter for what a posting exhausts. -/
theorem State.exhaustsNone.counted {u : Nat} (hx : s.session i = some x) (h : s.exhaustsNone x.user u) :
    (s.secondCounted i x t).exhaustsNone x.user u := by
  intro b j z hb hz huser hstate
  have hsame : ∃ y, s.session j = some y ∧ y.user = z.user ∧ y.state = z.state ∧ y.cls = z.cls := by
    by_cases hj : j = i
    · subst hj
      obtain rfl := Option.some.inj ((s.secondCounted_session j x t).symm.trans hz)
      exact ⟨x, hx, rfl, rfl, rfl⟩
    · exact ⟨z, (s.secondCounted_session_ne x t hj).symm.trans hz, rfl, rfl, rfl⟩
  obtain ⟨y, hy, hyuser, hystate, hycls⟩ := hsame
  cases ha : s.account x.user with
  | none =>
    have hnone : (s.secondCounted i x t).account x.user = none :=
      State.account_modAccount_none (s := s.putSession i (x.secondCharged t)) ha fun _ => rfl
    exact absurd (hnone.symm.trans hb) (Option.some_ne_none b).symm
  | some a =>
    have hsome : (s.secondCounted i x t).account x.user = some _ :=
      State.account_modAccount (s := s.putSession i (x.secondCharged t))
        (f := fun a => { a with periodSeconds := addHold32 a.periodSeconds 1 }) ha fun _ => rfl
    obtain rfl := Option.some.inj (hsome.symm.trans hb)
    rw [← hycls]
    exact h a j y ha hy (hyuser.trans huser) (hystate.trans hstate)

theorem State.openInSession.counted (h : s.openInSession) (hx : s.session i = some x) :
    (s.secondCounted i x t).openInSession := by
  intro j z hz
  obtain ⟨hsession, hopen⟩ := (State.openSession_iff _ j z).mp hz
  by_cases hj : j = i
  · subst hj
    obtain rfl := Option.some.inj ((s.secondCounted_session j x t).symm.trans hsession)
    exact (congrArg LineRec.state (s.putSession_line j (x.secondCharged t))).trans
      (h j x ((s.openSession_iff j x).mpr ⟨hx, hopen⟩))
  · have hline : (s.secondCounted i x t).line j = s.line j := s.putSession_line_ne _ hj
    rw [hline] at hsession ⊢
    exact h j z ((s.openSession_iff j z).mpr ⟨hsession, hopen⟩)

/-- The accounts once a second and u units are charged to a user's. -/
def State.chargedAccounts (s : State) (user u : Nat) : List Account :=
  s.accounts.map fun b =>
    if b.user = user then
      { b with
        periodSeconds := min (b.periodSeconds + 1) 4294967295
        balance := if u = 0 then b.balance else max (-8388608) (b.balance - u)
        periodUnits := if u = 0 then b.periodUnits else min (b.periodUnits + u) 4294967295 }
    else b

theorem State.secondCounted_accounts (s : State) (i : LineId) (x : Session) (t : Stamp) :
    (s.secondCounted i x t).accounts = s.chargedAccounts x.user 0 := by
  simp [State.secondCounted, State.modAccount, State.chargedAccounts, State.putSession, addHold32, Config.max32]

theorem State.secondCounted_debited {u : Nat} (hu : u ≠ 0) (s : State) (i : LineId) (x : Session) (t : Stamp) :
    (debitBalance x.user u (s.secondCounted i x t)).accounts = s.chargedAccounts x.user u := by
  rw [debitBalance_accounts, State.debitedAccounts, State.secondCounted_accounts, State.chargedAccounts, List.map_map]
  refine List.map_congr_left fun b _ => ?_
  by_cases hb : b.user = x.user <;> simp [hb, hu, debited, addHold32, balanceMin, Config.max32]

/-- A second charged to the account, with a posting that exhausts no METERED session: of the session's marks, activity
may be set by what the funds warning sends. -/
theorem chargeSecond_posted_made {u : Nat} (hu : (x.residue + x.rate) / 6000 = u) (hx : s.session i = some x)
    (hseconds : x.connectSeconds < 4294967295) (hunits : x.connectUnits + u ≤ 4294967295)
    (hg : s.hold.passInGranted = false) (hopen : s.openInSession) (hsafe : u = 0 ∨ s.exhaustsNone x.user u) :
    ∃ sent warned, (u = 0 → sent = false) ∧
      s.secondMade (chargeSecond i t s) i ((x.secondCharged t).marked sent warned) ∧
      (chargeSecond i t s).accounts = s.chargedAccounts x.user u := by
  rw [chargeSecond_posted hx hseconds (hu.symm ▸ hunits) hg, hu]
  by_cases hzero : u = 0
  · rw [hzero, post_zero]
    refine ⟨false, false, fun _ => rfl, ⟨rfl, ?_, fun j hj => ⟨false, false, ?_⟩⟩, s.secondCounted_accounts i x t⟩
    · rw [s.secondCounted_session, Session.marked_none]
    · simp [s.secondCounted_session_ne x t hj, Session.marked_none]
  · have hcounted := State.exhaustsNone.counted (t := t) hx (hsafe.resolve_left hzero)
    obtain ⟨hframe, hwarns⟩ := hcounted.post hzero (hopen.counted hx)
    have htPort := post_tPort x.user u (s.secondCounted i x t)
    have haccounts := hframe.beside.1.trans (State.secondCounted_debited hzero s i x t)
    have hmarked (j : LineId) := (hwarns j).marked
    generalize post x.user u (s.secondCounted i x t) = v at *
    obtain ⟨sent, warned, hsession⟩ := hmarked i
    refine ⟨sent, warned, fun h => absurd h hzero, ⟨?_, hsession.trans ?_, fun j hj => ?_⟩, haccounts⟩
    · unfold State.sendFrame at hframe
      rw [← show v.tPort = { s.tPort with latches := v.tPort.latches } from htPort, hframe]
      rfl
    · rw [show (debitBalance x.user u (s.secondCounted i x t)).session i = _ from s.secondCounted_session i x t]
      rfl
    · obtain ⟨sent, warned, hsession⟩ := hmarked j
      refine ⟨sent, warned, hsession.trans ?_⟩
      rw [show (debitBalance x.user u (s.secondCounted i x t)).session j = _ from s.secondCounted_session_ne x t hj]

/-- A second set aside. -/
theorem chargeSecond_diverted_made {u : Nat} (hu : (x.residue + x.rate) / 6000 = u) (hx : s.session i = some x)
    (hseconds : x.connectSeconds < 4294967295) (hunits : x.connectUnits + u ≤ 4294967295)
    (hg : s.hold.passInGranted = true) :
    s.secondMade (chargeSecond i t s) i ((x.secondCharged t).divertedBy u) ∧
      (chargeSecond i t s).accounts = s.accounts := by
  rw [chargeSecond_diverted hx hseconds (hu.symm ▸ hunits) hg, hu]
  refine ⟨⟨rfl, s.putSession_session i _, fun j hj => ⟨false, false, ?_⟩⟩, rfl⟩
  simp [s.putSession_session_ne _ hj, Session.marked_none]

/-- The second charged, either way (R131, R133). -/
theorem chargeSecond_made {u : Nat} (hu : (x.residue + x.rate) / 6000 = u) (hx : s.session i = some x)
    (hseconds : x.connectSeconds < 4294967295) (hunits : x.connectUnits + u ≤ 4294967295) (hopen : s.openInSession)
    (hsafe : u = 0 ∨ s.hold.passInGranted = true ∨ s.exhaustsNone x.user u) :
    let v := chargeSecond i t s
    ∃ z : Session, s.secondMade v i z ∧
      z = { x.secondCharged t with
        activity := z.activity, fundsWarned := z.fundsWarned, unpostedUnits := z.unpostedUnits
        unpostedSeconds := z.unpostedSeconds, saturated := z.saturated } ∧
      (u = 0 ∨ s.hold.passInGranted = true → z.activity = x.activity) ∧
      (s.hold.passInGranted = false → z.unpostedUnits = x.unpostedUnits ∧ z.unpostedSeconds = x.unpostedSeconds ∧
        v.accounts = s.chargedAccounts x.user u) ∧
      (s.hold.passInGranted = true → z.unpostedUnits = min (x.unpostedUnits + u) 65535 ∧
        z.unpostedSeconds = min (x.unpostedSeconds + 1) 65535 ∧
        z.saturated = (x.saturated || decide (65535 < x.unpostedUnits + u)) ∧ v.accounts = s.accounts) := by
  cases hg : s.hold.passInGranted with
  | false =>
    have hsafe : u = 0 ∨ s.exhaustsNone x.user u := hsafe.imp_right fun h => h.resolve_left (by rw [hg]; decide)
    obtain ⟨sent, warned, hsent, hmade, haccounts⟩ :=
      chargeSecond_posted_made (t := t) hu hx hseconds hunits hg hopen hsafe
    refine ⟨_, hmade, rfl, fun h => ?_, fun _ => ⟨rfl, rfl, haccounts⟩, fun h => absurd h Bool.false_ne_true⟩
    rw [Session.marked, hsent (h.resolve_right Bool.false_ne_true), Bool.or_false]
    rfl
  | true =>
    obtain ⟨hmade, haccounts⟩ := chargeSecond_diverted_made (t := t) hu hx hseconds hunits hg
    exact ⟨_, hmade, rfl, fun _ => rfl, fun h => absurd h.symm Bool.false_ne_true,
      fun _ => ⟨rfl, rfl, rfl, haccounts⟩⟩

end

end Sys2Proof.Machine
end

section
/-! PROOFS. The supervision in an access of the pass (R128, R136, R137): the idle judgement, the grace countdown and the
recompute, each by the session it finds; and the access that supervises no idleness. -/

namespace Sys2Proof.Machine

section
variable {v : State} {i : LineId} {z : Session} {k : Tick}

/-! ### What each part of the access does with the session it finds -/

/-- A session with one second of idleness judged: activity ends the idle stretch, and else it goes on (R136). -/
def Session.idleCounted (x : Session) : Session :=
  { x with
    idleSeconds := if x.activity then 0 else min (x.idleSeconds + 1) 65535, activity := false
    idleWarned := !x.activity && x.idleWarned }

theorem Session.countIdle_eq (x : Session) : x.countIdle = x.idleCounted := by
  unfold Session.countIdle Session.idleCounted
  cases h : x.activity
  · simp
  · rfl

theorem State.openSession_session (hz : v.openSession i = some z) : v.session i = some z :=
  ((v.openSession_iff i z).mp hz).1

/-- The idle judgement: the close at the limit, else the warning, else the count alone (R136). -/
theorem judgeIdle_eq (hz : v.openSession i = some z) :
    judgeIdle i v =
      if (v.classRec z.cls).idleOver z.idleCounted then
        (closeNow .idle i (v.putSession i z.idleCounted), ⟨true, false, false⟩)
      else if (v.classRec z.cls).idleWarns z.idleCounted then
        (requestMessage i 11 (v.putSession i { z.idleCounted with idleWarned := true }), ⟨false, true, false⟩)
      else (v.putSession i z.idleCounted, ⟨false, false, false⟩) := by
  have hcounted := State.modSession_put (State.openSession_session hz) fun _ => z.idleCounted
  have hwarned : (v.putSession i z.idleCounted).modSession i (fun x => { x with idleWarned := true }) =
      v.putSession i { z.idleCounted with idleWarned := true } := by
    rw [State.modSession_put (v.putSession_session i _), State.putSession_putSession]
  simp only [judgeIdle, hz, Session.countIdle_eq, hcounted, hwarned]
  rfl

/-- The grace countdown: the close at 0, else the count alone (R137). -/
theorem countGrace_eq {g : Nat} (hz : v.openSession i = some z) (hg : z.grace = some g) :
    countGrace i v =
      if g - 1 = 0 then (closeNow .funds i (v.putSession i { z with grace := some (g - 1) }), true)
      else (v.putSession i { z with grace := some (g - 1) }, false) := by
  have hcounted := State.modSession_put (State.openSession_session hz) fun x => { x with grace := some (g - 1) }
  simp only [countGrace, hz, hg, Option.getD_some, hcounted]

/-- The recompute at a minute-start tick, of a session still METERED or GRACE (R128). -/
theorem recompute_charged (hz : v.session i = some z) (hcharged : z.state.isCharged = true) :
    recompute i k v =
      v.putSession i { z with rate := if k.value.second = 0 then v.rateBy k.tariff i z.cls k.value else z.rate } := by
  simp only [recompute, hz, hcharged, Bool.true_and, beq_iff_eq]
  split
  · exact State.modSession_put hz _
  · exact (State.putSession_self hz).symm

/-- A session closed on the way, or gone with its call, is not recomputed. -/
theorem recompute_closed (h : ∀ y, v.session i = some y → y.state.isOpen = false) : recompute i k v = v := by
  cases hy : v.session i with
  | none => simp only [recompute, hy]
  | some y =>
    have hclosing : y.state.isCharged = false := by rw [SessionState.closing_of_not_open (h y hy)]; rfl
    simp only [recompute, hy, hclosing, Bool.false_and, Bool.false_eq_true, if_false]

/-! ### The access that supervises no idleness -/

/-- The session at the end of its access, where no idleness is supervised and no grace ends. -/
def State.secondEnded (v : State) (i : LineId) (k : Tick) (z : Session) : Session :=
  { z.idleCounted with
    grace := if z.state = .grace then z.grace.map (· - 1) else z.grace
    rate := if k.value.second = 0 then v.rateBy k.tariff i z.cls k.value else z.rate }

theorem judgeIdle_unsupervised (hz : v.openSession i = some z) (hlimit : (v.classRec z.cls).idleLimit = 0)
    (hwarn : (v.classRec z.cls).idleWarn = 0) :
    judgeIdle i v = (v.putSession i z.idleCounted, ⟨false, false, false⟩) := by
  rw [judgeIdle_eq hz]
  simp [ClassRec.idleOver, ClassRec.idleWarns, hlimit, hwarn]

/-- A session with one second of its grace counted (R137). -/
def Session.graceCounted (x : Session) : Session := { x with grace := x.grace.map (· - 1) }

/-- The grace of a session in GRACE has seconds left, and counts down. -/
theorem countGrace_left {g : Nat} (hz : v.openSession i = some z) (hg : z.grace = some g) (hleft : 2 ≤ g) :
    countGrace i v = (v.putSession i z.graceCounted, false) := by
  rw [countGrace_eq hz hg, if_neg (by omega), Session.graceCounted, hg]
  rfl

theorem passAccess_unsupervised {s : State} {x : Session} (hx : s.session i = some x)
    (hcharge : chargeSecond i k.value.stamp s = v) (hz : v.session i = some z) (hstate : z.state = x.state)
    (hcharged : z.state.isCharged = true) (hlimit : (v.classRec z.cls).idleLimit = 0)
    (hwarn : (v.classRec z.cls).idleWarn = 0) (hgrace : z.state = .grace → ∃ g, z.grace = some g ∧ 2 ≤ g) :
    (passAccess i k s).1 = v.putSession i (v.secondEnded i k z) := by
  have hjudged := judgeIdle_unsupervised (State.openSession_charged hz hcharged) hlimit hwarn
  have hinGrace : (s.session i).any (·.state == .grace) = (z.state == .grace) := by rw [hx, hstate]; rfl
  simp only [passAccess, hcharge, hjudged, hinGrace, Bool.not_false, Bool.and_true, beq_iff_eq]
  split
  · next hin =>
    obtain ⟨g, hg, hleft⟩ := hgrace hin
    have hgraced := countGrace_left (z := z.idleCounted)
      (State.openSession_charged (v.putSession_session i z.idleCounted) hcharged) hg hleft
    rw [hgraced, State.putSession_putSession,
      recompute_charged (v.putSession_session i z.idleCounted.graceCounted) hcharged, State.putSession_putSession,
      State.secondEnded, if_pos hin]
    rfl
  · next hno =>
    rw [recompute_charged (v.putSession_session i z.idleCounted) hcharged, State.putSession_putSession,
      State.secondEnded, if_neg hno]
    rfl

end

/-! ### The access, with what follows it -/

section
variable {s v : State} {i : LineId} {y z : Session}

theorem State.secondMade.classRec (h : s.secondMade v i z) (c : Fin 4) : v.classRec c = s.classRec c := by
  rw [h.frame]; rfl

theorem State.secondMade.lineGroup (h : s.secondMade v i z) : v.lineGroup i = s.lineGroup i := by
  rw [h.frame]; rfl

/-- What the charge of line i's session leaves once the access has ended: its session part as the access leaves it, and
the figures of every other, the records, queues and accounts. -/
theorem State.secondMade.ended (h : s.secondMade v i z) (hy : y.state ≠ .held) :
    let t := afterAccess (v.putSession i y)
    t.session i = some y ∧ (∀ j, j ≠ i →
        (t.session j).map Session.residue = (s.session j).map Session.residue ∧
        (t.session j).map Session.connectUnits = (s.session j).map Session.connectUnits) ∧
      t.billing = s.billing ∧ t.input = s.input ∧ t.deferred = s.deferred ∧ t.accounts = v.accounts := by
  obtain ⟨hline, haccounts, hbilling, hinput, hdeferred⟩ := afterAccess_beside (v.putSession i y)
  refine ⟨(hline i).session (v.putSession_session i y) hy, fun j hj => ?_, ?_, ?_, ?_, haccounts⟩
  · obtain ⟨sent, warned, hsession⟩ := h.others j hj
    have hother : (v.putSession i y).session j = _ := (v.putSession_session_ne y hj).trans hsession
    refine ⟨((hline j).map fun _ _ => rfl).trans ?_, ((hline j).map fun _ _ => rfl).trans ?_⟩ <;>
      rw [show ((v.putSession i y).line j).session = _ from hother, Option.map_map] <;> rfl
  · rw [hbilling, State.putSession, h.frame]; rfl
  · rw [hinput, State.putSession, h.frame]; rfl
  · rw [hdeferred, State.putSession, h.frame]; rfl

/-- The arbiter, and what it chooses by, stand as they did when the charge is made. -/
theorem State.secondMade.beside (h : s.secondMade v i z) (y : Session) :
    let w := v.putSession i y
    w.hold = s.hold ∧ w.engine = s.engine ∧ w.arbiter = s.arbiter ∧ w.checkQueue = s.checkQueue ∧
      ∀ p, w.waitingCommand p = s.waitingCommand p := by
  rw [State.putSession, h.frame]
  exact ⟨rfl, rfl, rfl, rfl, fun p => by cases p <;> rfl⟩

/-- With the hold NONE, the client whose turn it is is granted after the access, if one waits (R93, R94). -/
theorem State.secondMade.turn (h : s.secondMade v i z) (hgrants : s.grantsPass = true) (hhold : s.hold.state = .none) :
    (afterAccess (v.putSession i y)).arbiter = match s.arbiter.rotation.find? s.asks with
      | none => { s.arbiter with grant := none, passAsked := false }
      | some c =>
        { grant := some c, rotation := s.arbiter.rotation.erase c ++ [c]
          passAsked := (afterAccess (v.putSession i y)).engine.pass.isSome
          checkerAsked := s.arbiter.checkerAsked && c != .checker } := by
  obtain ⟨hnext, hdue, hclose⟩ := State.grantsPass_iff.mp hgrants
  obtain ⟨hwhold, hwengine, hwarbiter, hwqueue, hwwaits⟩ := h.beside y
  have hasks : (v.putSession i y).accessEnded.asks = s.asks :=
    State.asks_congr (congrArg Hold.state hwhold) (State.grant_of_nextGrant hnext) rfl
      (congrArg Arbiter.checkerAsked hwarbiter :) hwqueue fun p => (by cases p <;> rfl : _ = _).trans (hwwaits p)
  have hturn := afterAccess_arbiter (v := v.putSession i y) (by rw [hwhold, hhold])
    ((State.engineAsks_eq_false _).mpr (by rw [hwengine]; exact ⟨hdue, hclose⟩))
  rw [hasks, hwarbiter] at hturn
  exact hturn

end

/-- Settles O45: the second is charged (`chargeSecond_made`), the access supervises no idleness, and the table is given
back. -/
theorem passChargesOneSecond : Obligations.PassChargesOneSecond := by
  intro k i x s hp hlaw hpass hx hstate hborn hgrants hlimit hwarn u hseconds hunits hsafe q f
  have hcharged : x.state.isCharged = true := by rcases hstate with h | ⟨h, -⟩ <;> rw [h] <;> rfl
  have hheld : x.state ≠ .held := by rcases hstate with h | ⟨h, -⟩ <;> rw [h] <;> decide
  have hgrace (h : x.state = .grace) : ∃ g, x.grace = some g ∧ 2 ≤ g :=
    hstate.elim (fun h' => absurd (h'.symm.trans h) (by decide)) And.right
  have hrow := exec_meteringPassAccess hp hpass hx hcharged hborn hgrants
  obtain ⟨z, hmade, hz, hidle, hposted, hdiverted⟩ := chargeSecond_made (t := k.value.stamp) (u := u) rfl hx hseconds
    hunits (State.openInSession_of_lineLaw hp hlaw) hsafe
  generalize hcharge : chargeSecond i k.value.stamp s = v at hmade hposted hdiverted
  have hfields : z.state = x.state ∧ z.cls = x.cls ∧ z.grace = x.grace ∧ z.rate = x.rate ∧
      z.idleSeconds = x.idleSeconds := by
    rw [hz]
    exact ⟨rfl, rfl, rfl, rfl, rfl⟩
  obtain ⟨hzstate, hzcls, hzgrace, hzrate, hzidle⟩ := hfields
  have hcharged : z.state.isCharged = true := hzstate ▸ hcharged
  rw [passAccess_unsupervised hx hcharge hmade.session hzstate hcharged
    (by rw [hmade.classRec, hzcls]; exact hlimit) (by rw [hmade.classRec, hzcls]; exact hwarn)
    (by rw [hzstate, hzgrace]; exact hgrace)] at hrow
  obtain ⟨hsession, hothers, hbilling, hinput, hdeferred, haccounts⟩ :=
    hmade.ended (y := v.secondEnded i k z) (show z.state ≠ .held by rw [hzstate]; exact hheld)
  refine ⟨_, _, hrow, hsession, hzstate, ?_, ?_, ?_, ?_, ?_, ?_, ?_, hmade.turn hgrants, ?_,
      fun hu => ⟨rfl, ?_⟩, hothers, hbilling, hinput, hdeferred, fun hg => ?_, fun hg => ?_⟩
  · rw [State.secondEnded, hzstate, hzgrace]
  · exact (congrArg Session.openStamp hz :)
  · exact (congrArg Session.heldSeconds hz :)
  · exact (congrArg Session.lastMetered hz :)
  · exact (congrArg Session.residue hz :)
  · exact (congrArg Session.connectSeconds hz :)
  · exact (congrArg Session.connectUnits hz :)
  · rw [State.secondEnded, hzcls, hzrate, State.rateBy, hmade.lineGroup]
    rfl
  · show (if z.activity = true then 0 else min (z.idleSeconds + 1) 65535) = _
    rw [hidle hu, hzidle]
  · obtain ⟨hunposted, hunpostedSeconds, hcounted⟩ := hposted hg
    exact ⟨hunposted, hunpostedSeconds, haccounts.trans hcounted⟩
  · obtain ⟨hunposted, hunpostedSeconds, hsaturated, hsame⟩ := hdiverted hg
    exact ⟨hunposted, hunpostedSeconds, hsaturated, haccounts.trans hsame⟩

end Sys2Proof.Machine
end

section
/-! PROOFS. The access of the pass that closes a session, at its idle limit or at the end of its grace, and the one that
warns it (R136, R137, R145). -/

namespace Sys2Proof.Machine

/-! ### A close in an access (R145) -/

/-- A close in an access whose class truncates: its record, its CLOSE mark and its open count. -/
theorem closeNow_recorded {r : CloseReason} {i : LineId} {w : State} {y : Session} (hy : w.openSession i = some y)
    (hm : r.marks = true) (ht : (w.classRec y.cls).rounding = .truncate) :
    (closeNow r i w).billing.records =
        w.billing.records ++ [recordOf i (y.closed r w.clock.stamp) false w.billing.sequence] ∧
      (closeNow r i w).input = w.input ++ [.closeMark i y.serial r] ∧
      (closeNow r i w).accounts = w.accounts.map fun b =>
        if b.user = y.user then { b with openCount := b.openCount - 1 } else b := by
  have hclosed := closedBy_of_truncate (post := post) hy hm ht
  generalize hw : accountWork post i (closeDecision r w.clock.stamp i w) = c at hclosed
  have hframe : c.lineFrame (closeNow r i w) := by
    rw [closeNow, closeInAccess, hy, ← hw]
    exact lineFrame_ite (lineFrame_enterClosing _ i) (.refl _)
  exact ⟨by rw [hframe.records, hclosed.billing], hframe.input.trans hclosed.input,
    hframe.accounts.trans hclosed.accounts⟩

section
variable {s : State} {i : LineId} {x y : Session} {k : Tick} {r : CloseReason}

/-- A session with a second charged that formed no unit, but for what the supervision has counted. -/
def Session.supervisedFrom (y x : Session) (t : Stamp) : Prop :=
  y = { x.secondCharged t with
    idleSeconds := y.idleSeconds, activity := y.activity, idleWarned := y.idleWarned, grace := y.grace }

/-- What the access leaves that closes line i's session after its second (R136, R137, R145). -/
theorem access_closes (hcharged : x.state.isCharged = true) (hunit : x.residue + x.rate < 6000)
    (hsup : y.supervisedFrom x k.value.stamp) (hm : r.marks = true)
    (ht : (s.classRec x.cls).rounding = .truncate) :
    let t := afterAccess (closeNow r i ((s.secondCounted i x k.value.stamp).putSession i y))
    ∃ b : BillingRecord, t.billing.records = s.billing.records ++ [b] ∧ b.reason = r ∧ b.serial = x.serial ∧
      b.sequence = s.billing.sequence ∧ b.line = i ∧ b.user = x.user ∧ b.closeStamp = s.clock.stamp ∧
      b.connectSeconds = x.connectSeconds + 1 ∧ b.connectUnits = x.connectUnits ∧ b.roundedUp = false ∧
      t.input = s.input ++ [.closeMark i x.serial r] ∧
      (∀ z : Session, t.session i = some z → z.state = .closing) ∧
      t.accounts = s.accounts.map fun b =>
        if b.user = x.user then
          { b with periodSeconds := min (b.periodSeconds + 1) 4294967295, openCount := b.openCount - 1 }
        else b := by
  let w := (s.secondCounted i x k.value.stamp).putSession i y
  have hfields : y.state = x.state ∧ y.cls = x.cls ∧ y.serial = x.serial ∧ y.user = x.user ∧
      y.connectSeconds = x.connectSeconds + 1 ∧ y.connectUnits = x.connectUnits + (x.residue + x.rate) / 6000 := by
    rw [hsup]
    exact ⟨rfl, rfl, rfl, rfl, rfl, rfl⟩
  obtain ⟨hstate, hcls, hserial, huser, hseconds, hunits⟩ := hfields
  have hopen : w.openSession i = some y :=
    State.openSession_charged (State.putSession_session _ i y) (by rw [hstate, hcharged])
  obtain ⟨hrecords, hinput, haccounts⟩ := closeNow_recorded hopen hm (by rw [hcls]; exact ht)
  obtain ⟨hline, hafter, hbilling, hmarks, -⟩ := afterAccess_beside (closeNow r i w)
  refine ⟨recordOf i (y.closed r s.clock.stamp) false s.billing.sequence, ?_, rfl, hserial, rfl, rfl, huser, rfl,
    hseconds, ?_, rfl, ?_, fun z hz => ?_, ?_⟩
  · rw [hbilling]
    exact hrecords
  · exact hunits.trans (by rw [Nat.div_eq_of_lt hunit, Nat.add_zero])
  · rw [hmarks, ← hserial]
    exact hinput
  · have hsame : ((afterAccess (closeNow r i w)).session i).map Session.state = _ :=
      (hline i).map (g := Session.state) fun _ _ => rfl
    rw [hz] at hsame
    obtain ⟨c, hc, hcstate⟩ := Option.map_eq_some_iff.mp hsame.symm
    rw [← hcstate]
    exact SessionState.closing_of_not_open (closeNow_closes hm hc)
  · rw [hafter, haccounts, huser]
    show (s.secondCounted i x k.value.stamp).accounts.map _ = _
    rw [State.secondCounted_accounts, State.chargedAccounts, List.map_map]
    refine List.map_congr_left fun b _ => ?_
    by_cases hb : b.user = x.user <;> simp [hb]

/-! ### The accesses that close (R136, R137) -/

/-- A second that forms no unit makes no posting. -/
theorem chargeSecond_noUnit (hx : s.session i = some x) (hunit : x.residue + x.rate < 6000)
    (hseconds : x.connectSeconds < 4294967295) (hunits : x.connectUnits ≤ 4294967295)
    (hg : s.hold.passInGranted = false) (t : Stamp) : chargeSecond i t s = s.secondCounted i x t := by
  have hzero : (x.residue + x.rate) / 6000 = 0 := Nat.div_eq_of_lt hunit
  rw [chargeSecond_posted hx hseconds (by rw [hzero]; exact hunits) hg, hzero, post_zero]

/-- The access of the pass that finds the idle limit reached: it closes the session, whatever its grace. -/
theorem passAccess_idleCloses (hcharge : chargeSecond i k.value.stamp s = s.secondCounted i x k.value.stamp)
    (hcharged : x.state.isCharged = true)
    (hover : (s.classRec x.cls).idleOver (x.secondCharged k.value.stamp).idleCounted = true) :
    passAccess i k s =
      (closeNow .idle i ((s.secondCounted i x k.value.stamp).putSession i (x.secondCharged k.value.stamp).idleCounted),
        ⟨true, false, false⟩) := by
  have hopen : (s.secondCounted i x k.value.stamp).openSession i = some (x.secondCharged k.value.stamp) :=
    State.openSession_charged (s.secondCounted_session i x _) hcharged
  have hjudged := (judgeIdle_eq hopen).trans (if_pos hover)
  simp only [passAccess, hcharge, hjudged, Bool.not_true, Bool.and_false, Bool.false_eq_true, if_false]
  rw [recompute_closed fun z hz => closeNow_closes rfl hz]

/-- The access of the pass that counts the last second of grace. -/
theorem passAccess_graceCloses (hx : s.session i = some x)
    (hcharge : chargeSecond i k.value.stamp s = s.secondCounted i x k.value.stamp) (hstate : x.state = .grace)
    (hgrace : x.grace = some 1) (hlimit : (s.classRec x.cls).idleLimit = 0) (hwarn : (s.classRec x.cls).idleWarn = 0) :
    passAccess i k s =
      (closeNow .funds i ((s.secondCounted i x k.value.stamp).putSession i
        { (x.secondCharged k.value.stamp).idleCounted with grace := some 0 }), ⟨false, false, true⟩) := by
  have hcharged : x.state.isCharged = true := by rw [hstate]; rfl
  have hjudged := judgeIdle_unsupervised (z := x.secondCharged k.value.stamp)
    (State.openSession_charged (s.secondCounted_session i x _) hcharged) hlimit hwarn
  have hopen := State.openSession_charged (State.putSession_session (s.secondCounted i x k.value.stamp) i
    (x.secondCharged k.value.stamp).idleCounted) hcharged
  have hgraced := countGrace_eq (g := 1) hopen hgrace
  rw [if_pos rfl, State.putSession_putSession] at hgraced
  have hinGrace : (s.session i).any (·.state == .grace) = true := by rw [hx, Option.any_some, hstate]; rfl
  simp only [passAccess, hcharge, hjudged, hinGrace, Bool.not_false, Bool.and_true, if_true, hgraced]
  rw [recompute_closed fun z hz => closeNow_closes rfl hz]

/-! ### The access that warns (R136) -/

theorem LineRec.mem_request (l : LineRec) (k : Nat) : k ∈ (l.request k).messages := by
  unfold LineRec.request
  split
  · next h => simpa using h
  · simp

/-- What a message request on a line in SESSION leaves: the session part but for its marks, the message on the list of a
busy transmitter, and the records and queues. -/
theorem requestMessage_session {w : State} {n : Nat} (hs : (w.line i).state = .session) (hy : w.session i = some y) :
    let u := requestMessage i n w
    (∃ sent warned, u.session i = some { y with activity := sent, fundsWarned := warned }) ∧
      ((w.line i).txChar ≠ none → n ∈ (u.line i).messages) ∧ u.billing = w.billing ∧ u.input = w.input := by
  intro u
  let m := w.modLine i fun l => l.request n
  have hline : m.line i = (w.line i).request n := w.line_modLine i _
  have hkept : ((w.line i).request n).state = (w.line i).state ∧
      ((w.line i).request n).session = (w.line i).session ∧ ((w.line i).request n).txChar = (w.line i).txChar := by
    unfold LineRec.request
    split <;> exact ⟨rfl, rfl, rfl⟩
  obtain ⟨hstate, hsession, htx⟩ := hkept
  have hms : (m.line i).state = .session := by rw [hline, hstate, hs]
  have hmy : (m.line i).session = some y := by rw [hline, hsession]; exact hy
  obtain ⟨l, hsends, ⟨port, hkick⟩ | ⟨hno, -⟩⟩ := kick_chooses i m
  · have hul : u.line i = l := (congrArg (State.line · i) hkick).trans (m.line_setLine i l)
    refine ⟨?_, fun hbusy => ?_, (congrArg State.billing hkick :), (congrArg State.input hkick :)⟩
    · obtain ⟨-, -, -, -, hsome⟩ := hsends.stays hms
      rw [hmy, Option.isSome_some] at hsome
      obtain ⟨z, hz⟩ := Option.isSome_iff_exists.mp hsome
      obtain ⟨x, hx, hzx⟩ := hsends.session z hz
      obtain rfl := Option.some.inj (hmy.symm.trans hx)
      exact ⟨z.activity, z.fundsWarned, by rw [State.session, hul, hz, ← hzx]⟩
    · have hstands : u = m := kick_busy (by rw [hline, htx]; exact hbusy)
      rw [hstands, hline]
      exact LineRec.mem_request _ n
  · exact absurd hms hno

/-- The access of the pass that finds the idle warn reached, in METERED: it asks for IDLE_WARN. -/
theorem passAccess_warns (hx : s.session i = some x)
    (hcharge : chargeSecond i k.value.stamp s = s.secondCounted i x k.value.stamp) (hstate : x.state = .metered)
    (hunder : (s.classRec x.cls).idleOver (x.secondCharged k.value.stamp).idleCounted = false)
    (hwarns : (s.classRec x.cls).idleWarns (x.secondCharged k.value.stamp).idleCounted = true) :
    passAccess i k s =
      (recompute i k (requestMessage i 11 ((s.secondCounted i x k.value.stamp).putSession i
        { (x.secondCharged k.value.stamp).idleCounted with idleWarned := true })), ⟨false, true, false⟩) := by
  have hcharged : x.state.isCharged = true := by rw [hstate]; rfl
  have hopen : (s.secondCounted i x k.value.stamp).openSession i = some (x.secondCharged k.value.stamp) :=
    State.openSession_charged (s.secondCounted_session i x _) hcharged
  have hjudged := (judgeIdle_eq hopen).trans ((if_neg (by rw [Bool.not_eq_true]; exact hunder)).trans (if_pos hwarns))
  have hinGrace : (s.session i).any (·.state == .grace) = false := by rw [hx, Option.any_some, hstate]; rfl
  simp only [passAccess, hcharge, hjudged, hinGrace, Bool.false_and, Bool.false_eq_true, if_false]

/-- What the access leaves that warns line i's session after its second. -/
theorem access_warns (hs : (s.line i).state = .session) (hstate : y.state = .metered) :
    let t := afterAccess (recompute i k (requestMessage i 11 ((s.secondCounted i x k.value.stamp).putSession i y)))
    ∃ z : Session, t.session i = some z ∧ z.state = .metered ∧ z.idleWarned = y.idleWarned ∧
      z.idleSeconds = y.idleSeconds ∧ ((s.line i).txChar ≠ none → 11 ∈ (t.line i).messages) ∧
      t.billing = s.billing ∧ t.input = s.input := by
  let w := (s.secondCounted i x k.value.stamp).putSession i y
  have hline : w.line i = { s.line i with session := some y } := by
    show ((s.putSession i _).putSession i y).line i = _
    rw [State.putSession_putSession, State.putSession_line]
  obtain ⟨⟨sent, warned, hsession⟩, hmessage, hbilling, hinput⟩ :=
    requestMessage_session (n := 11) (w := w) (by rw [hline]; exact hs) (State.putSession_session _ i y)
  have hrecomputed := recompute_charged (k := k) hsession (by rw [hstate]; rfl)
  obtain ⟨hafter, -, hbilling', hinput', -⟩ := afterAccess_beside (recompute i k (requestMessage i 11 w))
  rw [hrecomputed] at hafter hbilling' hinput'
  intro t
  have ht : t = _ := congrArg afterAccess hrecomputed
  rw [ht]
  refine ⟨_, (hafter i).session (State.putSession_session _ i _) (by rw [hstate]; decide), hstate, rfl, rfl,
    fun hbusy => ?_, hbilling'.trans hbilling, hinput'.trans hinput⟩
  rw [(hafter i).messages, State.putSession_line]
  exact hmessage (by rw [hline]; exact hbusy)

end

/-! ### The obligation -/

/-- Settles O46: each event row is the pass's access, which charges a second with no unit and then closes the session
(`access_closes`) or warns it (`access_warns`). -/
theorem passSupervisesSessions : Obligations.PassSupervisesSessions := by
  intro k i x s hp hlaw hpass hx hborn hgrants hunit hseconds hunits hhold hg ht c idle closes
  have hcharge := chargeSecond_noUnit hx hunit hseconds hunits hg k.value.stamp
  have hrows {row : Instr} {hit : PassNote → Bool} (hrow : exec row s = .next (whenPowered s (passStepOn i hit)))
      (hcharged : x.state.isCharged = true) {u : State} {note : PassNote} (haccess : passAccess i k s = (u, note))
      (hhit : hit note = true) :
      exec row s = .next (afterAccess u) ∧ exec .meteringPassAccess s = .next (afterAccess u) := by
    have hevent := exec_passEvent hrow hp hpass hx hcharged hborn hgrants (by rw [haccess]; exact hhit)
    have hmetering := exec_meteringPassAccess hp hpass hx hcharged hborn hgrants
    rw [haccess] at hevent hmetering
    exact ⟨hevent, hmetering⟩
  have hidle : (x.secondCharged k.value.stamp).idleCounted.idleSeconds = idle := rfl
  refine ⟨fun hcharged hlimit hover => ?_, fun hstate hgrace hlimit hwarn => ?_,
    fun hstate hunder hwarn hreached hwarned _ => ?_⟩
  · have hover : c.idleOver (x.secondCharged k.value.stamp).idleCounted = true := by
      simp [ClassRec.idleOver, hlimit, hidle, hover]
    obtain ⟨hevent, hmetering⟩ := hrows (row := .idleLimit i) rfl hcharged
      (passAccess_idleCloses hcharge hcharged hover) rfl
    obtain ⟨b, hclosed⟩ := access_closes (r := .idle) hcharged hunit
      (y := (x.secondCharged k.value.stamp).idleCounted) rfl rfl ht
    exact ⟨_, b, hevent, hmetering, hclosed⟩
  · have hcharged : x.state.isCharged = true := by rw [hstate]; rfl
    obtain ⟨hevent, hmetering⟩ := hrows (row := .graceTimerExpiry i) rfl hcharged
      (passAccess_graceCloses hx hcharge hstate hgrace hlimit hwarn) rfl
    obtain ⟨b, hclosed⟩ := access_closes (r := .funds) hcharged hunit
      (y := { (x.secondCharged k.value.stamp).idleCounted with grace := some 0 }) rfl rfl ht
    exact ⟨_, b, hevent, hmetering, hclosed⟩
  · have hcharged : x.state.isCharged = true := by rw [hstate]; rfl
    have hunder : c.idleOver (x.secondCharged k.value.stamp).idleCounted = false := by
      rcases hunder with hlimit | hunder
      · simp [ClassRec.idleOver, hlimit]
      · simp [ClassRec.idleOver, hidle, hunder]
    have hnot : (x.secondCharged k.value.stamp).idleCounted.idleWarned = false := by
      show (!x.activity && x.idleWarned) = false
      rw [hwarned, Bool.and_false]
    have hwarns : c.idleWarns (x.secondCharged k.value.stamp).idleCounted = true := by
      simp [ClassRec.idleWarns, hwarn, hidle, hreached, hnot]
    obtain ⟨hevent, hmetering⟩ := hrows (row := .idleWarnThreshold i) rfl hcharged
      (passAccess_warns hx hcharge hstate hunder hwarns) rfl
    have hs : (s.line i).state = .session :=
      State.openInSession_of_lineLaw hp hlaw i x (State.openSession_charged hx hcharged)
    obtain ⟨z, hsession, hmetered, hzwarned, hzidle, hmessage, hbilling, hinput⟩ := access_warns (k := k) (x := x) hs
      (y := { (x.secondCharged k.value.stamp).idleCounted with idleWarned := true }) hstate
    exact ⟨_, z, hevent, hmetering, hsession, hmetered, hzwarned, hzidle.trans hidle, hmessage, hbilling, hinput⟩

end Sys2Proof.Machine
end

section
/-! PROOFS. The law of the watch (R157): what each shared operation on lines, accounts, the table and the ports leaves of
it. While the watch is DOWN no operation begins a call or resumes a session, because a line in no call stays out of
IDLE and nothing makes a session METERED or GRACE that was neither. -/

namespace Sys2Proof.Machine

/-! ### The law on one line -/

/-- What the law of the watch says of one line record, by whether the watch is DOWN and by the enable of the line's
group. -/
def LineRec.watched (down groupOn : Bool) (l : LineRec) : Prop :=
  (l.state = .idle ∨ l.state = .ringing → (l.enable && groupOn) = true) ∧
    (down = true → l.state.dialling = false ∧ ∀ x : Session, l.session = some x → x.state.isCharged = false)

/-- The law of the watch on line i. -/
def State.watchedAt (s : State) (i : LineId) : Prop := (s.line i).watched s.watch.down (s.lineGroup i).enable

theorem State.watchLaw_iff (s : State) : s.watchLaw ↔ ∀ i, s.watchedAt i :=
  ⟨fun h i => ⟨h.1 i, fun hd => h.2 hd i⟩, fun h => ⟨fun i => (h i).1, fun hd i => (h i).2 hd⟩⟩

/-- The law of the watch holds on each line of the second state on which it holds in the first. -/
structure State.keepsWatch (s t : State) : Prop where
  keeps : ∀ i, s.watchedAt i → t.watchedAt i

theorem State.keepsWatch.watchLaw {s t : State} (h : s.keepsWatch t) (hs : s.watchLaw) : t.watchLaw :=
  t.watchLaw_iff.mpr fun i => h.keeps i (s.watchLaw_iff.mp hs i)

theorem State.keepsWatch.refl (s : State) : s.keepsWatch s := ⟨fun _ => id⟩

theorem State.keepsWatch.trans {s t u : State} (h : s.keepsWatch t) (k : t.keepsWatch u) : s.keepsWatch u :=
  ⟨fun i => k.keeps i ∘ h.keeps i⟩

theorem keepsWatch_ite {s t u : State} {c : Prop} [Decidable c] (ht : s.keepsWatch t) (hu : s.keepsWatch u) :
    s.keepsWatch (if c then t else u) := by split <;> assumption

theorem keepsWatch_fold {α : Type} {f : State → α → State} (hf : ∀ (s : State) a, s.keepsWatch (f s a)) (l : List α)
    (s : State) : s.keepsWatch (l.foldl f s) :=
  List.foldlRecOn l f (.refl s) fun _ h a _ => h.trans (hf _ a)

theorem keepsWatch_forLines {f : LineId → State → State} (hf : ∀ i (s : State), s.keepsWatch (f i s)) (s : State) :
    s.keepsWatch (s.forLines f) := keepsWatch_fold (fun s i => hf i s) _ s

/-! ### Lines that begin no call -/

/-- The line record begins no call and resumes no session: its enable stands, its state stands or is in no call, and its
session part is METERED or GRACE only if it was. -/
structure LineRec.calm (l m : LineRec) : Prop where
  enable : m.enable = l.enable
  state : m.state = l.state ∨ m.state.dialling = false
  charged : ∀ y, m.session = some y → y.state.isCharged = true → ∃ x, l.session = some x ∧ x.state.isCharged = true

theorem LineState.dialling_of_ready {x : LineState} (h : x = .idle ∨ x = .ringing) : x.dialling = true := by
  rcases h with rfl | rfl <;> rfl

theorem LineRec.calm.watched {l m : LineRec} {down groupOn : Bool} (h : l.calm m) (hl : l.watched down groupOn) :
    m.watched down groupOn := by
  obtain ⟨hready, hdown⟩ := hl
  refine ⟨fun hm => ?_, fun hd => ⟨?_, fun y hy => ?_⟩⟩
  · rcases h.state with e | e
    · rw [h.enable]; exact hready (e ▸ hm)
    · rw [LineState.dialling_of_ready hm] at e; contradiction
  · rcases h.state with e | e
    · rw [e]; exact (hdown hd).1
    · exact e
  · by_contra hc
    obtain ⟨x, hx, hcharged⟩ := h.charged y hy (by simpa using hc)
    rw [(hdown hd).2 x hx] at hcharged
    contradiction

theorem LineRec.calm.refl (l : LineRec) : l.calm l := ⟨rfl, .inl rfl, fun y hy hc => ⟨y, hy, hc⟩⟩

/-- A change of a line beside its enable, its state and its session part. -/
theorem LineRec.calm_beside {l m : LineRec} (henable : m.enable = l.enable) (hstate : m.state = l.state)
    (hsession : m.session = l.session) : l.calm m :=
  ⟨henable, .inl hstate, fun y hy hc => ⟨y, hsession ▸ hy, hc⟩⟩

/-- A line that leaves its call, and starts no other. -/
theorem LineRec.calm_ended {l m : LineRec} (henable : m.enable = l.enable) (hstate : m.state.dialling = false)
    (hsession : m.session = l.session ∨ m.session = none) : l.calm m := by
  refine ⟨henable, .inr hstate, fun y hy hc => ?_⟩
  rcases hsession with e | e
  · exact ⟨y, e ▸ hy, hc⟩
  · rw [e] at hy; contradiction

theorem LineRec.calm_map {l : LineRec} {f : Session → Session}
    (hf : ∀ x, l.session = some x → (f x).state.isCharged = true → x.state.isCharged = true) :
    l.calm { l with session := l.session.map f } := by
  refine ⟨rfl, .inl rfl, fun y hy hc => ?_⟩
  obtain ⟨x, hx, rfl⟩ := Option.map_eq_some_iff.mp hy
  exact ⟨x, hx, hf x hx hc⟩

/-! ### Changes of lines -/

theorem keepsWatch_of_lines {s t : State} (hdown : t.watch.down = s.watch.down) (hgroups : t.groups = s.groups)
    (hl : ∀ i, (s.line i).calm (t.line i)) : s.keepsWatch t := by
  refine ⟨fun i hi => ?_⟩
  have hgroup : t.lineGroup i = s.lineGroup i := by rw [State.lineGroup, State.group, hgroups]; rfl
  rw [State.watchedAt, hdown, hgroup]
  exact (hl i).watched hi

/-- A change beside the lines, the groups and the watch's state. -/
theorem keepsWatch_beside {s t : State} (hlines : t.lines = s.lines) (hgroups : t.groups = s.groups)
    (hdown : t.watch.down = s.watch.down) : s.keepsWatch t :=
  keepsWatch_of_lines hdown hgroups fun i => by
    rw [show t.line i = s.line i by rw [State.line, hlines]; rfl]; exact .refl _

theorem State.keepsWatch.beside {s t u : State} (h : s.keepsWatch t) (hlines : u.lines = t.lines)
    (hgroups : u.groups = t.groups) (hdown : u.watch.down = t.watch.down) : s.keepsWatch u :=
  h.trans (keepsWatch_beside hlines hgroups hdown)

theorem State.keepsWatch.ofBeside {s t u : State} (h : t.keepsWatch u) (hlines : t.lines = s.lines)
    (hgroups : t.groups = s.groups) (hdown : t.watch.down = s.watch.down) : s.keepsWatch u :=
  (keepsWatch_beside hlines hgroups hdown).trans h

theorem State.passFrame.keepsWatch {s t : State} (h : s.passFrame t) (hl : ∀ i, (s.line i).calm (t.line i)) :
    s.keepsWatch t := by
  obtain ⟨-, hgroups, -, -, -, -, -, -, hwatch, -⟩ := h.fixed
  exact keepsWatch_of_lines (by rw [hwatch]) hgroups hl

theorem keepsWatch_line (s : State) (i : LineId) (f : LineRec → LineRec)
    (h : s.watchedAt i → (f (s.line i)).watched s.watch.down (s.lineGroup i).enable) : s.keepsWatch (s.modLine i f) := by
  refine ⟨fun j hj => ?_⟩
  show ((s.modLine i f).line j).watched s.watch.down (s.lineGroup j).enable
  by_cases e : i = j
  · subst e; rw [State.line_modLine]; exact h hj
  · rw [State.line_modLine_ne _ _ e]; exact hj

theorem keepsWatch_modLine (s : State) (i : LineId) {f : LineRec → LineRec} (h : (s.line i).calm (f (s.line i))) :
    s.keepsWatch (s.modLine i f) := keepsWatch_line s i f h.watched

/-- A change of one line beside its enable, its state and its session part. -/
theorem keepsWatch_keep (s : State) (i : LineId) {f : LineRec → LineRec}
    (henable : (f (s.line i)).enable = (s.line i).enable) (hstate : (f (s.line i)).state = (s.line i).state)
    (hsession : (f (s.line i)).session = (s.line i).session) : s.keepsWatch (s.modLine i f) :=
  keepsWatch_modLine s i (LineRec.calm_beside henable hstate hsession)

theorem keepsWatch_mapLines (s : State) {f : LineId → LineRec → LineRec}
    (h : ∀ i, (s.line i).calm (f i (s.line i))) : s.keepsWatch (s.mapLines f) :=
  keepsWatch_of_lines rfl rfl fun i => by rw [State.line_mapLines]; exact h i

theorem keepsWatch_modSession (s : State) (i : LineId) {f : Session → Session}
    (h : ∀ x, s.session i = some x → (f x).state.isCharged = true → x.state.isCharged = true) :
    s.keepsWatch (s.modSession i f) := keepsWatch_modLine s i (LineRec.calm_map h)

/-- A change of a session part that keeps its state. -/
theorem keepsWatch_keepState (s : State) (i : LineId) (f : Session → Session) (h : ∀ x, (f x).state = x.state) :
    s.keepsWatch (s.modSession i f) := keepsWatch_modSession s i fun x _ hx => by rwa [h] at hx

theorem keepsWatch_mapSessions (s : State) {f : LineId → Session → Session}
    (h : ∀ i x, s.session i = some x → (f i x).state.isCharged = true → x.state.isCharged = true) :
    s.keepsWatch (s.mapSessions f) := keepsWatch_mapLines s fun i => LineRec.calm_map (h i)

/-- The session part of line i is replaced by one in the same state. -/
theorem keepsWatch_replaceSession {s t : State} {i : LineId} {x y : Session} (ht : t.lines = s.lines)
    (hx : s.session i = some x) (hy : y.state = x.state) : t.keepsWatch (t.modSession i fun _ => y) := by
  refine keepsWatch_modSession t i fun z hz hc => ?_
  have : s.session i = some z := by rwa [State.session, State.line, ht] at hz
  rw [hx] at this
  cases this
  rwa [hy] at hc

/-! ### Latches, ports and the table -/

theorem keepsWatch_setPort (s : State) (p : PortId) (u : PortUnit) : s.keepsWatch (s.setPort p u) :=
  keepsWatch_beside (s.setPort_lines p u) (s.setPort_groups p u) (congrArg Watch.down (s.setPort_watch p u))

theorem keepsWatch_modPort (s : State) (p : PortId) (f : PortUnit → PortUnit) : s.keepsWatch (s.modPort p f) :=
  keepsWatch_setPort s p _

theorem keepsWatch_latchT (s : State) (c : TCause) : s.keepsWatch (latchT c s) := keepsWatch_modPort s .t _
theorem keepsWatch_latchA (s : State) (c : ACause) : s.keepsWatch (latchA c s) := keepsWatch_modPort s .a _

theorem keepsWatch_latchCollision (s : State) (p : PortId) : s.keepsWatch (latchCollision p s) :=
  keepsWatch_modPort s p _

theorem keepsWatch_startWatchTimer (s : State) : s.keepsWatch (startWatchTimer s) :=
  keepsWatch_ite (keepsWatch_beside rfl rfl rfl) (.refl s)

theorem keepsWatch_complete (s : State) (p : PortId) (st : Status) (cl : Bool) (f : List Word) :
    s.keepsWatch (complete p st cl f s) := by
  rw [complete_eq]
  exact keepsWatch_beside (s.setPort_lines p _) (s.setPort_groups p _) rfl

theorem keepsWatch_refuse (s : State) (p : PortId) (st : Status) : s.keepsWatch (refuse p st s) :=
  keepsWatch_complete s p st false []

theorem keepsWatch_arbitrate (s : State) : s.keepsWatch (arbitrate s) := by
  rw [arbitrate_eq]; exact keepsWatch_beside rfl rfl rfl

theorem keepsWatch_granted (c : Client) (s : State) : s.keepsWatch (granted c s) := by
  rw [granted_eq]; exact keepsWatch_beside rfl rfl rfl

theorem keepsWatch_takeInstall (x : Install) (s : State) : s.keepsWatch (takeInstall x s) := by
  rw [takeInstall_eq]; exact keepsWatch_beside rfl rfl rfl

theorem keepsWatch_settleRelease (s : State) : s.keepsWatch (settleRelease s) := by
  rw [settleRelease_eq]; exact keepsWatch_beside rfl rfl rfl

theorem keepsWatch_beginRelease (s : State) : s.keepsWatch (beginRelease s) := by
  rw [beginRelease_eq]; exact keepsWatch_beside rfl rfl rfl

theorem keepsWatch_limitOver (s : State) : s.keepsWatch (limitOver s) := by
  rw [limitOver_eq]; exact keepsWatch_beside rfl rfl rfl

theorem keepsWatch_giveBack (s : State) : s.keepsWatch (giveBack s) := by
  rw [giveBack_eq]; exact keepsWatch_beside rfl rfl rfl

theorem keepsWatch_modAccount (s : State) (user : Nat) (f : Account → Account) : s.keepsWatch (s.modAccount user f) :=
  keepsWatch_beside rfl rfl rfl

/-! ### Lines that rest or hang up -/

/-- A line in no call goes to IDLE only if it is enabled and the watch is UP (R6, R7). -/
theorem LineRec.watched_restState {l : LineRec} {s : State} {i : LineId} (henable : l.enable = (s.line i).enable)
    (hl : l.watched s.watch.down (s.lineGroup i).enable) :
    { l with state := restState (s.effEnable i) (s.ready i) }.watched s.watch.down (s.lineGroup i).enable := by
  have heff : s.effEnable i = (l.enable && (s.lineGroup i).enable) := by rw [henable]; rfl
  have hready : s.ready i = true → s.effEnable i = true ∧ s.watch.down = false := fun h => by
    simp only [State.ready, State.sharedReady, Bool.and_eq_true, Bool.not_eq_true'] at h
    exact ⟨h.1, h.2.1.1.2⟩
  unfold restState
  cases he : s.effEnable i with
  | false => exact ⟨by simp, fun hd => ⟨rfl, (hl.2 hd).2⟩⟩
  | true =>
    cases hr : s.ready i with
    | false => exact ⟨by simp, fun hd => ⟨rfl, (hl.2 hd).2⟩⟩
    | true =>
      refine ⟨fun _ => heff ▸ he, fun hd => ?_⟩
      rw [(hready hr).2] at hd
      contradiction

theorem keepsWatch_goRest (i : LineId) (s : State) : s.keepsWatch (goRest i s) :=
  keepsWatch_line s i _ (LineRec.watched_restState rfl)

theorem LineRec.watched_rejudge {s : State} {i : LineId} (hl : s.watchedAt i) :
    ((s.line i).rejudge (s.effEnable i) (s.ready i)).watched s.watch.down (s.lineGroup i).enable := by
  unfold LineRec.rejudge
  split
  · exact LineRec.watched_restState rfl hl
  · exact LineRec.watched_restState rfl hl
  · exact LineRec.watched_restState rfl hl
  · split
    · have hcalm : (s.line i).calm { s.line i with state := .busied, ringCount := 0, ringGap := none } :=
        LineRec.calm_ended rfl rfl (.inl rfl)
      exact hcalm.watched hl
    · exact hl
  · exact hl

theorem keepsWatch_rejudge (s : State) : s.keepsWatch (rejudge s) :=
  ⟨fun i hi => by
    rw [State.watchedAt, rejudge_line]
    exact LineRec.watched_rejudge hi⟩

theorem keepsWatch_dropReservation (i : LineId) (s : State) : s.keepsWatch (dropReservation i s) := by
  rw [dropReservation_eq]
  exact (keepsWatch_keep s i (f := fun l => { l with reserved := false }) rfl rfl rfl).beside rfl rfl rfl

theorem keepsWatch_quitCheckQueue (i : LineId) (s : State) : s.keepsWatch (quitCheckQueue i s) :=
  keepsWatch_beside rfl rfl rfl

theorem keepsWatch_leaveCheckQueue (i : LineId) (s : State) : s.keepsWatch (leaveCheckQueue i s) :=
  keepsWatch_beside rfl rfl rfl

theorem keepsWatch_enterHangup (i : LineId) (s : State) : s.keepsWatch (enterHangup i s) :=
  ((keepsWatch_dropReservation i s).trans (keepsWatch_quitCheckQueue i _)).trans
    (keepsWatch_modLine _ i (LineRec.calm_ended rfl rfl (.inr rfl)))

theorem keepsWatch_hangup (i : LineId) (s : State) : s.keepsWatch (hangup i s) :=
  (keepsWatch_enterHangup i s).trans (keepsWatch_rejudge _)

/-! ### The transmitter -/

theorem keepsWatch_idleEvent (i : LineId) (s : State) : s.keepsWatch (idleEvent i s) :=
  keepsWatch_keepState s i _ fun _ => rfl

theorem keepsWatch_chooseSession (i : LineId) (s : State) : s.keepsWatch (chooseSession i s) := by
  unfold chooseSession
  split
  · exact keepsWatch_keep s i rfl rfl rfl
  · split
    · exact keepsWatch_keep s i rfl rfl rfl
    · split
      · unfold takeBuffered
        extract_lets joins s1 s2
        have h1 : s.keepsWatch s1 := keepsWatch_keep s i rfl rfl rfl
        have h2 : s.keepsWatch s2 := keepsWatch_ite (h1.trans (keepsWatch_latchT _ _)) h1
        exact keepsWatch_ite (h2.trans (keepsWatch_idleEvent i _)) h2
      · exact keepsWatch_keep s i rfl rfl rfl

theorem keepsWatch_endClosing (i : LineId) (s : State) : s.keepsWatch (endClosing i s) :=
  keepsWatch_ite (.refl s) (keepsWatch_hangup i s)

theorem keepsWatch_chooseClosing (i : LineId) (s : State) : s.keepsWatch (chooseClosing i s) := by
  unfold chooseClosing
  split
  · exact keepsWatch_keep s i rfl rfl rfl
  · split
    · exact keepsWatch_keep s i rfl rfl rfl
    · split
      · exact keepsWatch_keep s i rfl rfl rfl
      · exact (keepsWatch_keep s i rfl rfl rfl).trans (keepsWatch_endClosing i _)

theorem keepsWatch_chooseSignOn (i : LineId) (s : State) : s.keepsWatch (chooseSignOn i s) := by
  unfold chooseSignOn
  split
  · exact keepsWatch_keep s i rfl rfl rfl
  · extract_lets next s1
    have h1 : s.keepsWatch s1 := keepsWatch_keep s i rfl rfl rfl
    exact keepsWatch_ite (h1.trans (keepsWatch_hangup i _)) h1

theorem keepsWatch_choose (i : LineId) (s : State) : s.keepsWatch (choose i s) := by
  unfold choose
  split
  · exact keepsWatch_chooseSignOn i s
  · exact keepsWatch_chooseSession i s
  · exact keepsWatch_chooseClosing i s
  · unfold chooseTest; split <;> exact keepsWatch_keep s i rfl rfl rfl
  all_goals exact keepsWatch_keep s i rfl rfl rfl

theorem keepsWatch_kick (i : LineId) (s : State) : s.keepsWatch (kick i s) :=
  keepsWatch_ite (.refl s) (keepsWatch_choose i s)

theorem keepsWatch_requestMessage (i : LineId) (k : Nat) (s : State) : s.keepsWatch (requestMessage i k s) := by
  have h : s.keepsWatch (s.modLine i (·.request k)) := by
    apply keepsWatch_keep <;> unfold LineRec.request <;> split <;> rfl
  exact h.trans (keepsWatch_kick i _)

theorem keepsWatch_enterClosing (i : LineId) (s : State) : s.keepsWatch (enterClosing i s) :=
  (keepsWatch_modLine s i (LineRec.calm_ended rfl rfl (.inl rfl))).trans (keepsWatch_kick i _)

/-! ### Close decisions -/

theorem keepsWatch_placeInput (e : InputEntry) (s : State) : s.keepsWatch (placeInput e s) :=
  (keepsWatch_latchT _ _).ofBeside rfl rfl rfl

theorem LineRec.settleOutput_calm (r : CloseReason) (l : LineRec) : l.calm (l.settleOutput r) := by
  unfold LineRec.settleOutput; dsimp only; split <;> exact LineRec.calm_beside rfl rfl rfl

theorem keepsWatch_closeDecision (r : CloseReason) (t : Stamp) (i : LineId) (s : State) :
    s.keepsWatch (closeDecision r t i s) := by
  unfold closeDecision
  split
  · extract_lets s1 s2
    have h1 : s.keepsWatch s1 := keepsWatch_modSession s i fun _ _ h => by cases h
    have h2 : s.keepsWatch s2 := keepsWatch_ite (h1.trans (keepsWatch_placeInput _ s1)) h1
    exact h2.trans (keepsWatch_modLine s2 i (LineRec.settleOutput_calm r _))
  · exact .refl s

theorem keepsWatch_writeRecord (r : Nat → BillingRecord) (s : State) : s.keepsWatch (writeRecord r s) := by
  rw [writeRecord_eq]; exact keepsWatch_beside rfl rfl rfl

theorem keepsWatch_addStated (k : Config.Unstated) (x y : Nat) (s : State) : s.keepsWatch (addStated k x y s).2 := by
  unfold addStated; exact keepsWatch_beside (by split <;> rfl) (by split <;> rfl) (by split <;> rfl)

theorem keepsWatch_divertClose (x : Session) (s : State) : s.keepsWatch (divertClose x s) := by
  rw [divertClose_eq]; exact keepsWatch_beside rfl rfl rfl

/-- The account work of a close, given what the posting it may make does to the law. -/
theorem keepsWatch_accountWork {post : Nat → Nat → State → State}
    (hp : ∀ (user u : Nat) (s : State), s.keepsWatch (post user u s)) (i : LineId) (s : State) :
    s.keepsWatch (accountWork post i s) := by
  unfold accountWork
  split
  · exact .refl s
  · next x hx =>
    extract_lets up cu s1 x1 x2 kept s2 s3 s4 s5
    have h1 : s.keepsWatch s1 ∧ s1.lines = s.lines := by
      unfold s1 cu
      split
      · exact ⟨keepsWatch_addStated .., addStated_lines ..⟩
      · exact ⟨.refl s, rfl⟩
    have h2 : s.keepsWatch s2 ∧ s2.lines = s.lines := by
      unfold s2
      split
      · exact ⟨h1.1.trans (keepsWatch_divertClose _ s1), (divertClose_lines ..).trans h1.2⟩
      · exact h1
    have hstate : kept.state = x.state := by
      have h2 : x2.state = x.state := by
        unfold x2
        split
        · exact Session.addUnposted_state x1 1
        · rfl
      unfold kept
      split <;> exact h2
    have h3 : s.keepsWatch s3 := h2.1.trans (keepsWatch_replaceSession h2.2 hx hstate)
    have h5 : s.keepsWatch s5 := ((h3.trans (keepsWatch_writeRecord _ _)).trans (keepsWatch_dropReservation i _)).trans
      (keepsWatch_modAccount _ _ _)
    exact keepsWatch_ite (h5.trans (hp _ _ _)) h5

theorem keepsWatch_closeInAccess {post : Nat → Nat → State → State}
    (hp : ∀ (user u : Nat) (s : State), s.keepsWatch (post user u s)) (r : CloseReason) (i : LineId) (s : State) :
    s.keepsWatch (closeInAccess post r i s) := by
  unfold closeInAccess
  split
  · exact .refl s
  · have h := (keepsWatch_closeDecision r s.clock.stamp i s).trans (keepsWatch_accountWork hp i _)
    exact keepsWatch_ite (h.trans (keepsWatch_enterClosing i _)) h

/-! ### Postings -/

/-- A session that enters GRACE was METERED (R87). -/
theorem keepsWatch_exhaust (user : Nat) (s : State) : s.keepsWatch (exhaust user s) :=
  keepsWatch_mapSessions s fun i x hx h => by
    split at h
    · next hi => rw [State.mem_exhaustedLines hi hx]; rfl
    · exact h

theorem keepsWatch_fundsWarning (spared : List LineId) (user : Nat) (s : State) :
    s.keepsWatch (fundsWarning spared user s) := by
  refine keepsWatch_forLines (fun i s => ?_) s
  unfold warnLine
  split
  · exact keepsWatch_ite
      ((keepsWatch_keepState s i (fun x => { x with fundsWarned := true }) fun _ => rfl).trans
        (keepsWatch_requestMessage i 9 _)) (.refl s)
  · exact .refl s

theorem keepsWatch_postLevels (n : Nat) (spared : List LineId) (user u : Nat) (s : State) :
    s.keepsWatch (postLevels n spared user u s) := by
  induction n generalizing spared user u s with
  | zero => exact (keepsWatch_modAccount s user _).trans (keepsWatch_fundsWarning spared user _)
  | succ n ih =>
    unfold postLevels
    split
    · exact .refl s
    · extract_lets s1 zero close
      have h : s.keepsWatch (exhaust user s1) := (keepsWatch_modAccount s user _).trans (keepsWatch_exhaust user s1)
      exact (h.trans (keepsWatch_fold (fun s i => keepsWatch_closeInAccess (ih _) .funds i s) _ _)).trans
        (keepsWatch_fundsWarning spared user _)

theorem keepsWatch_post (user u : Nat) (s : State) : s.keepsWatch (post user u s) :=
  keepsWatch_postLevels 33 [] user u s

theorem keepsWatch_closeNow (r : CloseReason) (i : LineId) (s : State) : s.keepsWatch (closeNow r i s) :=
  keepsWatch_closeInAccess keepsWatch_post r i s

theorem keepsWatch_closeOutside (r : CloseReason) (i : LineId) (s : State) : s.keepsWatch (closeOutside r i s) := by
  unfold closeOutside
  split
  · exact .refl s
  · extract_lets s1 s2 e s3
    have h2 : s.keepsWatch s2 := (keepsWatch_closeDecision r s.clock.stamp i s).trans
      (keepsWatch_keepState s1 i _ fun _ => rfl)
    have h3 : s.keepsWatch s3 := h2.trans (keepsWatch_beside rfl rfl rfl)
    exact keepsWatch_ite (h3.trans (keepsWatch_enterClosing i _)) h3

/-- A credit posting returns to METERED only a session in GRACE (R90). -/
theorem State.relieve_isCharged (s : State) (x : Session) : (s.relieve x).state.isCharged = x.state.isCharged := by
  unfold State.relieve
  split
  · rfl
  · split
    · next h => rw [beq_iff_eq.mp h]; rfl
    · split <;> rfl

theorem keepsWatch_creditPosting (user u : Nat) (s : State) : s.keepsWatch (creditPosting user u s) :=
  (keepsWatch_modAccount s user _).trans (keepsWatch_mapSessions _ fun i x _ h => by
    split at h
    · rwa [State.relieve_isCharged] at h
    · exact h)

theorem keepsWatch_closeMatching (r : CloseReason) (covers : Session → Bool) (s : State) :
    s.keepsWatch (closeMatching r covers s).1 := by
  rw [closeMatching_eq]
  refine List.foldlRecOn (motive := fun acc : State × Nat => s.keepsWatch acc.1) _ _ (.refl s) fun acc h i _ => ?_
  rw [closeStep_eq]
  split
  · exact h.trans (keepsWatch_closeNow r i _)
  · exact h

end Sys2Proof.Machine
end

section
/-! PROOFS. The law of the watch (R157): passes, the release and the hold keep it. -/

namespace Sys2Proof.Machine

/-! ### Metering -/

theorem keepsWatch_chargeSecond (i : LineId) (t : Stamp) (s : State) : s.keepsWatch (chargeSecond i t s) := by
  unfold chargeSecond
  split
  · exact .refl s
  · next x hx =>
    extract_lets total u cs cu s1 x1 y s2 s3
    have hl : s1.lines = s.lines := (addStated_lines _ _ _ cs.2).trans (addStated_lines _ _ _ s)
    have h1 : s.keepsWatch s1 := (keepsWatch_addStated _ _ _ s).trans (keepsWatch_addStated _ _ _ cs.2)
    refine keepsWatch_ite (h1.trans (keepsWatch_replaceSession hl hx (Session.addUnposted_state x1 u))) ?_
    have h2 : s.keepsWatch s2 := h1.trans (keepsWatch_replaceSession hl hx rfl)
    exact (h2.trans (keepsWatch_modAccount s2 _ _)).trans (keepsWatch_post _ _ s3)

theorem keepsWatch_judgeIdle (i : LineId) (s : State) : s.keepsWatch (judgeIdle i s).1 := by
  unfold judgeIdle
  split
  · exact .refl s
  · next x hx =>
    extract_lets x1 s1 c
    have h1 : s.keepsWatch s1 :=
      keepsWatch_replaceSession rfl ((s.openSession_iff i x).mp hx).1 (Session.countIdle_state x)
    split
    · exact h1.trans (keepsWatch_closeNow _ i s1)
    · split
      · exact (h1.trans (keepsWatch_keepState s1 i (fun x => { x with idleWarned := true }) fun _ => rfl)).trans
          (keepsWatch_requestMessage i 11 _)
      · exact h1

theorem keepsWatch_countGrace (i : LineId) (s : State) : s.keepsWatch (countGrace i s).1 := by
  unfold countGrace
  split
  · exact .refl s
  · extract_lets g s1
    have h1 : s.keepsWatch s1 := keepsWatch_keepState s i _ fun _ => rfl
    split
    · exact h1.trans (keepsWatch_closeNow _ i s1)
    · exact h1

theorem keepsWatch_recompute (i : LineId) (t : Tick) (s : State) : s.keepsWatch (recompute i t s) := by
  unfold recompute
  split
  · exact keepsWatch_ite (keepsWatch_keepState s i _ fun _ => rfl) (.refl s)
  · exact .refl s

theorem keepsWatch_passAccess (i : LineId) (t : Tick) (s : State) : s.keepsWatch (passAccess i t s).1 := by
  unfold passAccess
  extract_lets inGrace s1 j g
  have h1 : s.keepsWatch j.1 := (keepsWatch_chargeSecond i t.value.stamp s).trans (keepsWatch_judgeIdle i s1)
  have hg : s.keepsWatch g.1 := by
    unfold g
    split
    · exact h1.trans (keepsWatch_countGrace i _)
    · exact h1
  exact hg.trans (keepsWatch_recompute i t _)

/-- A pass that goes on changes held seconds alone of the lines (R138). -/
theorem State.goesOn.keepsWatch {s t : State} (h : s.goesOn t) : s.keepsWatch t := by
  refine keepsWatch_of_lines (by rw [h.frame]) (by rw [h.frame]) fun i => ?_
  obtain ⟨f, -, hm⟩ := h.line i
  rw [hm]
  exact LineRec.calm_map fun _ _ hc => hc

theorem keepsWatch_passOn (s : State) : s.keepsWatch (passOn s) :=
  (goesOn_goOn s).keepsWatch.trans (keepsWatch_settleRelease _)

theorem keepsWatch_takeTick (s : State) : s.keepsWatch (takeTick s) := by
  unfold takeTick
  extract_lets t e s1
  have h1 : s.keepsWatch s1 := keepsWatch_beside rfl rfl rfl
  have hlose : s1.keepsWatch (loseTick s1) := keepsWatch_mapSessions s1 fun i x _ h => by split at h <;> exact h
  exact keepsWatch_ite (h1.trans hlose) (keepsWatch_ite (h1.beside rfl rfl rfl) (h1.trans ((goesOn_startPass t s1).keepsWatch)))

theorem keepsWatch_clockTick (s : State) : s.keepsWatch (clockTick s) :=
  keepsWatch_ite (((keepsWatch_passOn s).beside (u := advanceClock (passOn s)) rfl rfl rfl).trans (keepsWatch_takeTick _))
    (keepsWatch_beside rfl rfl rfl)

theorem keepsWatch_payDueList (s : State) : s.keepsWatch (payDueList s) := by
  unfold payDueList
  extract_lets s1
  have h1 : s.keepsWatch s1 := keepsWatch_fold (fun s (e : DueEntry) => keepsWatch_modAccount s e.user _) _ s
  exact h1.beside rfl rfl rfl

theorem keepsWatch_payUnpostedSeconds (i : LineId) (s : State) : s.keepsWatch (payUnpostedSeconds i s) := by
  unfold payUnpostedSeconds
  split
  · exact .refl s
  · exact (keepsWatch_modAccount s _ _).trans (keepsWatch_keepState _ i _ fun _ => rfl)

theorem keepsWatch_payDue (s : State) : s.keepsWatch (payDue s) := by
  unfold payDue
  extract_lets s1
  have h1 : s.keepsWatch s1 := (keepsWatch_payDueList s).trans (keepsWatch_forLines keepsWatch_payUnpostedSeconds _)
  clear_value s1
  exact h1.beside rfl rfl rfl

theorem keepsWatch_releaseStep (s : State) : s.keepsWatch (releaseStep s) := by
  unfold releaseStep
  split
  · exact (keepsWatch_post _ _ _).ofBeside rfl rfl rfl
  · split
    · exact .refl s
    · split
      · exact .refl s
      · exact (keepsWatch_keepState s _ (fun x => { x with unpostedUnits := 0 }) fun _ => rfl).trans (keepsWatch_post _ _ _)

theorem keepsWatch_closeWorkAccess (s : State) : s.keepsWatch (closeWorkAccess s) := by
  unfold closeWorkAccess
  split
  · exact .refl s
  · next i rest _ =>
    extract_lets e s1 s2
    have h1 : s.keepsWatch s1 := keepsWatch_beside rfl rfl rfl
    have h2 : s.keepsWatch s2 := h1.trans (keepsWatch_accountWork keepsWatch_post i s1)
    split
    · split
      · exact h2.trans (keepsWatch_hangup i s2)
      · exact h2.trans (keepsWatch_kick i s2)
      · exact h2
    · exact h1

theorem keepsWatch_serveCloseWork (s : State) : s.keepsWatch (serveCloseWork s) :=
  keepsWatch_fold (fun s _ => keepsWatch_closeWorkAccess s) _ s

theorem keepsWatch_afterAccess (s : State) : s.keepsWatch (afterAccess s) :=
  (((keepsWatch_limitOver _).trans (keepsWatch_passOn _)).trans (keepsWatch_arbitrate _)).ofBeside rfl rfl rfl

theorem keepsWatch_passStep (s : State) : s.keepsWatch (passStep s).1 := by
  unfold passStep
  extract_lets s1
  have h1 : s.keepsWatch s1 := keepsWatch_passOn s
  split
  · exact h1
  · next p _ =>
    split
    · exact h1
    · next i _ =>
      split
      · exact (h1.trans (keepsWatch_passAccess i p.tick s1)).trans (keepsWatch_afterAccess _)
      · exact h1

theorem keepsWatch_passStepOn (i : LineId) (hit : PassNote → Bool) (s : State) : s.keepsWatch (passStepOn i hit s) := by
  unfold passStepOn
  split
  · exact keepsWatch_ite (keepsWatch_passStep s) (.refl s)
  · exact .refl s

theorem keepsWatch_closeWorkGranted (s : State) : s.keepsWatch (closeWorkGranted s) :=
  keepsWatch_ite ((keepsWatch_closeWorkAccess s).trans (keepsWatch_giveBack _)) (.refl s)

/-! ### The hold -/

theorem keepsWatch_grantHold (s : State) : s.keepsWatch (grantHold s) :=
  ((keepsWatch_latchA _ _).trans (keepsWatch_arbitrate _)).ofBeside rfl rfl rfl

theorem keepsWatch_holdGrantOn (s : State) : s.keepsWatch (holdGrantOn s) :=
  keepsWatch_ite ((keepsWatch_passOn s).trans (keepsWatch_grantHold _)) (.refl s)

theorem keepsWatch_holdLimitOver (s : State) : s.keepsWatch (holdLimitOver s) :=
  keepsWatch_ite (keepsWatch_limitOver s) (.refl s)

theorem keepsWatch_releasePostingOn (s : State) : s.keepsWatch (releasePostingOn s) :=
  keepsWatch_ite (((keepsWatch_passOn s).trans (keepsWatch_releaseStep _)).trans (keepsWatch_settleRelease _))
    (keepsWatch_passOn s)

theorem keepsWatch_secondsDueOn (s : State) : s.keepsWatch (secondsDueOn s) :=
  keepsWatch_ite (((keepsWatch_payDue s).trans (goesOn_startRemembered _).keepsWatch).trans (keepsWatch_arbitrate _)) (.refl s)

end Sys2Proof.Machine
end

section
/-! PROOFS. One line after another: an operation of all lines in order, each of which changes its own line alone. -/

namespace Sys2Proof.Machine

/-- While P holds, the operation on a line changes that line alone, and P goes on to hold. -/
def LineByLine (P : State → Prop) (f : LineId → State → State) : Prop :=
  ∀ j s, P s → P (f j s) ∧ s.sameLinesBut (f j s) j

section
variable {P : State → Prop} {f : LineId → State → State}

/-- A line that is not in the list stands. -/
theorem LineByLine.fold (h : LineByLine P f) (is : List LineId) {s : State} (hs : P s) :
    P (is.foldl (fun s i => f i s) s) ∧ ∀ j, j ∉ is → (is.foldl (fun s i => f i s) s).line j = s.line j := by
  induction is generalizing s with
  | nil => exact ⟨hs, fun _ _ => rfl⟩
  | cons i is ih =>
    obtain ⟨hP, hothers⟩ := h i s hs
    obtain ⟨hlast, hlines⟩ := ih hP
    refine ⟨hlast, fun j hj => ?_⟩
    obtain ⟨hne, hj⟩ := not_or.mp (mt List.mem_cons.mpr hj)
    exact (hlines j hj).trans (hothers j hne)

/-- Each line is met as it stood, and stands as its own operation leaves it. -/
theorem LineByLine.at (h : LineByLine P f) {s : State} (hs : P s) (i : LineId) :
    ∃ (v : State) (is : List LineId), P v ∧ v.line i = s.line i ∧
      s.forLines f = is.foldl (fun s i => f i s) (f i v) ∧ (s.forLines f).line i = (f i v).line i := by
  have hnodup : (allLines.take i.val ++ i :: allLines.drop (i.val + 1)).Nodup := allLines_split i ▸ allLines_nodup
  obtain ⟨hafter, hbefore⟩ := List.nodup_cons.mp (List.nodup_middle.mp hnodup)
  obtain ⟨hP, hlines⟩ := h.fold (allLines.take i.val) hs
  have hsplit : s.forLines f = (allLines.drop (i.val + 1)).foldl (fun s i => f i s)
      (f i ((allLines.take i.val).foldl (fun s i => f i s) s)) := by
    conv_lhs => rw [State.forLines, allLines_split i, List.foldl_append, List.foldl_cons]
  refine ⟨_, _, hP, hlines i fun hi => hafter (List.mem_append_left _ hi), hsplit, ?_⟩
  rw [hsplit]
  exact (h.fold _ (h i _ hP).1).2 i fun hi => hafter (List.mem_append_right _ hi)

end

end Sys2Proof.Machine
end

section
/-! PROOFS. The watch goes DOWN (R18, R157): what becomes of each line. -/

namespace Sys2Proof.Machine

/-! ### Lines while the watch is DOWN -/

theorem State.ready_of_down {s : State} (h : s.watch.down = true) (i : LineId) : s.ready i = false := by
  simp [State.ready, State.sharedReady, h]

/-- The watch is DOWN, and every line in no call has acted on that (R6, R7). -/
def State.settled (s : State) : Prop :=
  s.watch.down = true ∧ ∀ j, (s.line j).rejudge (s.effEnable j) false = s.line j

theorem LineRec.rejudge_rejudge (l : LineRec) (e : Bool) : (l.rejudge e false).rejudge e false = l.rejudge e false := by
  cases e <;> cases h : l.state <;> simp [LineRec.rejudge, restState, h]

theorem settled_rejudge {s : State} (h : s.watch.down = true) : (rejudge s).settled := by
  refine ⟨h, fun j => ?_⟩
  rw [rejudge_line, rejudge_effEnable, State.ready_of_down h, LineRec.rejudge_rejudge]

theorem State.settled.rejudge_eq {s : State} (h : s.settled) : rejudge s = s := by
  have hlines : (rejudge s).lines = s.lines := Bank.ext_get fun j => by
    have hj := rejudge_line s j
    rw [State.ready_of_down h.1, h.2] at hj
    exact hj
  calc rejudge s = { s with lines := (rejudge s).lines } := Machine.rejudge_eq s
    _ = s := by rw [hlines]

/-- A line in no call and short of RINGING is not IDLE; one in RINGING is not effectively enabled. -/
theorem State.settled.idle {s : State} (h : s.settled) (i : LineId) :
    (s.line i).state ≠ .idle ∧ ((s.line i).state = .ringing → s.effEnable i = false) := by
  have hline := congrArg LineRec.state (h.2 i)
  rw [LineRec.rejudge_state] at hline
  refine ⟨fun hi => ?_, fun hi => ?_⟩
  · rw [hi] at hline
    cases he : s.effEnable i <;> simp [he] at hline
  · rw [hi] at hline
    simpa using hline

/-- A line in HANGUP or CLOSING. -/
def LineState.ending (x : LineState) : Prop := x = .hangup ∨ x = .closing

/-- A change of line i alone that takes it to HANGUP or CLOSING. -/
theorem State.settled.change {s t : State} {i : LineId} (h : s.settled) (hframe : s.lineFrame t)
    (hothers : s.sameLinesBut t i) (henable : (t.line i).enable = (s.line i).enable)
    (hi : (t.line i).state.ending) : t.settled := by
  unfold State.lineFrame at hframe
  have hgroup : ∀ j, t.lineGroup j = s.lineGroup j := fun j => by rw [hframe]; rfl
  refine ⟨by rw [hframe]; exact h.1, fun j => ?_⟩
  by_cases hj : j = i
  · subst hj
    rcases hi with e | e <;> simp [LineRec.rejudge, e]
  · rw [State.effEnable, hothers j hj, hgroup]
    exact h.2 j

/-! ### What a line does when the watch goes DOWN (R18) -/

theorem lineDown_cases (i : LineId) (s : State) :
    (((s.line i).state = .answering ∨ (s.line i).state = .speed) ∧ lineDown i s = hangup i s) ∨
    ((s.line i).state = .signOn ∧ lineDown i s = signOnDown i s) ∨
    ((s.line i).state ≠ .answering ∧ (s.line i).state ≠ .speed ∧ (s.line i).state ≠ .signOn ∧ lineDown i s = s) := by
  unfold lineDown
  cases (s.line i).state <;> simp

theorem enterHangup_line (i : LineId) (s : State) :
    (enterHangup i s).line i = { (s.line i).hungUp with reserved := false } ∧ s.sameLinesBut (enterHangup i s) i := by
  rw [enterHangup_eq]
  exact ⟨State.line_setLine s i _, State.sameLinesBut_setLine s i _⟩

/-- HANGUP while every other line has acted on the watch: it changes its own line alone. -/
theorem State.settled.hangup {s : State} (h : s.settled) (i : LineId) :
    hangup i s = enterHangup i s ∧ (enterHangup i s).settled := by
  obtain ⟨hline, hothers⟩ := enterHangup_line i s
  have hsettled := h.change (lineFrame_enterHangup s i) hothers (by rw [hline]; rfl) (by rw [hline]; exact .inl rfl)
  exact ⟨hsettled.rejudge_eq, hsettled⟩

/-- A choice of the transmitter in CLOSING: the line stays there, or it enters HANGUP (R42, R67). -/
theorem kick_ofClosing {i : LineId} {s : State} (h : (s.line i).state = .closing) :
    ∃ l : LineRec, l.state = .closing ∧ l.enable = (s.line i).enable ∧
      (kick i s = s.setLine i l ∨ kick i s = Machine.hangup i (s.setLine i l)) := by
  have hsent (f : LineRec → LineRec) (hstate : (f (s.line i)).state = .closing)
      (henable : (f (s.line i)).enable = (s.line i).enable) : ∃ l : LineRec, l.state = .closing ∧
        l.enable = (s.line i).enable ∧ (s.modLine i f = s.setLine i l ∨ s.modLine i f = Machine.hangup i (s.setLine i l)) :=
    ⟨f (s.line i), hstate, henable, .inl rfl⟩
  unfold kick
  split
  · exact ⟨s.line i, h, rfl, .inl (s.setLine_self i).symm⟩
  · rw [choose_closing h]
    unfold chooseClosing
    split
    · exact hsent _ h rfl
    · split
      · exact hsent _ h rfl
      · split
        · exact hsent _ h rfl
        · unfold endClosing
          split
          · exact hsent _ h rfl
          · exact ⟨{ (s.line i).sending none none with closingSlot := none }, h, rfl, .inr rfl⟩

/-- Entry to CLOSING while every other line has acted on the watch: it changes its own line alone. -/
theorem State.settled.enterClosing {s : State} (h : s.settled) (i : LineId) :
    (enterClosing i s).settled ∧ s.sameLinesBut (enterClosing i s) i ∧ ((enterClosing i s).line i).state.ending := by
  have hclosed (l : LineRec) (hstate : l.state = .closing) (henable : l.enable = (s.line i).enable) :
      (s.setLine i l).settled :=
    h.change (lineFrame_setLine s i l) (s.sameLinesBut_setLine i l) (by rw [s.line_setLine]; exact henable)
      (by rw [s.line_setLine]; exact .inr hstate)
  obtain ⟨l, hstate, henable, hk⟩ := kick_ofClosing (i := i) (s := s.modLine i fun l => { l with state := .closing })
    (by rw [s.line_modLine])
  rw [s.line_modLine] at henable
  rw [State.modLine_eq, State.setLine_setLine] at hk
  have hsettled := hclosed l hstate henable
  rcases hk with hk | hk
  · rw [Machine.enterClosing, State.modLine_eq, hk]
    exact ⟨hsettled, s.sameLinesBut_setLine i l, by rw [s.line_setLine]; exact .inr hstate⟩
  · obtain ⟨heq, hhung⟩ := hsettled.hangup i
    obtain ⟨hline, hothers⟩ := enterHangup_line i (s.setLine i l)
    rw [Machine.enterClosing, State.modLine_eq, hk, heq]
    exact ⟨hhung, fun j hj => (hothers j hj).trans (s.sameLinesBut_setLine i l j hj), by rw [hline]; exact .inl rfl⟩

theorem State.settled.lineFrame {s t : State} (h : s.settled) (hframe : s.lineFrame t) (hlines : t.lines = s.lines) :
    t.settled := by
  unfold State.lineFrame at hframe
  rw [hframe, hlines]
  exact h

theorem lineFrame_signOnDown (s : State) (i : LineId) : s.lineFrame (signOnDown i s) :=
  ((lineFrame_quitCheckQueue s i).trans (lineFrame_modLine _ i _)).trans (lineFrame_enterClosing _ i)

theorem lineFrame_lineDown (s : State) (i : LineId) : s.lineFrame (lineDown i s) := by
  rcases lineDown_cases i s with ⟨-, h⟩ | ⟨-, h⟩ | ⟨-, -, -, h⟩ <;> rw [h]
  · exact lineFrame_hangup s i
  · exact lineFrame_signOnDown s i
  · exact .refl s

/-- A line in SIGNON, made ready to go to CLOSING with slot 8 (R18, R68). -/
def LineRec.signOnDown (l : LineRec) : LineRec :=
  { l with signOn := none, txItem := none, closingSlot := some 8 }

theorem signOnDown_eq (i : LineId) (s : State) :
    signOnDown i s = enterClosing i ((quitCheckQueue i s).modLine i LineRec.signOnDown) := rfl

/-- The sign-on dialog of a line ends while every other line has acted on the watch: it changes its own line alone. -/
theorem State.settled.signOnDown {s : State} (h : s.settled) {i : LineId} (hi : (s.line i).state = .signOn) :
    (signOnDown i s).settled ∧ s.sameLinesBut (signOnDown i s) i ∧ ((signOnDown i s).line i).state.ending := by
  have hstands : (s.line i).signOnDown.rejudge (s.effEnable i) false = (s.line i).signOnDown :=
    LineRec.rejudge_stands _ _ (by rw [LineRec.signOnDown, hi]; rfl) (by rw [LineRec.signOnDown, hi]; decide)
  have hbefore : ((quitCheckQueue i s).modLine i LineRec.signOnDown).settled := by
    refine ⟨h.1, fun j => ?_⟩
    by_cases hj : j = i
    · subst hj
      rw [State.line_modLine]
      have heff : ((quitCheckQueue j s).modLine j LineRec.signOnDown).effEnable j = s.effEnable j := by
        rw [State.effEnable, State.line_modLine]; rfl
      rw [heff]
      exact hstands
    · rw [State.effEnable, State.line_modLine_ne _ _ (Ne.symm hj)]
      exact h.2 j
  obtain ⟨hsettled, hothers, hstate⟩ := hbefore.enterClosing i
  exact ⟨hsettled, fun j hj => (hothers j hj).trans (State.line_modLine_ne _ _ (Ne.symm hj)), hstate⟩

theorem lineDown_lineByLine (u : State) : LineByLine (fun v => v.settled ∧ u.lineFrame v) lineDown := by
  intro i s ⟨h, hframe⟩
  have hframe := hframe.trans (lineFrame_lineDown s i)
  rcases lineDown_cases i s with ⟨-, hd⟩ | ⟨hs, hd⟩ | ⟨-, -, -, hd⟩ <;> rw [hd] at hframe ⊢
  · obtain ⟨heq, hsettled⟩ := h.hangup i
    rw [heq] at hframe ⊢
    exact ⟨⟨hsettled, hframe⟩, (enterHangup_line i s).2⟩
  · obtain ⟨hsettled, hothers, -⟩ := h.signOnDown hs
    exact ⟨⟨hsettled, hframe⟩, hothers⟩
  · exact ⟨⟨h, hframe⟩, fun _ _ => rfl⟩

/-! ### The law of the watch -/

theorem keepsWatch_signOnDown (i : LineId) (s : State) : s.keepsWatch (signOnDown i s) :=
  ((keepsWatch_quitCheckQueue i s).trans (keepsWatch_keep _ i (f := LineRec.signOnDown) rfl rfl rfl)).trans
    (keepsWatch_enterClosing i _)

/-- A line that leaves its call with its session HELD or closed. -/
theorem LineRec.watched_of_ended {l : LineRec} {down groupOn : Bool} (hstate : l.state.dialling = false)
    (hsession : ∀ x, l.session = some x → x.state.isCharged = false) : l.watched down groupOn := by
  refine ⟨fun h => ?_, fun _ => ⟨hstate, hsession⟩⟩
  rw [LineState.dialling_of_ready h] at hstate
  contradiction

/-- A line met while the watch goes DOWN, its session no longer charged, leaves IDLE and every call short of a session
(R18, R157). -/
theorem lineDown_watchedAt {i : LineId} {s : State} (h : s.settled)
    (hready : (s.line i).state = .idle ∨ (s.line i).state = .ringing → s.effEnable i = true)
    (hsession : ∀ x, s.session i = some x → x.state.isCharged = false) : (lineDown i s).watchedAt i := by
  rcases lineDown_cases i s with ⟨-, hd⟩ | ⟨hs, hd⟩ | ⟨hanswering, hspeed, hsignOn, hd⟩ <;> rw [hd]
  · obtain ⟨hline, -⟩ := enterHangup_line i s
    rw [(h.hangup i).1, State.watchedAt, hline]
    exact LineRec.watched_of_ended rfl fun x hx => by contradiction
  · rw [signOnDown_eq]
    refine (keepsWatch_kick i _).keeps i ?_
    rw [State.watchedAt, State.line_modLine, State.line_modLine]
    exact LineRec.watched_of_ended rfl hsession
  · obtain ⟨hidle, hringing⟩ := h.idle i
    refine LineRec.watched_of_ended ?_ hsession
    cases hstate : (s.line i).state <;> first | rfl | skip
    case idle => exact absurd hstate hidle
    case ringing => rw [hringing hstate] at hready; exact absurd (hready (.inr hstate)) (by decide)
    all_goals contradiction

/-- The state of the watch and of the sessions when the watch has gone DOWN, before the lines act on it (R151, R157). -/
def State.downed (s : State) : State :=
  { s with watch := { s.watch with
      down := true, timer := none
      holdDownTimer := if 0 < s.watch.holdDownLimit then Timer.seconds (s.watch.holdDownLimit * 60) else none } }.mapSessions
    fun _ x => x.hold

theorem Session.hold_uncharged (x : Session) : x.hold.state.isCharged = false := by
  unfold Session.hold
  split
  · rfl
  · next h => simpa using h

/-- A line whose session is HELD if it was METERED or GRACE (R151). -/
def LineRec.holdSession (l : LineRec) : LineRec := { l with session := l.session.map Session.hold }

theorem State.downed_line (s : State) (i : LineId) : s.downed.line i = (s.line i).holdSession := by
  rw [State.downed, State.mapSessions, State.line_mapLines]; rfl

theorem settled_downed (s : State) : (rejudge s.downed).settled := settled_rejudge rfl

theorem watchDown_eq (s : State) :
    watchDown s = arbitrate (latchA .systemDown (rejudge ((rejudge s.downed).forLines lineDown))) := rfl

theorem LineRec.ringing_of_rejudge {l : LineRec} {e r : Bool} (h : (l.rejudge e r).state = .ringing) :
    l.state = .ringing := by
  rw [LineRec.rejudge_state] at h
  split at h
  · split at h
    · contradiction
    · split at h <;> contradiction
  · split at h
    · contradiction
    · exact h

/-- Each line is met settled, in the state in which the watch left it when it went DOWN. -/
theorem downed_at (s : State) (i : LineId) : ∃ (v : State) (is : List LineId), v.settled ∧
    v.line i = (s.line i).holdSession.rejudge (s.effEnable i) false ∧
    v.effEnable i = s.effEnable i ∧
    (rejudge s.downed).forLines lineDown = is.foldl (fun s i => lineDown i s) (lineDown i v) ∧
    ((rejudge s.downed).forLines lineDown).line i = (lineDown i v).line i := by
  obtain ⟨v, is, ⟨hsettled, hframe⟩, hline, hsplit, hend⟩ :=
    (lineDown_lineByLine (rejudge s.downed)).at ⟨settled_downed s, .refl _⟩ i
  have hdowned : s.downed.effEnable i = s.effEnable i := by rw [State.effEnable, State.downed_line]; rfl
  have heff : v.effEnable i = s.effEnable i := by
    unfold State.lineFrame at hframe
    have hgroup : v.lineGroup i = s.lineGroup i := by rw [hframe]; rfl
    rw [State.effEnable, hline, hgroup, rejudge_line, LineRec.rejudge_enable, State.downed_line]
    rfl
  refine ⟨v, is, hsettled, ?_, heff, hsplit, hend⟩
  rw [hline, rejudge_line, State.downed_line, hdowned, State.ready_of_down rfl]

theorem keepsWatch_lineDown (i : LineId) (s : State) : s.keepsWatch (lineDown i s) := by
  rcases lineDown_cases i s with ⟨-, h⟩ | ⟨-, h⟩ | ⟨-, -, -, h⟩ <;> rw [h]
  · exact keepsWatch_hangup i s
  · exact keepsWatch_signOnDown i s
  · exact .refl s

theorem keepsWatch_watchDown (s : State) : s.keepsWatch (watchDown s) := by
  refine ⟨fun i ⟨hready, _⟩ => ?_⟩
  obtain ⟨v, is, hsettled, hline, heff, hsplit, -⟩ := downed_at s i
  have hvisited : (lineDown i v).watchedAt i := by
    refine lineDown_watchedAt hsettled (fun h => ?_) fun y hy => ?_
    · have hringing : (v.line i).state = .ringing := h.resolve_left (hsettled.idle i).1
      rw [hline] at hringing
      rw [heff]
      exact hready (.inr (LineRec.ringing_of_rejudge (l := (s.line i).holdSession) hringing))
    · rw [State.session, hline, LineRec.rejudge_session, LineRec.holdSession, Option.map_eq_some_iff] at hy
      obtain ⟨x, -, rfl⟩ := hy
      exact x.hold_uncharged
  have hrest (u : State) : u.keepsWatch (arbitrate (latchA .systemDown (rejudge u))) :=
    ((keepsWatch_rejudge u).trans (keepsWatch_latchA _ _)).trans (keepsWatch_arbitrate _)
  rw [watchDown_eq, hsplit]
  exact (hrest _).keeps i ((keepsWatch_fold (fun s i => keepsWatch_lineDown i s) is _).keeps i hvisited)

end Sys2Proof.Machine
end

section
/-! PROOFS. The law of the watch (R157): the watch coming UP, the line events and the sign-on dialog keep it. -/

namespace Sys2Proof.Machine

/-! ### The watch UP -/

/-- With the watch UP the law asks only that a line in IDLE or RINGING is effectively enabled. -/
theorem LineRec.watched_up {l : LineRec} {groupOn : Bool} :
    l.watched false groupOn ↔ (l.state = .idle ∨ l.state = .ringing → (l.enable && groupOn) = true) :=
  ⟨And.left, fun h => ⟨h, fun hd => absurd hd Bool.false_ne_true⟩⟩

/-- The watch comes UP. -/
theorem keepsWatch_up {s t : State} (hlines : t.lines = s.lines) (hgroups : t.groups = s.groups)
    (hdown : t.watch.down = false) : s.keepsWatch t := by
  refine ⟨fun i hi => ?_⟩
  rw [State.watchedAt, State.line, hlines, State.lineGroup, State.group, hgroups, hdown]
  exact LineRec.watched_up.mpr hi.1

/-- A line in a call short of a session goes on in it: the watch is UP. -/
theorem keepsWatch_call (s : State) (i : LineId) {f : LineRec → LineRec} (h : (s.line i).state.dialling = true)
    (henable : (f (s.line i)).enable = (s.line i).enable)
    (hready : (f (s.line i)).state = .idle ∨ (f (s.line i)).state = .ringing →
      (s.line i).state = .idle ∨ (s.line i).state = .ringing) : s.keepsWatch (s.modLine i f) := by
  refine keepsWatch_line s i f fun ⟨hon, hdown⟩ => ?_
  have hup : s.watch.down = false := by
    rw [← Bool.not_eq_true]
    intro hd
    rw [(hdown hd).1] at h
    contradiction
  rw [hup]
  exact LineRec.watched_up.mpr fun hm => henable ▸ hon (hready hm)

/-- While the watch is UP a session resumes (R159). -/
theorem keepsWatch_resumed {s : State} (hup : s.watch.down = false) (i : LineId) (f : Session → Session) :
    s.keepsWatch (s.modSession i f) :=
  keepsWatch_line s i _ fun h => by
    rw [hup]
    exact LineRec.watched_up.mpr h.1

theorem keepsWatch_resumeLine {s : State} (hup : s.watch.down = false) (i : LineId) : s.keepsWatch (resumeLine i s) := by
  unfold resumeLine
  split
  · exact .refl s
  · split
    · exact .refl s
    · extract_lets y s1
      split
      · exact keepsWatch_resumed hup i _
      · split
        · exact keepsWatch_ite ((keepsWatch_resumed hup i _).trans (keepsWatch_closeOutside _ i s1))
            (keepsWatch_resumed hup i _)
        · exact keepsWatch_resumed hup i _

theorem resumeLine_watch (i : LineId) (s : State) : (resumeLine i s).watch = s.watch := by
  unfold resumeLine
  split
  · rfl
  · split
    · rfl
    · extract_lets y s1
      split
      · rfl
      · split
        · split
          · have h := workFrame_closeOutside s1 .funds i
            unfold State.workFrame at h
            rw [h]
            rfl
          · rfl
        · rfl

theorem keepsWatch_resumeLines {s : State} (hup : s.watch.down = false) : s.keepsWatch (s.forLines resumeLine) := by
  have hlines : s.keepsWatch (s.forLines resumeLine) ∧ (s.forLines resumeLine).watch = s.watch :=
    List.foldlRecOn (motive := fun t : State => s.keepsWatch t ∧ t.watch = s.watch) allLines _ ⟨.refl s, rfl⟩
      fun t ⟨h, hw⟩ i _ => ⟨h.trans (keepsWatch_resumeLine (by rw [hw]; exact hup) i), (resumeLine_watch i t).trans hw⟩
  exact hlines.1

theorem keepsWatch_watchUp (s : State) : s.keepsWatch (watchUp s) := by
  unfold watchUp
  extract_lets w s1
  have h1 : s.keepsWatch s1 := keepsWatch_up rfl rfl rfl
  exact ((h1.trans (keepsWatch_resumeLines (s := s1) rfl)).trans (keepsWatch_latchA _ _)).trans (keepsWatch_rejudge _)

theorem keepsWatch_takenByWatch (s : State) : s.keepsWatch (takenByWatch s) :=
  keepsWatch_ite ((keepsWatch_watchUp _).ofBeside rfl rfl rfl) (keepsWatch_beside rfl rfl rfl)

theorem keepsWatch_watchTimerOver (s : State) : s.keepsWatch (watchTimerOver s) :=
  keepsWatch_ite (keepsWatch_watchDown s) (.refl s)

theorem keepsWatch_holdDownOver (s : State) : s.keepsWatch (holdDownOver s) :=
  (keepsWatch_forLines (fun i s => keepsWatch_ite (keepsWatch_closeOutside _ i s) (.refl s)) _).ofBeside rfl rfl rfl

theorem keepsWatch_holdDownExpired (s : State) : s.keepsWatch (holdDownExpired s) :=
  keepsWatch_ite (keepsWatch_holdDownOver s) (.refl s)

/-! ### Line events -/

theorem LineRec.scan_calm (l : LineRec) (ring carrier : Bool) (limit : Nat) : l.calm (l.scan ring carrier limit) := by
  unfold LineRec.scan LineRec.sampleRing
  cases ring <;> exact LineRec.calm_beside rfl rfl rfl

theorem keepsWatch_scanAll (ring carrier : BitVec 32) (s : State) : s.keepsWatch (scanAll ring carrier s) :=
  (keepsWatch_mapLines s (f := fun i l => l.scan (ring.getLsbD i.val) (carrier.getLsbD i.val) (s.lineGroup i).lossCount)
    fun _ => LineRec.scan_calm _ _ _ _).beside rfl rfl rfl

theorem keepsWatch_takeReport (i : LineId) (f : Reports → Reports) (s : State) : s.keepsWatch (takeReport i f s) :=
  keepsWatch_keep s i rfl rfl rfl

theorem keepsWatch_answer {i : LineId} {s : State} (h : (s.line i).state.dialling = true) : s.keepsWatch (answer i s) := by
  unfold answer
  extract_lets wait b s1
  have h1 : s.keepsWatch s1 := keepsWatch_beside rfl rfl rfl
  refine keepsWatch_ite (h1.trans (State.keepsWatch.trans ?_ (keepsWatch_rejudge _)))
    (keepsWatch_modLine s i (LineRec.calm_ended rfl rfl (.inl rfl)))
  exact keepsWatch_call s1 i h rfl (by simp)

theorem keepsWatch_ringOn {i : LineId} {s : State} (h : (s.line i).state = .idle ∨ (s.line i).state = .ringing) :
    s.keepsWatch (ringOn i s) := by
  unfold ringOn
  extract_lets count s1
  have h1 : s.keepsWatch s1 := keepsWatch_call s i (LineState.dialling_of_ready h) rfl fun _ => h
  exact keepsWatch_ite (h1.trans (keepsWatch_answer (by rw [State.line_modLine]; rfl))) h1

theorem keepsWatch_qualifiedRingOn (i : LineId) (s : State) : s.keepsWatch (qualifiedRingOn i s) := by
  unfold qualifiedRingOn
  extract_lets s1
  have h1 : s.keepsWatch s1 := keepsWatch_takeReport i _ s
  split
  · split
    · next h => exact h1.trans (keepsWatch_ringOn (.inl h))
    · next h => exact h1.trans (keepsWatch_ringOn (.inr h))
    · exact h1
  · exact .refl s

theorem keepsWatch_ringGapOver (i : LineId) (s : State) : s.keepsWatch (ringGapOver i s) := by
  unfold ringGapOver
  split
  · next h => exact keepsWatch_call s i (LineState.dialling_of_ready (.inr h.1)) rfl fun _ => .inr h.1
  · exact .refl s

theorem keepsWatch_carrierPresentOn (i : LineId) (s : State) : s.keepsWatch (carrierPresentOn i s) := by
  unfold carrierPresentOn
  extract_lets s1
  have h1 : s.keepsWatch s1 := keepsWatch_takeReport i _ s
  split
  · split
    · next h => exact h1.trans (keepsWatch_call s1 i (by rw [h]; rfl) rfl (by simp [LineRec.toSpeed]))
    · exact h1
  · exact .refl s

theorem keepsWatch_phaseOver (st : LineState) (i : LineId) (s : State) : s.keepsWatch (phaseOver st i s) :=
  keepsWatch_ite (keepsWatch_hangup i s) (.refl s)

theorem keepsWatch_loseCarrier (i : LineId) (s : State) : s.keepsWatch (loseCarrier i s) := by
  unfold loseCarrier
  split
  · exact keepsWatch_hangup i s
  · exact keepsWatch_hangup i s
  · exact keepsWatch_closeOutside _ i s
  · exact (keepsWatch_keep s i rfl rfl rfl).trans (keepsWatch_endClosing i _)
  · exact .refl s

theorem keepsWatch_carrierLossOn (i : LineId) (s : State) : s.keepsWatch (carrierLossOn i s) :=
  keepsWatch_ite ((keepsWatch_takeReport i _ s).trans (keepsWatch_loseCarrier i _)) (.refl s)

theorem keepsWatch_enterFaulted (i : LineId) (k : FaultKind) (s : State) : s.keepsWatch (enterFaulted i k s) :=
  (keepsWatch_modLine s i (LineRec.calm_ended rfl rfl (.inl rfl))).trans (keepsWatch_latchT _ _)

theorem keepsWatch_stuckCarrierOn (i : LineId) (s : State) : s.keepsWatch (stuckCarrierOn i s) :=
  keepsWatch_ite (keepsWatch_ite ((keepsWatch_takeReport i _ s).trans (keepsWatch_enterFaulted i _ _))
    (keepsWatch_takeReport i _ s)) (.refl s)

theorem keepsWatch_ringStuckOn (i : LineId) (s : State) : s.keepsWatch (ringStuckOn i s) :=
  keepsWatch_ite (keepsWatch_ite ((keepsWatch_takeReport i _ s).trans (keepsWatch_enterFaulted i _ _))
    (keepsWatch_takeReport i _ s)) (.refl s)

theorem keepsWatch_enterSignOn {i : LineId} {s : State} (h : (s.line i).state.dialling = true) (sp : Fin 8) :
    s.keepsWatch (enterSignOn i sp s) :=
  (keepsWatch_call s i h rfl (by simp)).trans (keepsWatch_kick i _)

theorem keepsWatch_speedMeasuredOn (i : LineId) (ticks : Nat) (s : State) : s.keepsWatch (speedMeasuredOn i ticks s) := by
  unfold speedMeasuredOn
  split
  · next h =>
    unfold measured
    split
    · exact (keepsWatch_keep s i (f := fun l => { l with markWait := true }) rfl rfl rfl).trans
        (keepsWatch_enterSignOn (by rw [State.line_modLine, h.1]; rfl) _)
    · exact keepsWatch_ite (keepsWatch_hangup i s) (keepsWatch_keep s i rfl rfl rfl)
  · exact .refl s

theorem keepsWatch_guardOver (i : LineId) (s : State) : s.keepsWatch (guardOver i s) :=
  keepsWatch_ite ((keepsWatch_keep s i (f := fun l => { l with phaseTimer := none }) rfl rfl rfl).trans
    (keepsWatch_goRest i _)) (.refl s)

theorem keepsWatch_clearFaultOn (i : LineId) (s : State) : s.keepsWatch (clearFaultOn i s) :=
  (keepsWatch_keep s i rfl rfl rfl).trans (keepsWatch_goRest i _)

theorem keepsWatch_leaveTest (i : LineId) (abandoned : Bool) (s : State) : s.keepsWatch (leaveTest i abandoned s) := by
  unfold leaveTest
  split
  · exact .refl s
  · extract_lets s1
    have h1 : s.keepsWatch s1 := keepsWatch_keep s i rfl rfl rfl
    exact keepsWatch_ite
      (keepsWatch_ite (h1.trans (keepsWatch_clearFaultOn i s1)) (h1.trans (keepsWatch_modLine s1 i (LineRec.calm_ended rfl rfl (.inl rfl)))))
      (h1.trans (keepsWatch_goRest i s1))

theorem keepsWatch_endTest (i : LineId) (s : State) : s.keepsWatch (endTest i s) := by
  unfold endTest
  split
  · exact .refl s
  · exact (keepsWatch_leaveTest i false s).trans (keepsWatch_complete _ .t .ok false _)

theorem keepsWatch_lineTestEnded (i : LineId) (s : State) : s.keepsWatch (lineTestEnded i s) :=
  keepsWatch_ite (keepsWatch_endTest i s) (.refl s)

theorem keepsWatch_characterEnded (i : LineId) (s : State) : s.keepsWatch (characterEnded i s) :=
  keepsWatch_ite ((keepsWatch_keep s i (f := fun l => { l with txChar := none }) rfl rfl rfl).trans (keepsWatch_choose i _))
    (.refl s)

/-! ### The sign-on dialog -/

theorem keepsWatch_modSignOn (i : LineId) (f : SignOnPart → SignOnPart) (s : State) : s.keepsWatch (s.modSignOn i f) :=
  keepsWatch_keep s i rfl rfl rfl

theorem keepsWatch_badAttempt (i : LineId) (s : State) : s.keepsWatch (badAttempt i s) :=
  (keepsWatch_modSignOn i _ s).trans (keepsWatch_kick i _)

theorem keepsWatch_refuseCaller (i : LineId) (slot : Nat) (s : State) : s.keepsWatch (refuseCaller i slot s) :=
  (keepsWatch_modSignOn i _ s).trans (keepsWatch_kick i _)

theorem keepsWatch_passEnd (i : LineId) (part : SignOnPart) (s : State) : s.keepsWatch (passEnd i part s) := by
  unfold passEnd
  extract_lets user s1
  have h1 : s.keepsWatch s1 := keepsWatch_modSignOn i _ s
  exact keepsWatch_ite (keepsWatch_badAttempt i s) (h1.trans ((keepsWatch_arbitrate _).ofBeside rfl rfl rfl))

theorem keepsWatch_signOnChar (i : LineId) (data : Byte) (framing : Bool) (s : State) :
    s.keepsWatch (signOnChar i data framing s) := by
  unfold signOnChar
  split
  · exact .refl s
  · refine keepsWatch_ite (.refl s) ?_
    extract_lets c
    split
    · exact (keepsWatch_modSignOn i _ s).trans (keepsWatch_kick i _)
    · exact keepsWatch_ite (keepsWatch_passEnd i _ s) (keepsWatch_modSignOn i _ s)
    · exact .refl s
    · exact .refl s

theorem keepsWatch_signOnOver (i : LineId) (s : State) : s.keepsWatch (signOnOver i s) :=
  keepsWatch_ite (keepsWatch_hangup i s) (.refl s)

end Sys2Proof.Machine
end

section
/-! PROOFS. The law of the watch (R157): enables, RESTART, commands and GO keep it. -/

namespace Sys2Proof.Machine

/-! ### Enables and RESTART's line work -/

theorem keepsWatch_disableLine (i : LineId) (s : State) : s.keepsWatch (disableLine i s) := by
  unfold disableLine
  split
  case h_1 | h_2 | h_3 | h_4 => exact keepsWatch_hangup i s
  case h_5 => exact keepsWatch_closeOutside _ i s
  case h_6 => exact .refl s

theorem keepsWatch_actOnEnables (before after : State) : after.keepsWatch (actOnEnables before after) :=
  (keepsWatch_forLines (fun i s => keepsWatch_ite (keepsWatch_disableLine i s) (.refl s)) after).trans
    (keepsWatch_rejudge _)

theorem LineRec.follows.ringing {e : Bool} {l m : LineRec} (h : l.follows e m) (hm : m.state = .ringing) :
    l.state = .ringing := by
  have hbusy : m.state.resting = false := by rw [hm]; rfl
  by_cases hl : l.state.resting = true
  · rw [h.2.1 hl] at hbusy; contradiction
  · rcases h.2.2 (by simpa using hl) with rfl | ⟨hr, -, -⟩
    · exact hm
    · exact hr

/-- No line begins to ring when lines are disabled. -/
theorem disableLine_ringing {i j : LineId} {s : State} (h : ((disableLine i s).line j).state = .ringing) :
    (s.line j).state = .ringing := by
  by_cases hj : j = i
  · subst hj
    rcases disableLine_cases j s with ⟨-, -, hd⟩ | ⟨-, -, x, l, -, hd, hl, -⟩ | ⟨-, -, hd⟩ <;> rw [hd] at h
    · obtain ⟨hline, -⟩ := hangup_spec j s
      rw [hline] at h; contradiction
    · rw [closedOut_line, hl] at h; contradiction
    · exact h
  · exact (disableLine_others s hj).ringing h

/-- Enables are set and the lines act on them (R7, R8): a line that then stays in IDLE or RINGING is effectively enabled. -/
theorem keepsWatch_enablesSet {s after : State} (hwatch : after.watch.down = s.watch.down)
    (hline : ∀ i, (after.line i).state = (s.line i).state ∧ (after.line i).session = (s.line i).session) :
    s.keepsWatch (actOnEnables s after) := by
  refine ⟨fun i hi => ?_⟩
  obtain ⟨hstate, hsession⟩ := hline i
  cases hd : s.watch.down with
  | true =>
    refine (keepsWatch_actOnEnables s after).keeps i ?_
    obtain ⟨hcall, hcharged⟩ := hi.2 hd
    exact LineRec.watched_of_ended (by rw [hstate]; exact hcall) (by rw [hsession]; exact hcharged)
  | false =>
    have hup : (actOnEnables s after).watch.down = false := by
      have hframe := callFrame_actOnEnables s after
      unfold State.callFrame at hframe
      rw [hframe]
      exact hwatch.trans hd
    rw [State.watchedAt, hup]
    refine LineRec.watched_up.mpr fun hready => ?_
    show (actOnEnables s after).effEnable i = true
    rw [actOnEnables_effEnable]
    by_contra hoff
    have hoff : after.effEnable i = false := by simpa using hoff
    have hrings : ((actOnEnables s after).line i).state = .ringing := by
      refine hready.resolve_left fun hidle => ?_
      rw [actOnEnables_eq, rejudge_line, disableAll_effEnable, hoff, LineRec.rejudge_state] at hidle
      split at hidle
      · contradiction
      · simp_all
    have hafter : (after.line i).state = .ringing :=
      disableAll_induct _ (P := fun u v => (v.line i).state = .ringing → (u.line i).state = .ringing)
        (fun _ h => h) (fun _ _ _ h k hr => h (k hr)) (fun _ _ _ => disableLine_ringing) allLines after
        (LineRec.ringing_of_rejudge (by rw [actOnEnables_eq, rejudge_line] at hrings; exact hrings))
    have hon : s.effEnable i = true := hi.1 (.inr (hstate ▸ hafter))
    rw [(actOnEnables_off s after hon hoff).1 (by rw [hafter]; rfl)] at hrings
    contradiction

theorem keepsWatch_restartLine (i : LineId) (s : State) : s.keepsWatch (restartLine i s) := by
  unfold restartLine
  split
  case h_1 | h_2 | h_3 | h_4 | h_5 | h_6 => exact keepsWatch_enterHangup i s
  case h_7 => exact keepsWatch_leaveTest i true s
  all_goals exact .refl s

theorem keepsWatch_clearTransport (s : State) : s.keepsWatch (clearTransport s) := by
  unfold clearTransport
  extract_lets s1
  have h1 : s.keepsWatch s1 := keepsWatch_mapLines s fun _ => LineRec.calm_beside rfl rfl rfl
  exact h1.beside rfl rfl rfl

theorem keepsWatch_restartLineWork (s : State) : s.keepsWatch (restartLineWork s) := by
  unfold restartLineWork
  extract_lets testing w s1 s2 s3
  have h1 : s.keepsWatch s1 := keepsWatch_up rfl rfl rfl
  have h2 : s.keepsWatch s2 := (h1.trans (keepsWatch_forLines keepsWatch_restartLine s1)).trans (keepsWatch_clearTransport _)
  have h3 : s.keepsWatch s3 := keepsWatch_ite (h2.trans (keepsWatch_refuse s2 _ _)) h2
  exact h3.trans (keepsWatch_rejudge s3)

/-! ### Commands with table work -/

theorem keepsWatch_addResource (user units serial : Nat) (s : State) : s.keepsWatch (addResource user units serial s) :=
  keepsWatch_ite (.refl s) (keepsWatch_mapSessions s fun _ x _ h => by split at h <;> exact h)

theorem keepsWatch_workPostCharge (p : PortId) (user units serial : Nat) (s : State) :
    s.keepsWatch (workPostCharge p user units serial s) := by
  unfold workPostCharge
  split
  · exact keepsWatch_refuse s p _
  · extract_lets s1 s2
    have h1 : s.keepsWatch s1 := (keepsWatch_addResource user units serial _).ofBeside rfl rfl rfl
    have h2 : s.keepsWatch s2 := (keepsWatch_addResource user units serial s).trans (keepsWatch_post user units _)
    exact keepsWatch_ite (keepsWatch_refuse s p _) (keepsWatch_ite
      (keepsWatch_ite (keepsWatch_refuse s p _) (h1.trans (keepsWatch_complete s1 p _ _ _)))
      (h2.trans (keepsWatch_complete s2 p _ _ _)))

theorem keepsWatch_workLogoff (p : PortId) (i : LineId) (serial : Nat) (s : State) :
    s.keepsWatch (workLogoff p i serial s) := by
  unfold workLogoff
  split
  · exact keepsWatch_refuse s p _
  · exact (((keepsWatch_closeDecision .logoff s.clock.stamp i s).trans (keepsWatch_accountWork keepsWatch_post i _)).trans
      (keepsWatch_enterClosing i _)).trans (keepsWatch_complete _ p _ _ _)

theorem keepsWatch_workRestart (p : PortId) (s : State) : s.keepsWatch (workRestart p s) :=
  ((((((keepsWatch_serveCloseWork s).trans (keepsWatch_closeMatching _ _ _)).trans (keepsWatch_restartLineWork _)).trans
    (keepsWatch_complete _ p _ _ _)).trans (keepsWatch_latchA _ _)).trans (keepsWatch_latchT _ _)).trans
    (keepsWatch_startWatchTimer _)

theorem keepsWatch_workSuspend (p : PortId) (user : Nat) (logout : Bool) (s : State) :
    s.keepsWatch (workSuspend p user logout s) := by
  unfold workSuspend
  split
  · exact keepsWatch_refuse s p _
  · extract_lets s1 r
    have h1 : s.keepsWatch s1 := keepsWatch_modAccount s user _
    have hr : s.keepsWatch r.1 := by
      unfold r
      split
      · exact h1.trans (keepsWatch_closeMatching _ _ s1)
      · exact h1
    exact hr.trans (keepsWatch_complete _ p _ _ _)

theorem keepsWatch_workAccountAdd (p : PortId) (user : Nat) (cls : Fin 4) (check limit : Nat) (balance : Int)
    (s : State) :
    s.keepsWatch (workAccountAdd p user cls check limit balance s) :=
  keepsWatch_ite (keepsWatch_refuse s p _) (keepsWatch_ite (keepsWatch_refuse s p _)
    ((keepsWatch_complete _ p _ _ _).ofBeside rfl rfl rfl))

theorem keepsWatch_workAccountSet (p : PortId) (user : Nat) (cls : Fin 4) (check limit : Nat) (s : State) :
    s.keepsWatch (workAccountSet p user cls check limit s) := by
  unfold workAccountSet
  split
  · exact keepsWatch_refuse s p _
  · exact (keepsWatch_modAccount s user _).trans (keepsWatch_complete _ p _ _ _)

theorem keepsWatch_workAccountDelete (p : PortId) (user : Nat) (s : State) : s.keepsWatch (workAccountDelete p user s) := by
  unfold workAccountDelete
  split
  · exact keepsWatch_refuse s p _
  · exact keepsWatch_ite (keepsWatch_refuse s p _) ((keepsWatch_complete _ p _ _ _).ofBeside rfl rfl rfl)

theorem keepsWatch_workCredit (p : PortId) (user amount : Nat) (s : State) : s.keepsWatch (workCredit p user amount s) := by
  unfold workCredit
  split
  · exact keepsWatch_refuse s p _
  · exact (keepsWatch_creditPosting user amount s).trans (keepsWatch_complete _ p _ _ _)

theorem keepsWatch_workDebit (p : PortId) (user amount : Nat) (s : State) : s.keepsWatch (workDebit p user amount s) := by
  unfold workDebit
  split
  · exact keepsWatch_refuse s p _
  · exact (keepsWatch_post user amount s).trans (keepsWatch_complete _ p _ _ _)

theorem keepsWatch_workResume (p : PortId) (user : Nat) (s : State) : s.keepsWatch (workResume p user s) := by
  unfold workResume
  split
  · exact keepsWatch_refuse s p _
  · exact (keepsWatch_modAccount s user _).trans (keepsWatch_complete _ p _ _ _)

theorem keepsWatch_workUnlock (p : PortId) (user : Nat) (s : State) : s.keepsWatch (workUnlock p user s) := by
  unfold workUnlock
  split
  · exact keepsWatch_refuse s p _
  · exact (keepsWatch_modAccount s user _).trans (keepsWatch_complete _ p _ _ _)

theorem keepsWatch_workReadAccount (p : PortId) (user : Nat) (s : State) : s.keepsWatch (workReadAccount p user s) := by
  unfold workReadAccount
  split
  · exact keepsWatch_refuse s p _
  · exact keepsWatch_complete s p _ _ _

theorem keepsWatch_workSweep (p : PortId) (after : Nat) (s : State) : s.keepsWatch (workSweep p after s) := by
  unfold workSweep
  split
  · exact keepsWatch_refuse s p _
  · exact keepsWatch_complete s p _ _ _

theorem keepsWatch_workClosePeriod (p : PortId) (s : State) : s.keepsWatch (workClosePeriod p s) :=
  keepsWatch_ite ((keepsWatch_complete _ p _ _ _).ofBeside rfl rfl rfl) (keepsWatch_refuse s p _)

theorem keepsWatch_workShutdown (p : PortId) (s : State) : s.keepsWatch (workShutdown p s) :=
  (keepsWatch_closeMatching _ _ s).trans (keepsWatch_complete _ p _ _ _)

/-- No access of a command unit opens a session, and a close in it places one mark for the session that it closes. -/
theorem keepsWatch_commandAccess (p : PortId) (c : Instr) (s : State) : s.keepsWatch (commandAccess p c s) := by
  unfold commandAccess
  split
  case h_1 =>
    split
    · exact keepsWatch_workAccountAdd p _ _ _ _ _ s
    · exact keepsWatch_refuse s p _
  case h_2 =>
    split
    · exact keepsWatch_workAccountSet p _ _ _ _ s
    · exact keepsWatch_refuse s p _
  case h_3 => exact keepsWatch_workAccountDelete p _ s
  case h_4 => exact keepsWatch_workCredit p _ _ s
  case h_5 => exact keepsWatch_workDebit p _ _ s
  case h_6 => exact keepsWatch_workSuspend p _ _ s
  case h_7 => exact keepsWatch_workResume p _ s
  case h_8 => exact keepsWatch_workUnlock p _ s
  case h_9 => exact keepsWatch_workReadAccount p _ s
  case h_10 => exact keepsWatch_workSweep p _ s
  case h_11 => exact keepsWatch_workClosePeriod p s
  case h_12 =>
    split
    · exact keepsWatch_workLogoff p _ _ s
    · exact keepsWatch_refuse s p _
  case h_13 => exact keepsWatch_workShutdown p s
  case h_14 => exact keepsWatch_workPostCharge p _ _ _ s
  case h_15 => exact keepsWatch_workRestart p s
  case h_16 => exact .refl s

theorem keepsWatch_serve (p : PortId) (s : State) : s.keepsWatch (serve p s) := by
  unfold serve
  split
  · exact ((keepsWatch_granted _ s).trans (keepsWatch_commandAccess p _ _)).trans (keepsWatch_giveBack _)
  · exact keepsWatch_giveBack s

theorem keepsWatch_serveNext (p : PortId) (s : State) : s.keepsWatch (serveNext p s) :=
  keepsWatch_ite (keepsWatch_serve p s) (.refl s)

theorem keepsWatch_serveGranted (s : State) : s.keepsWatch (serveGranted s) := by
  unfold serveGranted
  split
  · exact keepsWatch_serve _ s
  · exact .refl s

/-! ### GO and whole commands -/

theorem keepsWatch_endOther (q : PortId) (s : State) : s.keepsWatch (endOther q s) := by
  unfold endOther
  split
  · exact keepsWatch_ite
      (((keepsWatch_commandAccess q _ s).trans (keepsWatch_refuse _ q _)).trans (keepsWatch_giveBack _))
      (keepsWatch_refuse s q _)
  · exact keepsWatch_refuse s q _
  · exact .refl s

theorem keepsWatch_restartHold (s : State) : s.keepsWatch (restartHold s) := by
  unfold restartHold
  split
  · exact .refl s
  · exact .refl s
  · exact keepsWatch_beside rfl rfl rfl
  · exact (keepsWatch_latchA s _).trans (keepsWatch_beginRelease _)

theorem keepsWatch_askAccess (p : PortId) (c : Instr) (s : State) : s.keepsWatch (askAccess p c s) :=
  (keepsWatch_modPort s p _).trans (keepsWatch_arbitrate _)

theorem keepsWatch_taken (p : PortId) (s : State) : s.keepsWatch (taken p s) := by
  cases p
  · exact keepsWatch_takenByWatch s
  · exact .refl s

theorem keepsWatch_startCommand (p : PortId) (c : Instr) (s : State) : s.keepsWatch (startCommand p c s) := by
  unfold startCommand
  extract_lets s1
  have h1 : s.keepsWatch s1 := (keepsWatch_modPort s p _).trans (keepsWatch_taken p _)
  have hrestart : s1.keepsWatch (takeRestart p c s1) :=
    ((keepsWatch_endOther p.other s1).trans (keepsWatch_restartHold _)).trans (keepsWatch_askAccess p c _)
  exact h1.trans (keepsWatch_ite (keepsWatch_refuse s1 p _) (keepsWatch_ite hrestart
    (keepsWatch_ite (keepsWatch_ite (keepsWatch_askAccess p c s1) (keepsWatch_refuse s1 p _)) (.refl s1))))

theorem keepsWatch_goAt (p : PortId) (s : State) : s.keepsWatch (goAt p s) := by
  unfold goAt
  refine keepsWatch_ite (.refl s) ?_
  split
  · exact keepsWatch_latchCollision s p
  · exact keepsWatch_latchCollision s p
  · exact keepsWatch_latchCollision s p
  · refine keepsWatch_ite (keepsWatch_modPort s p _) ?_
    split
    · exact keepsWatch_modPort s p _
    · exact keepsWatch_ite (keepsWatch_startCommand p _ s) (keepsWatch_modPort s p _)

theorem keepsWatch_dataWriteAt (p : PortId) (w : Word) (s : State) : s.keepsWatch (dataWriteAt p w s) := by
  unfold dataWriteAt
  extract_lets u
  refine keepsWatch_ite (.refl s) ?_
  split
  · exact keepsWatch_setPort s p _
  · exact keepsWatch_setPort s p _
  · exact keepsWatch_ite (keepsWatch_setPort s p _) (keepsWatch_setPort s p _)
  · exact keepsWatch_latchCollision s p

theorem keepsWatch_dataReadAt (p : PortId) (s : State) : s.keepsWatch (dataReadAt p s) :=
  keepsWatch_ite (keepsWatch_setPort s p _) (keepsWatch_setPort s p _)

theorem keepsWatch_abortBuildAt (p : PortId) (s : State) : s.keepsWatch (abortBuildAt p s) := by
  unfold abortBuildAt
  extract_lets u
  refine keepsWatch_ite (.refl s) ?_
  split
  · exact .refl s
  · exact keepsWatch_setPort s p _
  · exact keepsWatch_latchCollision s p
  · exact keepsWatch_setPort s p _

theorem keepsWatch_rereadAt (p : PortId) (s : State) : s.keepsWatch (rereadAt p s) := by
  unfold rereadAt
  extract_lets u
  refine keepsWatch_ite (.refl s) ?_
  split
  · exact .refl s
  · exact .refl s
  · exact keepsWatch_latchCollision s p
  · exact keepsWatch_setPort s p _

theorem keepsWatch_requestAt (p : PortId) (r : Option ControlRequest) (s : State) : s.keepsWatch (requestAt p r s) := by
  unfold requestAt
  split
  · exact keepsWatch_goAt p s
  · exact keepsWatch_abortBuildAt p s
  · exact keepsWatch_rereadAt p s
  · exact keepsWatch_ite (.refl s) (keepsWatch_latchCollision s p)

theorem keepsWatch_latchLevels (p : PortId) (s : State) : s.keepsWatch (latchLevels p s) := by
  unfold latchLevels
  exact keepsWatch_modPort s p _

theorem keepsWatch_attentionWrite (p : PortId) (w : Word) (s : State) : s.keepsWatch (attentionWrite p w s) :=
  (keepsWatch_modPort s p _).trans (keepsWatch_latchLevels p _)

/-- A command given at a port, by what its work does to the load. -/
theorem keepsWatch_give (p : PortId) (c : Instr) {work : State → State} (hw : ∀ s : State, s.keepsWatch (work s))
    (s : State) : s.keepsWatch (give p c work s) := by
  unfold give
  extract_lets s1
  have h1 : s.keepsWatch s1 :=
    ((keepsWatch_abortBuildAt p s).trans (keepsWatch_fold (fun s w => keepsWatch_dataWriteAt p w s) _ _)).trans
      (keepsWatch_goAt p _)
  exact keepsWatch_ite (.refl s) (keepsWatch_ite (keepsWatch_ite (hw s) (keepsWatch_latchCollision s p))
    (keepsWatch_ite (h1.trans (hw s1)) h1))

/-! ### Commands with no table work -/

/-- GROUP SET keeps the enable of its group. -/
theorem settings_enable (g : GroupRec) (rc cw sl lc ss rf ie : Word) : (g.settings rc cw sl lc ss rf ie).enable = g.enable :=
  rfl

/-- A setting of group k that keeps its enable. -/
theorem keepsWatch_setGroup (s : State) (k : Fin 4) (g : GroupRec) (h : g.enable = (s.group k).enable) :
    s.keepsWatch { s with groups := s.groups.set k g } := by
  refine ⟨fun i hi => ?_⟩
  have henable : ({ s with groups := s.groups.set k g }.lineGroup i).enable = (s.lineGroup i).enable := by
    show ((s.groups.set k g).get _).enable = _
    rw [Bank.get_set]
    split
    · next he => rw [h, he]; rfl
    · rfl
  rw [State.watchedAt, henable]
  exact hi

theorem keepsWatch_workGroupSet (p : PortId) (g rc cw sl lc ss rf ie : Word) (s : State) :
    s.keepsWatch (workGroupSet p g rc cw sl lc ss rf ie s) := by
  unfold workGroupSet
  split
  · exact keepsWatch_ite ((keepsWatch_setGroup s _ _ (settings_enable _ rc cw sl lc ss rf ie)).trans
      (keepsWatch_complete _ p _ _ _)) (keepsWatch_refuse s p _)
  · exact keepsWatch_refuse s p _

theorem keepsWatch_workLineEnable (p : PortId) (line on : Word) (s : State) :
    s.keepsWatch (workLineEnable p line on s) := by
  unfold workLineEnable
  split
  · next i b _ _ =>
    have hset : s.keepsWatch (actOnEnables s (s.modLine i fun l => { l with enable := b })) := by
      refine keepsWatch_enablesSet rfl fun j => ?_
      by_cases hj : i = j
      · subst hj; rw [State.line_modLine]; exact ⟨rfl, rfl⟩
      · rw [State.line_modLine_ne _ _ hj]; exact ⟨rfl, rfl⟩
    exact hset.trans (keepsWatch_complete _ p _ _ _)
  · exact keepsWatch_refuse s p _

theorem keepsWatch_workGroupEnable (p : PortId) (group on : Word) (s : State) :
    s.keepsWatch (workGroupEnable p group on s) := by
  unfold workGroupEnable
  split
  · next g b _ _ =>
    have hset : s.keepsWatch (actOnEnables s { s with groups := s.groups.set g { s.group g with enable := b } }) :=
      keepsWatch_enablesSet rfl fun _ => ⟨rfl, rfl⟩
    exact hset.trans (keepsWatch_complete _ p _ _ _)
  · exact keepsWatch_refuse s p _

theorem keepsWatch_workClearFault (p : PortId) (line : Word) (s : State) : s.keepsWatch (workClearFault p line s) := by
  unfold workClearFault
  split
  · exact keepsWatch_ite ((keepsWatch_clearFaultOn _ s).trans (keepsWatch_complete _ p _ _ _)) (keepsWatch_refuse s p _)
  · exact keepsWatch_refuse s p _

theorem keepsWatch_workLineTest (p : PortId) (line speed : Word) (s : State) :
    s.keepsWatch (workLineTest p line speed s) := by
  unfold workLineTest
  split
  · next i sp _ _ =>
    extract_lets s1
    have h1 : s.keepsWatch s1 :=
      ((keepsWatch_modPort s p _).trans (keepsWatch_modLine _ i (LineRec.calm_ended rfl rfl (.inl rfl)))).trans
        (keepsWatch_choose i _)
    exact keepsWatch_ite (keepsWatch_ite (h1.trans (keepsWatch_endTest i s1)) h1) (keepsWatch_refuse s p _)
  · exact keepsWatch_refuse s p _

theorem keepsWatch_workReadLine (p : PortId) (line : Word) (s : State) : s.keepsWatch (workReadLine p line s) := by
  unfold workReadLine
  split
  · exact keepsWatch_complete s p _ _ _
  · exact keepsWatch_refuse s p _

/-- TAKE INPUT leaves the queue no longer than it was (R35). -/
theorem keepsWatch_workTakeInput (p : PortId) (maximum : Word) (s : State) : s.keepsWatch (workTakeInput p maximum s) := by
  unfold workTakeInput
  extract_lets out s1 s2
  have h1 : s.keepsWatch s1 := keepsWatch_beside rfl rfl rfl
  have hask : s1.keepsWatch (arbitrate (clearWaiting s1)) := (keepsWatch_arbitrate _).ofBeside rfl rfl rfl
  have h2 : s.keepsWatch s2 := keepsWatch_ite h1 (h1.trans hask)
  exact keepsWatch_ite (h2.trans (keepsWatch_complete s2 p _ _ _)) (keepsWatch_refuse s p _)

theorem keepsWatch_appendOutput (i : LineId) (chars : List Byte) (s : State) : s.keepsWatch (appendOutput i chars s) :=
  (keepsWatch_keep s i rfl rfl rfl).trans (keepsWatch_kick i _)

theorem keepsWatch_workSend (p : PortId) (line serial count : Word) (chars : List Byte) (s : State) :
    s.keepsWatch (workSend p line serial count chars s) := by
  unfold workSend
  split
  · exact keepsWatch_ite (keepsWatch_ite ((keepsWatch_appendOutput _ chars s).trans (keepsWatch_complete _ p _ _ _))
      (keepsWatch_refuse s p _)) (keepsWatch_refuse s p _)
  · exact keepsWatch_refuse s p _

theorem keepsWatch_workReadSpace (p : PortId) (s : State) : s.keepsWatch (workReadSpace p s) :=
  (keepsWatch_mapLines s (f := fun _ l => { l with inSpaceSet := false }) fun _ => LineRec.calm_beside rfl rfl rfl).trans
    (keepsWatch_complete _ p _ _ _)

theorem keepsWatch_acceptMessage (p : PortId) (k : Fin 16) (final : Bool) (text : List Byte) (s : State) :
    s.keepsWatch (acceptMessage p k final text s) :=
  keepsWatch_ite ((keepsWatch_complete _ p _ _ _).ofBeside rfl rfl rfl) ((keepsWatch_complete _ p _ _ _).ofBeside rfl rfl rfl)

theorem keepsWatch_workWriteMessage (p : PortId) (slot : Byte) (final : Bool) (offset count : Word) (chars : List Byte)
    (s : State) : s.keepsWatch (workWriteMessage p slot final offset count chars s) := by
  unfold workWriteMessage
  split
  · exact keepsWatch_ite (keepsWatch_ite (keepsWatch_acceptMessage p _ final _ s)
      (keepsWatch_ite (keepsWatch_acceptMessage p _ final _ s) ((keepsWatch_refuse _ p _).ofBeside rfl rfl rfl)))
      (keepsWatch_refuse s p _)
  · exact keepsWatch_refuse s p _

theorem keepsWatch_workHoldRequest (p : PortId) (limit : Word) (s : State) : s.keepsWatch (workHoldRequest p limit s) :=
  keepsWatch_ite (keepsWatch_ite ((keepsWatch_complete _ p _ _ _).ofBeside rfl rfl rfl) (keepsWatch_refuse s p _))
    (keepsWatch_refuse s p _)

theorem keepsWatch_workHoldRelease (p : PortId) (s : State) : s.keepsWatch (workHoldRelease p s) :=
  keepsWatch_ite ((keepsWatch_beginRelease s).trans (keepsWatch_complete _ p _ _ _)) (keepsWatch_refuse s p _)

theorem keepsWatch_loadClock (v : Calendar) (s : State) : s.keepsWatch (loadClock v s) := by
  refine State.keepsWatch.trans ?_ (keepsWatch_rejudge _)
  refine State.keepsWatch.ofBeside (t := { s with clock := v, clockInvalid := false }) ?_ rfl rfl rfl
  exact keepsWatch_mapSessions _ fun _ x _ h => by split at h <;> exact h

theorem keepsWatch_workSetClock (p : PortId) (v : Calendar) (s : State) : s.keepsWatch (workSetClock p v s) :=
  keepsWatch_ite ((keepsWatch_loadClock v s).trans (keepsWatch_complete _ p _ _ _)) (keepsWatch_refuse s p _)

theorem keepsWatch_acceptBands (p : PortId) (sc : Schedule) (final : Bool) (bands : List Band) (s : State) :
    s.keepsWatch (acceptBands p sc final bands s) := by
  have hclear : ∀ u : State, u.keepsWatch (clearTariffStaging u) := fun _ => keepsWatch_beside rfl rfl rfl
  exact keepsWatch_ite ((keepsWatch_complete _ p _ _ _).ofBeside rfl rfl rfl)
    (keepsWatch_ite (((keepsWatch_takeInstall _ s).trans (hclear _)).trans (keepsWatch_complete _ p _ _ _))
      ((hclear s).trans (keepsWatch_refuse _ p _)))

theorem keepsWatch_workTariffWrite (p : PortId) (schedule first final count : Word) (words : List Word) (s : State) :
    s.keepsWatch (workTariffWrite p schedule first final count words s) := by
  unfold workTariffWrite
  split
  · exact keepsWatch_ite (keepsWatch_ite (keepsWatch_acceptBands p _ _ _ s) (keepsWatch_ite (keepsWatch_acceptBands p _ _ _ s)
      ((keepsWatch_refuse _ p _).ofBeside rfl rfl rfl))) (keepsWatch_refuse s p _)
  · exact keepsWatch_refuse s p _

theorem keepsWatch_workDayMapWrite (p : PortId) (d1 d2 d3 d4 d5 d6 d7 : Word) (s : State) :
    s.keepsWatch (workDayMapWrite p d1 d2 d3 d4 d5 d6 d7 s) := by
  unfold workDayMapWrite
  split
  · exact (keepsWatch_takeInstall _ s).trans (keepsWatch_complete _ p _ _ _)
  · exact keepsWatch_refuse s p _

theorem keepsWatch_workClassWrite (p : PortId) (cls : Word) (record : Option ClassRec) (s : State) :
    s.keepsWatch (workClassWrite p cls record s) := by
  unfold workClassWrite
  split
  · exact (keepsWatch_takeInstall _ s).trans (keepsWatch_complete _ p _ _ _)
  · exact keepsWatch_refuse s p _

theorem keepsWatch_workReadSession (p : PortId) (line : Word) (s : State) : s.keepsWatch (workReadSession p line s) := by
  unfold workReadSession
  split
  · split
    · exact keepsWatch_complete s p _ _ _
    · exact keepsWatch_refuse s p _
  · exact keepsWatch_refuse s p _

theorem keepsWatch_workSetWatch (p : PortId) (window limit : Word) (s : State) :
    s.keepsWatch (workSetWatch p window limit s) :=
  keepsWatch_ite ((keepsWatch_complete _ p _ _ _).ofBeside rfl rfl rfl) (keepsWatch_refuse s p _)

theorem keepsWatch_workAdmission (p : PortId) (vote : Word) (s : State) : s.keepsWatch (workAdmission p vote s) := by
  unfold workAdmission
  split
  · exact ((keepsWatch_modPort s p _).trans (keepsWatch_rejudge _)).trans (keepsWatch_complete _ p _ _ _)
  · exact keepsWatch_refuse s p _

theorem keepsWatch_workPeekBilling (p : PortId) (s : State) : s.keepsWatch (workPeekBilling p s) := by
  unfold workPeekBilling
  split
  · exact keepsWatch_complete s p _ _ _
  · exact keepsWatch_complete s p _ _ _

theorem keepsWatch_workReleaseBilling (p : PortId) (sequence : Word) (s : State) :
    s.keepsWatch (workReleaseBilling p sequence s) := by
  unfold workReleaseBilling
  refine keepsWatch_ite ?_ (keepsWatch_refuse s p _)
  split
  · exact keepsWatch_refuse s p _
  · exact keepsWatch_ite (((keepsWatch_rejudge _).trans (keepsWatch_complete _ p _ _ _)).ofBeside rfl rfl rfl)
      (keepsWatch_complete s p _ _ _)

end Sys2Proof.Machine
end

section
/-! PROOFS. The law of the watch (R157): characters, the verdict and the power events keep it, and so does the step. -/

namespace Sys2Proof.Machine

/-! ### Characters and breaks -/

theorem keepsWatch_setOverrun (i : LineId) (s : State) : s.keepsWatch (setOverrun i s) := keepsWatch_keep s i rfl rfl rfl

theorem keepsWatch_offerChar (i : LineId) (c : Byte) (framing : Bool) (s : State) :
    s.keepsWatch (offerChar i c framing s) :=
  keepsWatch_ite ((keepsWatch_placeInput _ s).trans (keepsWatch_keep _ i rfl rfl rfl)) (keepsWatch_setOverrun i s)

theorem keepsWatch_offerBreak (i : LineId) (s : State) : s.keepsWatch (offerBreak i s) :=
  keepsWatch_ite (keepsWatch_placeInput _ s) (keepsWatch_setOverrun i s)

theorem keepsWatch_receive (i : LineId) (data : Byte) (framing : Bool) (s : State) :
    s.keepsWatch (receive i data framing s) := by
  have hoffer := (keepsWatch_idleEvent i s).trans (keepsWatch_offerChar i data framing _)
  unfold receive
  split
  · exact keepsWatch_ite (.refl s) (keepsWatch_signOnChar i data framing s)
  · split
    · exact hoffer
    · exact hoffer
    · exact keepsWatch_setOverrun i s
    · exact .refl s
  · exact keepsWatch_keep s i rfl rfl rfl
  · exact .refl s

theorem keepsWatch_receiveBreak (i : LineId) (s : State) : s.keepsWatch (receiveBreak i s) := by
  have hoffer := (keepsWatch_idleEvent i s).trans (keepsWatch_offerBreak i _)
  unfold receiveBreak
  split
  · split
    · exact hoffer
    · exact hoffer
    · exact keepsWatch_setOverrun i s
    · exact .refl s
  · exact .refl s

/-! ### The verdict -/

/-- A caller in SIGNON is met only while the watch is UP, and its line goes to SESSION (R65). -/
theorem keepsWatch_openSessionOn {i : LineId} {s : State} (hs : (s.line i).state = .signOn)
    (hn : (s.line i).session = none) (part : SignOnPart) (a : Account) : s.keepsWatch (openSessionOn i part a s) := by
  unfold openSessionOn
  extract_lets setup s1 s2 serial s3 x s4 s5
  have h3 : s.keepsWatch s3 := (((keepsWatch_modAccount s _ _).trans (keepsWatch_post _ _ _)).trans
    (keepsWatch_leaveCheckQueue i _)).beside rfl rfl rfl
  have hstands : s3.line i = s.line i := keepsCaller_post (i := i) a.user setup s1 hs hn
  have h4 : s.keepsWatch s4 := h3.trans (keepsWatch_call s3 i (by rw [hstands, hs]; rfl) rfl (by simp))
  exact ((h4.trans (keepsWatch_placeInput _ s4)).trans (keepsWatch_kick i s5)).trans (keepsWatch_fundsWarning _ _ _)

theorem keepsWatch_judgeActive {i : LineId} {s : State} (hs : (s.line i).state = .signOn)
    (hn : (s.line i).session = none) (part : SignOnPart) (a : Account) : s.keepsWatch (judgeActive i part a s) := by
  unfold judgeActive
  split
  · exact (keepsWatch_leaveCheckQueue i s).trans (keepsWatch_refuseCaller i _ _)
  · exact keepsWatch_ite (keepsWatch_openSessionOn hs hn part a) (keepsWatch_beside rfl rfl rfl)

theorem keepsWatch_wrongCheckWord (a : Account) (s : State) : s.keepsWatch (wrongCheckWord a s) :=
  keepsWatch_ite (keepsWatch_ite ((keepsWatch_modAccount s _ _).trans (keepsWatch_latchA _ _))
    (keepsWatch_modAccount s _ _)) (.refl s)

theorem keepsWatch_verdictFor {i : LineId} {s : State} (hl : (s.line i).shaped) : s.keepsWatch (verdictFor i s) := by
  have hrefuse := (keepsWatch_leaveCheckQueue i s).trans (keepsWatch_refuseCaller i 4 _)
  unfold verdictFor
  split
  · exact keepsWatch_leaveCheckQueue i s
  · next part hpart =>
    obtain ⟨hsignOn, -, hcall, -, -⟩ := hl
    have hs : (s.line i).state = .signOn := hsignOn.mp (by rw [hpart]; rfl)
    have hn : (s.line i).session = none := by
      rw [← Option.not_isSome_iff_eq_none]
      intro h
      rcases hcall h with h | h <;> rw [h] at hs <;> contradiction
    split
    · exact (keepsWatch_leaveCheckQueue i s).trans (keepsWatch_badAttempt i _)
    · next a _ =>
      refine keepsWatch_ite (((keepsWatch_wrongCheckWord a s).trans (keepsWatch_leaveCheckQueue i _)).trans
        (keepsWatch_badAttempt i _)) ?_
      split
      · exact keepsWatch_judgeActive hs hn part a
      · exact hrefuse
      · exact keepsWatch_ite ((keepsWatch_modAccount s _ _).trans
          (keepsWatch_judgeActive (s := s.modAccount a.user Account.unlocked) hs hn part _)) hrefuse

theorem keepsWatch_verdictGranted {s : State} (hl : ∀ i, (s.line i).shaped) : s.keepsWatch (verdictGranted s) := by
  have haccess : (granted .checker s).keepsWatch (verdictAccess (granted .checker s)) := by
    unfold verdictAccess
    split
    · exact .refl _
    · exact keepsWatch_verdictFor (by rw [granted_line]; exact hl _)
  exact keepsWatch_ite (((keepsWatch_granted .checker s).trans haccess).trans (keepsWatch_giveBack _)) (.refl s)

/-! ### Power events (R162, R163) -/

theorem watchLaw_operatingReset (s : State) (power : Bool) :
    ({ operatingReset s with mainPower := power } : State).watchLaw := by
  refine (State.watchLaw_iff _).mpr fun i => LineRec.watched_up.mpr fun h => ?_
  have hline : ({ operatingReset s with mainPower := power } : State).line i =
      { LineRec.initial with session := s.session i } := Bank.get_ofFn _ i
  rw [hline] at h
  rcases h with h | h <;> contradiction

theorem keepsWatch_sweepPost (user u : Nat) (s : State) : s.keepsWatch (sweepPost user u s) :=
  keepsWatch_ite (.refl s) (keepsWatch_modAccount s _ _)

theorem keepsWatch_sweepWork (i : LineId) (x : Session) (s : State) : s.keepsWatch (sweepWork i x s) := by
  unfold sweepWork
  extract_lets s1 up cu s2
  have h1 : s.keepsWatch s1 := keepsWatch_sweepPost _ _ s
  have hcu : s.keepsWatch cu.2 := by
    unfold cu
    split
    · exact h1.trans (keepsWatch_addStated _ _ _ s1)
    · exact h1
  have h2 : s.keepsWatch s2 := keepsWatch_ite (hcu.trans (keepsWatch_modAccount _ _ _)) hcu
  exact (h2.trans (keepsWatch_writeRecord _ s2)).trans (keepsWatch_modAccount _ _ _)

theorem keepsWatch_sweepSeconds (x : Session) (s : State) : s.keepsWatch (sweepSeconds x s) :=
  keepsWatch_ite (keepsWatch_beside rfl rfl rfl) (.refl s)

theorem keepsWatch_sweepLine (i : LineId) (s : State) : s.keepsWatch (sweepLine i s) := by
  unfold sweepLine
  split
  · exact .refl s
  · next x _ =>
    extract_lets s1
    have h1 : s.keepsWatch s1 :=
      keepsWatch_ite (keepsWatch_sweepWork i _ s) (keepsWatch_ite (keepsWatch_sweepWork i x s) (.refl s))
    exact (h1.trans (keepsWatch_sweepSeconds x s1)).trans
      (keepsWatch_modLine _ i ⟨rfl, .inl rfl, fun y hy => by contradiction⟩)

theorem keepsWatch_sweepDeferred (s : State) : s.keepsWatch (sweepDeferred s) :=
  (keepsWatch_fold (fun s (e : Deferred) => keepsWatch_modAccount s e.user _) s.deferred s).beside rfl rfl rfl

theorem keepsWatch_sweep (s : State) : s.keepsWatch (sweep s) := by
  unfold sweep
  extract_lets s1
  have h1 : s.keepsWatch s1 :=
    ((keepsWatch_sweepDeferred s).trans (keepsWatch_forLines keepsWatch_sweepLine _)).trans (keepsWatch_payDueList _)
  clear_value s1
  exact h1.beside rfl rfl rfl

theorem watchLaw_powerUp (s : State) : (powerUp s).watchLaw := by
  have hend : ∀ u : State, u.keepsWatch (endSweep u) := fun u =>
    ((keepsWatch_latchLevels .t _).trans (keepsWatch_latchLevels .a _)).ofBeside rfl rfl rfl
  exact ((keepsWatch_sweep _).trans (hend _)).watchLaw (watchLaw_operatingReset _ true)

theorem watchLaw_reset {pending : List Instr} {n : Nat} :
    ({ State.reset with pending := pending, freeIndex := n } : State).watchLaw := by
  refine (State.watchLaw_iff _).mpr fun i => LineRec.watched_up.mpr fun h => ?_
  replace h : (State.reset.line i).state = .idle ∨ (State.reset.line i).state = .ringing := h
  rw [reset_line] at h
  rcases h with h | h <;> contradiction

/-! ### The step -/

theorem watchLaw_next {u t : State} (hu : u.watchLaw) (ht : (.next u : Host.Outcome State Fault Refusal) = .next t) :
    t.watchLaw := Host.Outcome.next.inj ht ▸ hu

/-- A row whose operation keeps the law with main power on, taken by the powered part. -/
theorem watchLaw_powered {f : State → State} {s t : State} (hf : s.mainPower = true → (f s).watchLaw) (hs : s.watchLaw)
    (ht : (.next (whenPowered s f) : Host.Outcome State Fault Refusal) = .next t) : t.watchLaw := by
  refine watchLaw_next ?_ ht
  unfold whenPowered
  split
  · next hpower => exact hf hpower
  · exact hs

/-- A row whose operation keeps the law on each line. -/
theorem watchLaw_row {f : State → State} {s t : State} (hf : s.keepsWatch (f s)) (hs : s.watchLaw)
    (ht : (.next (whenPowered s f) : Host.Outcome State Fault Refusal) = .next t) : t.watchLaw :=
  watchLaw_powered (fun _ => hf.watchLaw hs) hs ht

/-- A command row, by what its work does to the law. -/
theorem watchLaw_command {p : PortId} {c : Instr} {work : State → State} {s t : State}
    (hw : ∀ s : State, s.keepsWatch (work s)) (hs : s.watchLaw)
    (ht : (.next (whenPowered s (give p c work)) : Host.Outcome State Fault Refusal) = .next t) : t.watchLaw :=
  watchLaw_row (keepsWatch_give p c hw s) hs ht

/-- Each row keeps the law: the verdict because a caller in SIGNON is met only while the watch is UP, the power events
because they leave every line DISABLED and the watch UP, and every other row line by line. -/
theorem watchLaw_exec {c : Instr} {s t : State} (hline : s.lineLaw) (hs : s.watchLaw) (ht : exec c s = .next t) : t.watchLaw := by
  cases c with
  | dataWrite p w => exact watchLaw_row (keepsWatch_dataWriteAt p w s) hs ht
  | dataRead p => exact watchLaw_row (keepsWatch_dataReadAt p s) hs ht
  | go p => exact watchLaw_row (keepsWatch_requestAt p _ s) hs ht
  | abortBuild p => exact watchLaw_row (keepsWatch_requestAt p _ s) hs ht
  | reread p => exact watchLaw_row (keepsWatch_requestAt p _ s) hs ht
  | controlWriteNoRequest p w => exact watchLaw_row (f := controlWriteAt p w) (keepsWatch_requestAt p _ s) hs ht
  | attentionWrite p w => exact watchLaw_row (keepsWatch_attentionWrite p w s) hs ht
  | maskWrite p w => exact watchLaw_row (f := maskWrite p w) (keepsWatch_modPort s p _) hs ht
  | groupSet p g rc cw sl lc ss rf ie => exact watchLaw_command (keepsWatch_workGroupSet p g rc cw sl lc ss rf ie) hs ht
  | lineEnable p line on => exact watchLaw_command (keepsWatch_workLineEnable p line on) hs ht
  | groupEnable p group on => exact watchLaw_command (keepsWatch_workGroupEnable p group on) hs ht
  | clearFault p line => exact watchLaw_command (keepsWatch_workClearFault p line) hs ht
  | lineTest p line speed => exact watchLaw_command (keepsWatch_workLineTest p line speed) hs ht
  | readLine p line => exact watchLaw_command (keepsWatch_workReadLine p line) hs ht
  | takeInput p maximum => exact watchLaw_command (keepsWatch_workTakeInput p maximum) hs ht
  | send p line serial count chars => exact watchLaw_command (keepsWatch_workSend p line serial count chars) hs ht
  | readSpace p => exact watchLaw_command (keepsWatch_workReadSpace p) hs ht
  | writeMessage p slot final offset count chars =>
    exact watchLaw_command (keepsWatch_workWriteMessage p slot final offset count chars) hs ht
  | setClock p y mo d h mi se wd => exact watchLaw_command (keepsWatch_workSetClock p _) hs ht
  | readClock p => exact watchLaw_command (fun s => keepsWatch_complete s p .ok false _) hs ht
  | tariffWrite p sc fb fi n ws => exact watchLaw_command (keepsWatch_workTariffWrite p sc fb fi n ws) hs ht
  | dayMapWrite p d1 d2 d3 d4 d5 d6 d7 =>
    exact watchLaw_command (keepsWatch_workDayMapWrite p d1 d2 d3 d4 d5 d6 d7) hs ht
  | classWrite p k su fl wa gr iw il ro fa lo => exact watchLaw_command (keepsWatch_workClassWrite p k _) hs ht
  | holdRequest p limit => exact watchLaw_command (keepsWatch_workHoldRequest p limit) hs ht
  | holdRelease p => exact watchLaw_command (keepsWatch_workHoldRelease p) hs ht
  | holdStatus p => exact watchLaw_command (fun s => keepsWatch_complete s p .ok false _) hs ht
  | readSession p line => exact watchLaw_command (keepsWatch_workReadSession p line) hs ht
  | setWatch p window limit => exact watchLaw_command (keepsWatch_workSetWatch p window limit) hs ht
  | watchStatus p => exact watchLaw_command (fun s => keepsWatch_complete s p .ok false _) hs ht
  | admission p vote => exact watchLaw_command (keepsWatch_workAdmission p vote) hs ht
  | peekBilling p => exact watchLaw_command (keepsWatch_workPeekBilling p) hs ht
  | releaseBilling p sequence => exact watchLaw_command (keepsWatch_workReleaseBilling p sequence) hs ht
  | commandTableAccess => exact watchLaw_row (keepsWatch_serveGranted s) hs ht
  | qualifiedRing i => exact watchLaw_row (keepsWatch_qualifiedRingOn i s) hs ht
  | ringGapExpiry i => exact watchLaw_row (keepsWatch_ringGapOver i s) hs ht
  | carrierPresent i => exact watchLaw_row (keepsWatch_carrierPresentOn i s) hs ht
  | carrierWaitExpiry i => exact watchLaw_row (keepsWatch_phaseOver _ i s) hs ht
  | carrierLoss i => exact watchLaw_row (keepsWatch_carrierLossOn i s) hs ht
  | speedMeasurement i m => exact watchLaw_row (keepsWatch_speedMeasuredOn i m s) hs ht
  | speedMarkWaitEnd i => exact watchLaw_row (f := markSeen i) (keepsWatch_keep s i rfl rfl rfl) hs ht
  | speedWaitExpiry i => exact watchLaw_row (keepsWatch_phaseOver _ i s) hs ht
  | hangupGuardExpiry i => exact watchLaw_row (keepsWatch_guardOver i s) hs ht
  | stuckCarrier i => exact watchLaw_row (keepsWatch_stuckCarrierOn i s) hs ht
  | ringStuck i => exact watchLaw_row (keepsWatch_ringStuckOn i s) hs ht
  | lineTestEnd i => exact watchLaw_row (keepsWatch_lineTestEnded i s) hs ht
  | characterReceived i d stop => exact watchLaw_row (keepsWatch_receive i d (!stop) s) hs ht
  | breakReceived i => exact watchLaw_row (keepsWatch_receiveBreak i s) hs ht
  | characterSent i => exact watchLaw_row (keepsWatch_characterEnded i s) hs ht
  | signOnTimerExpiry i => exact watchLaw_row (keepsWatch_signOnOver i s) hs ht
  | verdict =>
    exact watchLaw_powered (fun hpower => (keepsWatch_verdictGranted (hline hpower)).watchLaw hs) hs ht
  | clockAdvance => exact watchLaw_next ((keepsWatch_clockTick s).watchLaw hs) ht
  | rememberedTickPass => exact watchLaw_row (keepsWatch_passOn s) hs ht
  | meteringPassAccess => exact watchLaw_row (f := fun s => (passStep s).1) (keepsWatch_passStep s) hs ht
  | graceTimerExpiry i => exact watchLaw_row (keepsWatch_passStepOn i _ s) hs ht
  | idleLimit i => exact watchLaw_row (keepsWatch_passStepOn i _ s) hs ht
  | idleWarnThreshold i => exact watchLaw_row (keepsWatch_passStepOn i _ s) hs ht
  | closeAccountWork => exact watchLaw_row (keepsWatch_closeWorkGranted s) hs ht
  | holdGrant => exact watchLaw_row (keepsWatch_holdGrantOn s) hs ht
  | holdLimitExpiry => exact watchLaw_row (keepsWatch_holdLimitOver s) hs ht
  | releasePosting => exact watchLaw_row (keepsWatch_releasePostingOn s) hs ht
  | secondsDueAccess => exact watchLaw_row (keepsWatch_secondsDueOn s) hs ht
  | watchTimerExpiry => exact watchLaw_row (keepsWatch_watchTimerOver s) hs ht
  | holdDownExpiry => exact watchLaw_row (keepsWatch_holdDownExpired s) hs ht
  | scan ring carrier => exact watchLaw_row (keepsWatch_scanAll ring carrier s) hs ht
  | mainPowerFailure => exact watchLaw_next (watchLaw_operatingReset _ false) ht
  | mainPowerUp => exact watchLaw_next (watchLaw_powerUp s) ht
  | reset => exact watchLaw_powered (fun _ => watchLaw_powerUp s) hs ht
  | retainedPowerUp => exact watchLaw_next watchLaw_reset ht
  -- what is left is the commands with table work, which their port's access makes
  | _ => exact watchLaw_command (keepsWatch_serveNext _) hs ht

/-- Settles O60: every row keeps the law, and the step runs the row at the front of its queue. -/
theorem everyStepKeepsTheWatchLaw : Obligations.EveryStepKeepsTheWatchLaw := by
  intro s t hline hs ht
  unfold step at ht
  split at ht
  · cases ht; exact hs
  · next c rest _ =>
    have hrest : ({ s with pending := rest } : State).watchLaw := hs
    have hlines : ({ s with pending := rest } : State).lineLaw := hline
    exact watchLaw_exec hlines hrest ht

end Sys2Proof.Machine
end

section
/-! PROOFS. The watch goes DOWN, and the hold-down limit passes (R18, R151, R155, R157, R160). -/

namespace Sys2Proof.Machine

/-! ### The watch goes DOWN (R18, R157) -/

/-- The lines once the watch has gone DOWN: all have acted on it, and it is line work. -/
theorem downed_lines (s : State) :
    ((rejudge s.downed).forLines lineDown).settled ∧ s.downed.lineFrame ((rejudge s.downed).forLines lineDown) := by
  obtain ⟨⟨hsettled, hframe⟩, -⟩ :=
    (lineDown_lineByLine (rejudge s.downed)).fold allLines ⟨settled_downed s, .refl _⟩
  exact ⟨hsettled, (lineFrame_rejudge _).trans hframe⟩

theorem watchDown_latched (s : State) :
    watchDown s = arbitrate (latchA .systemDown ((rejudge s.downed).forLines lineDown)) := by
  rw [watchDown_eq, (downed_lines s).1.rejudge_eq]

theorem watchDown_line (s : State) (i : LineId) :
    (watchDown s).line i = ((rejudge s.downed).forLines lineDown).line i := by
  rw [watchDown_latched, arbitrate_line, latchA, State.modPort_line]

theorem lineDown_checkQueue (i : LineId) (s : State) : ∀ e ∈ (lineDown i s).checkQueue, e ∈ s.checkQueue := by
  intro e he
  rcases lineDown_cases i s with ⟨-, h⟩ | ⟨-, h⟩ | ⟨-, -, -, h⟩ <;> rw [h] at he
  · obtain ⟨-, -, hqueue, -⟩ := hangup_spec i s
    rw [hqueue] at he
    exact (List.mem_filter.mp he).1
  · have hleft := (sendsOn_kick i _).checks e he
    exact (List.mem_filter.mp hleft).1
  · exact he

/-- A line in SIGNON with a character in progress: the character goes on, and slot 8 follows it (R18, R45, R68). -/
theorem signOnDown_busy {i : LineId} {s : State} (h : (s.line i).txChar ≠ none) :
    signOnDown i s = (quitCheckQueue i s).setLine i { (s.line i).signOnDown with state := .closing } := by
  have hbusy : (((quitCheckQueue i s).modLine i LineRec.signOnDown).line i).txChar ≠ none := by
    rw [State.line_modLine]; exact h
  rw [signOnDown_eq, enterClosing_busy hbusy, State.line_modLine, State.modLine_eq, State.setLine_setLine]
  rfl

theorem watchDown_frame (s : State) :
    (watchDown s).watch = s.downed.watch ∧ (watchDown s).aPort = s.aPort.latch ACause.systemDown.bit ∧
      (watchDown s).input = s.input ∧ (watchDown s).accounts = s.accounts ∧
      (watchDown s).billing.records = s.billing.records := by
  have hframe := (downed_lines s).2
  rw [watchDown_latched]
  generalize (rejudge s.downed).forLines lineDown = d at hframe
  unfold State.lineFrame at hframe
  rw [hframe, arbitrate_eq]
  exact ⟨rfl, rfl, rfl, rfl, rfl⟩

/-- What becomes of each line when the watch goes DOWN, by its state (R18, R151, R157). -/
theorem watchDown_lineOf (s : State) (i : LineId) : ∃ v : State,
    v.line i = (s.line i).holdSession.rejudge (s.effEnable i) false ∧
    (watchDown s).line i = (lineDown i v).line i ∧
    (∀ e ∈ (watchDown s).checkQueue, e ∈ (lineDown i v).checkQueue) := by
  obtain ⟨v, is, -, hline, -, hsplit, hend⟩ := downed_at s i
  refine ⟨v, hline, (watchDown_line s i).trans hend, fun e he => ?_⟩
  rw [watchDown_latched, arbitrate_checkQueue, latchA, State.modPort_checkQueue, hsplit] at he
  exact List.foldlRecOn (motive := fun u : State => e ∈ u.checkQueue → e ∈ (lineDown i v).checkQueue) is _ id
    (fun u hu j _ he => hu (lineDown_checkQueue j u e he)) he

/-- What a line makes of the watch going DOWN, as O50 lists it (R18, R151, R157). -/
def State.wentDown (s t : State) (i : LineId) : Prop :=
  ((s.line i).state = .session → t.session i = (s.session i).map fun x =>
    if x.state.isCharged then { x with state := .held, heldFrom := some x.state } else x) ∧
  ((s.line i).state = .idle ∨ (s.line i).state = .ringing → s.effEnable i = true → (t.line i).state = .busied) ∧
  ((s.line i).state = .answering ∨ (s.line i).state = .speed →
    (t.line i).state = .hangup ∧ (t.line i).reserved = false) ∧
  ((s.line i).state = .signOn → (s.line i).txChar ≠ none →
    (t.line i).state = .closing ∧ (t.line i).signOn = none ∧ (t.line i).closingSlot = some 8 ∧
    (t.line i).reserved = (s.line i).reserved ∧ ∀ e ∈ t.checkQueue, e.line ≠ i)

theorem watchDown_wentDown (s : State) (i : LineId) : s.wentDown (watchDown s) i := by
  obtain ⟨v, hv, hline, hchecks⟩ := watchDown_lineOf s i
  have hstands (hrest : (s.line i).state.resting = false) (hrings : (s.line i).state ≠ .ringing) :
      v.line i = (s.line i).holdSession := hv.trans (LineRec.rejudge_stands _ _ hrest hrings)
  refine ⟨fun hs => ?_, fun hs he => ?_, fun hs => ?_, fun hs hbusy => ?_⟩
  · have hvi := hstands (by rw [hs]; rfl) (by rw [hs]; decide)
    have hstate : (v.line i).state = .session := by rw [hvi]; exact hs
    have hdown : lineDown i v = v := by simp only [lineDown, hstate]
    rw [State.session, hline, hdown, hvi]
    rfl
  · have hbusied : (v.line i).state = .busied := by
      rw [hv, LineRec.rejudge_state]
      rcases hs with hs | hs <;> simp [LineRec.holdSession, hs, he]
    have hdown : lineDown i v = v := by simp only [lineDown, hbusied]
    rw [hline, hdown, hbusied]
  · have hvi := hstands (by rcases hs with hs | hs <;> rw [hs] <;> rfl) (by rcases hs with hs | hs <;> rw [hs] <;> decide)
    have hstate : (v.line i).state = .answering ∨ (v.line i).state = .speed := by rw [hvi]; exact hs
    have hdown : lineDown i v = hangup i v := by rcases hstate with h | h <;> simp only [lineDown, h]
    obtain ⟨hhung, -⟩ := hangup_spec i v
    rw [hline, hdown, hhung]
    exact ⟨rfl, rfl⟩
  · have hvi := hstands (by rw [hs]; rfl) (by rw [hs]; decide)
    have hstate : (v.line i).state = .signOn := by rw [hvi]; exact hs
    have hdown : lineDown i v = signOnDown i v := by simp only [lineDown, hstate]
    rw [hdown, signOnDown_busy (by rw [hvi]; exact hbusy)] at hline hchecks
    rw [hline, State.line_setLine, hvi]
    exact ⟨rfl, rfl, rfl, rfl, fun e he => by simpa using (List.mem_filter.mp (hchecks e he)).2⟩

/-! ### Close decisions outside an access, in line order (R146, R160) -/

/-- What an operation of one line after another adds to a queue, where it adds by that line alone. -/
theorem LineByLine.appends {P : State → Prop} {f : LineId → State → State} (h : LineByLine P f) {α : Type}
    (q : State → List α) (out : LineRec → LineId → List α)
    (hout : ∀ i s, P s → q (f i s) = q s ++ out (s.line i) i) {s : State} (hs : P s) :
    q (s.forLines f) = q s ++ allLines.flatMap fun i => out (s.line i) i := by
  have hlist (is : List LineId) (hnodup : is.Nodup) {s : State} (hs : P s) :
      q (is.foldl (fun s i => f i s) s) = q s ++ is.flatMap fun i => out (s.line i) i := by
    induction is generalizing s with
    | nil => simp
    | cons i is ih =>
      obtain ⟨hi, hnodup⟩ := List.nodup_cons.mp hnodup
      obtain ⟨hP, hothers⟩ := h i s hs
      have hlater : (is.flatMap fun j => out ((f i s).line j) j) = is.flatMap fun j => out (s.line j) j :=
        List.flatMap_congr fun j hj => by rw [hothers j fun e => hi (e ▸ hj)]
      rw [List.foldl_cons, ih hnodup hP, hout i s hs, hlater, List.flatMap_cons, List.append_assoc]
  exact hlist allLines allLines_nodup hs

theorem flatMap_ite_singleton {α : Type} (p : α → Bool) (l : List α) :
    (l.flatMap fun a => if p a then [a] else []) = l.filter p := by
  induction l with
  | nil => rfl
  | cons a l ih => rw [List.flatMap_cons, ih, List.filter_cons]; split <;> rfl

theorem flatMap_ite_toList {α β : Type} (p : α → Bool) (g : α → Option β) (l : List α) :
    (l.flatMap fun a => if p a then (g a).toList else []) = (l.filter p).filterMap g := by
  induction l with
  | nil => rfl
  | cons a l ih =>
    rw [List.flatMap_cons, ih, List.filter_cons]
    split
    · rw [List.filterMap_cons]; cases g a <;> rfl
    · rfl

/-- Close decisions outside an access change the lines, the input queue with its latch, and the close work that waits. -/
def State.closesOutside (s t : State) : Prop :=
  t = { s with
    lines := t.lines, input := t.input, tPort := { s.tPort with latches := t.tPort.latches }
    engine := { s.engine with closeWork := t.engine.closeWork } }

theorem State.closesOutside.refl (s : State) : s.closesOutside s := rfl

theorem State.closesOutside.trans {s t u : State} (h : s.closesOutside t) (k : t.closesOutside u) :
    s.closesOutside u := by
  unfold State.closesOutside at *; rw [k, h]

theorem State.closesOutside.clock {s t : State} (h : s.closesOutside t) : t.clock = s.clock := by
  unfold State.closesOutside at h; rw [h]

theorem closesOutside_closedOut (s : State) (i : LineId) (x : Session) (r : CloseReason) (l : LineRec) :
    s.closesOutside (s.closedOut i x r l) := by
  unfold State.closesOutside State.closedOut; rw [PortUnit.latch_eq]; rfl

/-! ### The hold-down limit (R160) -/

/-- The line's session is HELD. -/
def LineRec.isHeld (l : LineRec) : Bool := l.session.any (·.state == .held)

/-- A HELD session closes when the hold-down limit has passed (R160). -/
def holdDownLine (i : LineId) (s : State) : State :=
  if (s.line i).isHeld then closeOutside .systemDown i s else s

theorem holdDownOver_eq (s : State) :
    holdDownOver s = { s with watch := { s.watch with holdDownTimer := none } }.forLines holdDownLine := rfl

theorem LineRec.isHeld_iff (l : LineRec) : l.isHeld = true ↔ ∃ x, l.session = some x ∧ x.state = .held := by
  simp [LineRec.isHeld, Option.any_eq_true]

/-- SYSTEM_DOWN sends no message, so that the line stays in SESSION until its account work (Table 2-3). -/
theorem holdDownLine_held {i : LineId} {s : State} {x : Session} (hx : s.session i = some x) (hheld : x.state = .held) :
    holdDownLine i s = s.closedOut i x .systemDown ((s.line i).decided .systemDown s.clock.stamp x) := by
  have hopen : s.openSession i = some x := (s.openSession_iff i x).mpr ⟨hx, by rw [hheld]; rfl⟩
  rw [holdDownLine, if_pos ((s.line i).isHeld_iff.mpr ⟨x, hx, hheld⟩), closeOutside_open hopen (by rfl)]
  rfl

theorem holdDownLine_other {i : LineId} {s : State} (h : (s.line i).isHeld = false) : holdDownLine i s = s := by
  rw [holdDownLine, h]; rfl

theorem holdDownLine_lineByLine (u : State) : LineByLine u.closesOutside holdDownLine := by
  intro i s h
  cases hheld : (s.line i).isHeld with
  | false => rw [holdDownLine_other hheld]; exact ⟨h, fun _ _ => rfl⟩
  | true =>
    obtain ⟨x, hx, hstate⟩ := (s.line i).isHeld_iff.mp hheld
    rw [holdDownLine_held hx hstate]
    exact ⟨h.trans (closesOutside_closedOut s i x _ _), closedOut_sameLinesBut s i x _ _⟩

/-- The CLOSE mark of a line whose HELD session closes. -/
def LineRec.heldMark (l : LineRec) (i : LineId) : Option InputEntry :=
  l.session.map fun x => .closeMark i x.serial .systemDown

theorem holdDownLine_queues (i : LineId) (s : State) :
    (holdDownLine i s).input = s.input ++ (if (s.line i).isHeld then ((s.line i).heldMark i).toList else []) ∧
      (holdDownLine i s).engine.closeWork = s.engine.closeWork ++ (if (s.line i).isHeld then [i] else []) := by
  cases hheld : (s.line i).isHeld with
  | false => rw [holdDownLine_other hheld]; simp
  | true =>
    obtain ⟨x, hx, hstate⟩ := (s.line i).isHeld_iff.mp hheld
    rw [holdDownLine_held hx hstate, LineRec.heldMark, hx]
    exact ⟨rfl, rfl⟩

theorem holdDownLine_line (i : LineId) (s : State) :
    ((holdDownLine i s).line i).state = (s.line i).state ∧
      (holdDownLine i s).session i = (s.session i).map fun x =>
        if x.state = .held then x.decided .systemDown s.clock.stamp else x := by
  cases hheld : (s.line i).isHeld with
  | false =>
    rw [holdDownLine_other hheld]
    refine ⟨rfl, ?_⟩
    cases hx : s.session i with
    | none => rfl
    | some x =>
      have hno : x.state ≠ .held := fun h => by
        rw [(s.line i).isHeld_iff.mpr ⟨x, hx, h⟩] at hheld; contradiction
      simp [hno]
  | true =>
    obtain ⟨x, hx, hstate⟩ := (s.line i).isHeld_iff.mp hheld
    rw [holdDownLine_held hx hstate, State.session, closedOut_line, State.session, hx]
    simp [LineRec.decided, LineRec.settleOutput, hstate]

/-- Settles O50: SET WATCH by its ranges; the watch DOWN line by line; the hold-down limit closes the HELD sessions in
line order. -/
theorem watchGoesDownAndHoldsSessions : Obligations.WatchGoesDownAndHoldsSessions := by
  refine ⟨fun p w l s hrun => ?_, fun s hp _ hup htimer hidle => ?_, fun s hp _ hdown htimer => ?_⟩
  · rw [exec_running (work := workSetWatch p w l) rfl hrun]
    simp only [workSetWatch, inRange_iff, Nat.zero_le, true_and, completeOk, refuse]
    exact ⟨fun h => by rw [if_pos h], fun h => by rw [if_neg h]⟩
  · have hover : watchTimerOver s = watchDown s := by simp [watchTimerOver, hup, htimer, hidle, Timer.expired]
    obtain ⟨hwatch, hport, hinput, haccounts, hrecords⟩ := watchDown_frame s
    refine ⟨watchDown s, ?_, ?_, hport, hinput, haccounts, hrecords, watchDown_wentDown s⟩
    · rw [exec_powered (f := watchTimerOver) rfl hp, hover]
    · rw [hwatch]
      rcases Nat.eq_zero_or_pos s.watch.holdDownLimit with h | h
      · simp [State.downed, State.mapSessions, State.mapLines, h]
      · simp [State.downed, State.mapSessions, State.mapLines, h, Nat.pos_iff_ne_zero.mp h, Timer.seconds,
          Nat.mul_assoc]
  · intro held
    have hover : holdDownExpired s = holdDownOver s := by simp [holdDownExpired, hdown, htimer, Timer.expired]
    let u : State := { s with watch := { s.watch with holdDownTimer := none } }
    have hstep := holdDownLine_lineByLine u
    have hu : u.closesOutside u := .refl u
    have hframe : u.closesOutside (u.forLines holdDownLine) := (hstep.fold allLines hu).1
    have hwork := hstep.appends (fun s => s.engine.closeWork) (fun l i => if l.isHeld then [i] else [])
      (fun i s _ => (holdDownLine_queues i s).2) hu
    have hmarks := hstep.appends State.input (fun l i => if l.isHeld then (l.heldMark i).toList else [])
      (fun i s _ => (holdDownLine_queues i s).1) hu
    rw [flatMap_ite_singleton] at hwork
    rw [flatMap_ite_toList] at hmarks
    refine ⟨u.forLines holdDownLine, ?_, ?_, fun i => ?_, fun i => ?_, ?_, hmarks⟩
    · rw [exec_powered (f := holdDownExpired) rfl hp, hover, holdDownOver_eq]
    · rw [hframe]
    · obtain ⟨v, is, hv, hline, -, hend⟩ := hstep.at hu i
      rw [State.session, hend]
      refine (holdDownLine_line i v).2.trans ?_
      rw [hv.clock, State.session, hline]
      rfl
    · obtain ⟨v, is, -, hline, -, hend⟩ := hstep.at hu i
      rw [hend, (holdDownLine_line i v).1, hline]
      rfl
    · rw [hframe]
      exact congrArg (fun w => { s.engine with closeWork := w }) hwork

end Sys2Proof.Machine
end

section
/-! PROOFS. A T command brings the watch UP (R156, R159): the sessions resume in line order, and the command is then
executed on the resumed state. -/

namespace Sys2Proof.Machine

/-! ### A session resumes, or closes with FUNDS (R159, R146) -/

/-- The session is HELD from METERED, its account is exhausted, and its class gives no grace. -/
abbrev State.ends (s : State) (x : Session) : Prop :=
  x.state = .held ∧ x.heldFrom ≠ some .grace ∧ s.exhausted x = true ∧ (s.classRec x.cls).grace = 0

/-- The session as it resumes, where it does not close (R159). -/
def State.resumed (s : State) (x : Session) : Session :=
  if x.heldFrom = some .grace then { x with state := .grace, heldFrom := none }
  else if s.exhausted x then { x with state := .grace, heldFrom := none, grace := some (s.classRec x.cls).grace }
  else { x with state := .metered, heldFrom := none }

/-- What a line is after a FUNDS close decision outside an access: in CLOSING, its buffer empty, slot 10 to follow a
character in progress (R45, R146). -/
structure LineRec.fundsClosed (l m : LineRec) (x : Session) (now : Stamp) : Prop where
  state : m.state = .closing
  buffer : m.buffer = []
  session : m.session = some (x.decided .funds now)
  slot : l.txChar ≠ none → m.closingSlot = some 10
  enable : m.enable = l.enable

theorem closeOutside_funds {i : LineId} {s : State} {x : Session} (h : s.openSession i = some x) :
    ∃ m : LineRec, closeOutside .funds i s = s.closedOut i x .funds m ∧ (s.line i).fundsClosed m x s.clock.stamp := by
  obtain ⟨m, hclosed, hstate, hbuffer, hsession, henable⟩ :=
    closeOutside_closing h (r := .funds) (by rfl) (by rfl) (by decide)
  refine ⟨m, hclosed, hstate, hbuffer, hsession, fun hbusy => ?_, henable⟩
  have hopen := closeOutside_open h (r := .funds) (by rfl)
  dsimp only at hopen
  rw [if_pos (by rfl), enterClosing_busy (by rw [closedOut_line]; exact hbusy), hclosed] at hopen
  have hline := congrArg (fun t : State => (t.line i).closingSlot) hopen
  dsimp only at hline
  rw [closedOut_line, State.line_setLine, closedOut_line] at hline
  exact hline

/-- Line i with its session part replaced. -/
def State.withSession (s : State) (i : LineId) (y : Session) : State :=
  s.setLine i { s.line i with session := some y }

theorem resumeLine_held {i : LineId} {s : State} {x : Session} (hx : s.session i = some x) (hheld : x.state = .held) :
    resumeLine i s =
      if x.heldFrom = some .grace then s.withSession i { x with state := .grace, heldFrom := none }
      else if s.exhausted x then
        if (s.classRec x.cls).grace = 0 then
          closeOutside .funds i (s.withSession i (s.enterGrace { x with heldFrom := none }))
        else s.withSession i (s.enterGrace { x with heldFrom := none })
      else s.withSession i { x with state := .metered, heldFrom := none } := by
  have hresume (y : Session) : (s.modSession i fun _ => y) = s.withSession i y := by
    rw [State.modSession, State.modLine_eq, show (s.line i).session = some x from hx]; rfl
  simp only [resumeLine, hx, hheld, bne_self_eq_false, Bool.false_eq_true, if_false, hresume, beq_iff_eq]
  rfl

/-- A session that ends as it resumes closes with FUNDS. -/
theorem resumeLine_ends {i : LineId} {s : State} {x : Session} (hx : s.session i = some x) (h : s.ends x) :
    ∃ m : LineRec, resumeLine i s = s.closedOut i x .funds m ∧ (s.line i).fundsClosed m x s.clock.stamp := by
  obtain ⟨hheld, hfrom, hexhausted, hgrace⟩ := h
  have hopen : (s.withSession i (s.enterGrace { x with heldFrom := none })).openSession i =
      some (s.enterGrace { x with heldFrom := none }) :=
    (State.openSession_iff _ _ _).mpr ⟨by rw [State.withSession, State.line_setLine], rfl⟩
  obtain ⟨m, hclosed, hm⟩ := closeOutside_funds hopen
  rw [State.withSession, State.line_setLine] at hm
  refine ⟨m, ?_, hm.state, hm.buffer, hm.session, hm.slot, hm.enable⟩
  rw [resumeLine_held hx hheld, if_neg hfrom, if_pos hexhausted, if_pos hgrace, hclosed, State.closedOut,
    State.withSession, State.setLine_setLine]
  rfl

/-- A session that does not end resumes. -/
theorem resumeLine_resumes {i : LineId} {s : State} {x : Session} (hx : s.session i = some x) (hheld : x.state = .held)
    (h : ¬ s.ends x) : resumeLine i s = s.withSession i (s.resumed x) := by
  rw [resumeLine_held hx hheld, State.resumed]
  split
  · rfl
  · next hfrom =>
    split
    · next hexhausted => rw [if_neg fun hgrace => h ⟨hheld, hfrom, hexhausted, hgrace⟩]; rfl
    · rfl

theorem resumeLine_cases (i : LineId) (s : State) :
    ((∀ x, s.session i = some x → x.state ≠ .held) ∧ resumeLine i s = s) ∨
    (∃ x, s.session i = some x ∧ x.state = .held ∧ ¬ s.ends x ∧ resumeLine i s = s.withSession i (s.resumed x)) ∨
    (∃ (x : Session) (m : LineRec), s.session i = some x ∧ s.ends x ∧ resumeLine i s = s.closedOut i x .funds m ∧
      (s.line i).fundsClosed m x s.clock.stamp) := by
  cases hx : s.session i with
  | none => exact .inl ⟨fun _ h => by contradiction, by rw [resumeLine, hx]⟩
  | some x =>
    by_cases hends : s.ends x
    · obtain ⟨m, hclosed, hm⟩ := resumeLine_ends hx hends
      exact .inr (.inr ⟨x, m, rfl, hends, hclosed, hm⟩)
    · by_cases hheld : x.state = .held
      · exact .inr (.inl ⟨x, rfl, hheld, hends, resumeLine_resumes hx hheld hends⟩)
      · refine .inl ⟨fun y hy => by cases hy; exact hheld, ?_⟩
        simp [resumeLine, hx, hheld]

/-! ### The lines in order (R159) -/

/-- The state with the watch UP and its timers stopped, before the sessions resume (R156, R159). -/
def State.broughtUp (s : State) : State :=
  { s with watch := { s.watch with down := false, timer := none, holdDownTimer := none } }

/-- The state in which the sessions have resumed, before the lines act on their readiness. -/
def State.sessionsResumed (s : State) : State := s.broughtUp.forLines resumeLine

/-- A T command taken while the watch is DOWN. -/
theorem takenByWatch_down {s : State} (h : s.watch.down = true) :
    takenByWatch s = rejudge (latchA .systemUp s.sessionsResumed) := by
  simp only [takenByWatch, h, if_true, watchUp]
  rfl

theorem takenByWatch_up {s : State} (hup : s.watch.down = false) (htimer : s.watch.timer = none) : takenByWatch s = s := by
  have hsame : { s with watch := { s.watch with timer := none } } = s := by rw [← htimer]
  have htaken : takenByWatch s = { s with watch := { s.watch with timer := none } } := by
    simp only [takenByWatch, hup, Bool.false_eq_true, if_false]
  exact htaken.trans hsame

/-- What a session is once the watch is UP: it closes with FUNDS, resumes, or stands (R159). -/
def State.afterWatch (s : State) (x : Session) : Session :=
  if x.state ≠ .held then x else if s.ends x then x.decided .funds s.clock.stamp else s.resumed x

/-- The line's session ends as it resumes. -/
def State.endsAt (s : State) (l : LineRec) : Bool := l.session.any fun x => decide (s.ends x)

theorem State.endsAt_iff (s : State) (l : LineRec) : s.endsAt l = true ↔ ∃ x, l.session = some x ∧ s.ends x := by
  simp only [State.endsAt, Option.any_eq_true, decide_eq_true_iff]

theorem closesOutside_withSession (s : State) (i : LineId) (y : Session) : s.closesOutside (s.withSession i y) := rfl

/-- The accounts, the classes and the clock stand, by which sessions resume or end. -/
theorem State.closesOutside.resumption {s t : State} (h : s.closesOutside t) :
    t.endsAt = s.endsAt ∧ t.afterWatch = s.afterWatch ∧ t.clock = s.clock := by
  unfold State.closesOutside at h
  rw [h]
  exact ⟨rfl, rfl, rfl⟩

/-- What resuming makes of its own line, and adds to the input queue and the close work. -/
theorem resumeLine_spec (i : LineId) (s : State) :
    s.closesOutside (resumeLine i s) ∧ s.sameLinesBut (resumeLine i s) i ∧
    (resumeLine i s).session i = (s.session i).map s.afterWatch ∧
    (s.endsAt (s.line i) = false →
      (resumeLine i s).line i = { s.line i with session := (s.session i).map s.afterWatch }) ∧
    (s.endsAt (s.line i) = true → ∃ x, (s.line i).fundsClosed ((resumeLine i s).line i) x s.clock.stamp) ∧
    (resumeLine i s).input = s.input ++ (if s.endsAt (s.line i) then
      ((s.line i).session.map fun x => InputEntry.closeMark i x.serial .funds).toList else []) ∧
    (resumeLine i s).engine.closeWork = s.engine.closeWork ++ (if s.endsAt (s.line i) then [i] else []) := by
  rcases resumeLine_cases i s with ⟨hnot, hr⟩ | ⟨x, hx, hheld, hends, hr⟩ | ⟨x, m, hx, hends, hr, hm⟩
  · have hstands : (s.session i).map s.afterWatch = s.session i := by
      cases hx : s.session i with
      | none => rfl
      | some x => simp [State.afterWatch, hnot x hx]
    have hno : s.endsAt (s.line i) = false := by
      rw [← Bool.not_eq_true, State.endsAt_iff]
      rintro ⟨x, hx, hends⟩
      exact hnot x hx hends.1
    rw [hr, hstands, hno]
    exact ⟨.refl s, fun _ _ => rfl, rfl, fun _ => rfl, fun h => by contradiction, by simp, by simp⟩
  · have hafter : s.afterWatch x = s.resumed x := by simp only [State.afterWatch, hheld, ne_eq, not_true, if_false, hends]
    have hno : s.endsAt (s.line i) = false := by
      rw [State.endsAt, show (s.line i).session = some x from hx]
      exact decide_eq_false hends
    rw [hr, hx, Option.map_some, hafter, hno]
    refine ⟨closesOutside_withSession s i _, State.sameLinesBut_setLine s i _, ?_, fun _ => s.line_setLine i _,
      fun h => by contradiction, by simp [State.withSession], by simp [State.withSession]⟩
    rw [State.withSession, State.session, State.line_setLine]
  · have hafter : s.afterWatch x = x.decided .funds s.clock.stamp := by
      rw [State.afterWatch, if_neg (not_not_intro hends.1), if_pos hends]
    have hyes : s.endsAt (s.line i) = true := (s.endsAt_iff _).mpr ⟨x, hx, hends⟩
    have hline : (s.line i).session = some x := hx
    rw [hr, hx, Option.map_some, hafter, hyes, hline]
    refine ⟨closesOutside_closedOut s i x _ m, closedOut_sameLinesBut s i x _ m, ?_, fun h => by contradiction,
      fun _ => ⟨x, by rw [closedOut_line]; exact hm⟩, rfl, rfl⟩
    rw [State.session, closedOut_line, hm.session]

theorem resumeLine_lineByLine (u : State) : LineByLine u.closesOutside resumeLine := fun i s h =>
  have ⟨hframe, hothers, _⟩ := resumeLine_spec i s
  ⟨h.trans hframe, hothers⟩

/-- The lines whose sessions end as the watch comes UP. -/
def State.endingLines (s : State) : List LineId := allLines.filter fun i => s.endsAt (s.line i)

/-- The state once the sessions have resumed (R159, R146). -/
theorem sessionsResumed_spec (s : State) :
    s.broughtUp.closesOutside s.sessionsResumed ∧
    (∀ i, s.sessionsResumed.session i = (s.session i).map s.afterWatch) ∧
    (∀ i, i ∉ s.endingLines →
      s.sessionsResumed.line i = { s.line i with session := (s.session i).map s.afterWatch }) ∧
    (∀ i ∈ s.endingLines, ∃ x, (s.line i).fundsClosed (s.sessionsResumed.line i) x s.clock.stamp) ∧
    s.sessionsResumed.input = s.input ++ s.endingLines.filterMap (fun i =>
      (s.session i).map fun x => .closeMark i x.serial .funds) ∧
    s.sessionsResumed.engine.closeWork = s.engine.closeWork ++ s.endingLines := by
  have hstep := resumeLine_lineByLine s.broughtUp
  have hrefl : s.broughtUp.closesOutside s.broughtUp := .refl _
  have hbase : s.broughtUp.endsAt = s.endsAt ∧ s.broughtUp.afterWatch = s.afterWatch := ⟨rfl, rfl⟩
  have hline (i : LineId) : ∃ v : State, s.broughtUp.closesOutside v ∧ v.line i = s.line i ∧
      s.sessionsResumed.line i = (resumeLine i v).line i := by
    obtain ⟨v, -, hv, hvi, -, hend⟩ := hstep.at hrefl i
    exact ⟨v, hv, hvi, hend⟩
  have hmember (i : LineId) : i ∈ s.endingLines ↔ s.endsAt (s.line i) = true := by
    simp [State.endingLines, mem_allLines]
  refine ⟨(hstep.fold allLines hrefl).1, fun i => ?_, fun i hi => ?_, fun i hi => ?_, ?_, ?_⟩
  · obtain ⟨v, hv, hvi, hend⟩ := hline i
    obtain ⟨-, hafter, -⟩ := hv.resumption
    obtain ⟨-, -, hsession, -⟩ := resumeLine_spec i v
    rw [State.session, hend]
    refine hsession.trans ?_
    rw [hafter, State.session, hvi]
    rfl
  · obtain ⟨v, hv, hvi, hend⟩ := hline i
    obtain ⟨hends, hafter, -⟩ := hv.resumption
    obtain ⟨-, -, -, hresumes, -⟩ := resumeLine_spec i v
    rw [hmember, Bool.not_eq_true] at hi
    rw [hend, hresumes (by rw [hends, hvi]; exact hi), hafter, State.session, hvi]
    rfl
  · obtain ⟨v, hv, hvi, hend⟩ := hline i
    obtain ⟨hends, -, hclock⟩ := hv.resumption
    obtain ⟨-, -, -, -, hcloses, -⟩ := resumeLine_spec i v
    obtain ⟨x, hx⟩ := hcloses (by rw [hends, hvi]; exact (hmember i).mp hi)
    rw [hvi, ← hend, hclock] at hx
    exact ⟨x, hx⟩
  · have hmarks := hstep.appends State.input
      (fun l i => if s.endsAt l then (l.session.map fun x => InputEntry.closeMark i x.serial .funds).toList else [])
      (fun i v hv => by
        obtain ⟨hends, -⟩ := hv.resumption
        obtain ⟨-, -, -, -, -, hinput, -⟩ := resumeLine_spec i v
        rw [hends, hbase.1] at hinput
        exact hinput) hrefl
    rw [flatMap_ite_toList] at hmarks
    exact hmarks
  · have hwork := hstep.appends (fun v => v.engine.closeWork) (fun l i => if s.endsAt l then [i] else [])
      (fun i v hv => by
        obtain ⟨hends, -⟩ := hv.resumption
        obtain ⟨-, -, -, -, -, -, hwork⟩ := resumeLine_spec i v
        rw [hends, hbase.1] at hwork
        exact hwork) hrefl
    have hending : (allLines.filter fun i => s.endsAt (s.broughtUp.line i)) = s.endingLines := rfl
    rw [flatMap_ite_singleton, hending] at hwork
    rw [State.sessionsResumed]
    exact hwork

end Sys2Proof.Machine
end

section
/-! PROOFS. The command that brings the watch UP is executed on the resumed state (R156, R185). -/

namespace Sys2Proof.Machine

/-- A command started on a state in which its port is BUSY with it, once it is taken (R185, step 3). -/
def executeTaken (p : PortId) (c : Instr) (s : State) : State :=
  if s.restarting p.other then refuse p .restarted s
  else if isRestart c then takeRestart p c s
  else if isTableCommand c then
    if tableArgsOk c then askAccess p c s else refuse p .badArgument s
  else s

theorem startCommand_eq (p : PortId) (c : Instr) (s : State) :
    startCommand p c s = executeTaken p c (taken p (setJob p .started c s)) := rfl

section
variable {c : Instr} {s : State}

theorem exec_go_starts (hlive : s.live .t) (hbuilding : s.tPort.state = .building) (hfits : s.tPort.overflow = false)
    (hdecode : decodeRecord .t s.tPort.record = some c) (hrole : roleOk .t c = true) :
    exec (.go .t) s = .next (executeTaken .t c (takenByWatch (setJob .t .started c s))) := by
  obtain ⟨hpower, hstarting⟩ := hlive
  replace hstarting : s.tPort.starting = false := hstarting
  rw [exec_powered (c := .go .t) (f := requestAt .t (some .go)) rfl hpower]
  simp [requestAt, goAt, State.port, hstarting, hbuilding, hfits, hdecode, hrole, startCommand_eq, taken]

/-- The resumed state, with the T port as GO left it. -/
def State.resumedBy (s : State) (c : Instr) : State := takenByWatch (setJob .t .started c s)

/-- The resumed state with its T port still BUILDING the record. -/
def State.resumedBuilding (s : State) (c : Instr) : State :=
  { s.resumedBy c with tPort := { (s.resumedBy c).tPort with state := .building, job := s.tPort.job } }

variable (hdown : s.watch.down = true)
include hdown

/-- Bringing the watch UP changes the lines, the input queue, the close work, and the latches of both ports. -/
theorem resumedBy_frame :
    s.resumedBy c = { s with
      watch := { s.watch with down := false, timer := none, holdDownTimer := none }
      tPort := { s.tPort with state := .busy, job := some ⟨.started, c⟩, latches := (s.resumedBy c).tPort.latches }
      aPort := s.aPort.latch ACause.systemUp.bit
      lines := (s.resumedBy c).lines, input := (s.resumedBy c).input
      engine := { s.engine with closeWork := (s.resumedBy c).engine.closeWork } } := by
  obtain ⟨hframe, -⟩ := sessionsResumed_spec (setJob .t .started c s)
  rw [State.resumedBy, takenByWatch_down (s := setJob .t .started c s) hdown]
  generalize (setJob .t .started c s).sessionsResumed = w at hframe
  unfold State.closesOutside at hframe
  rw [hframe]
  rfl

/-- The lines of the resumed state: each acts on its readiness once the sessions have resumed (R159). -/
theorem resumedBy_line (i : LineId) :
    (s.resumedBy c).line i = ((setJob .t .started c s).sessionsResumed.line i).rejudge
      ((s.resumedBy c).effEnable i) ((s.resumedBy c).ready i) := by
  rw [State.resumedBy, takenByWatch_down (s := setJob .t .started c s) hdown, rejudge_line, rejudge_effEnable,
    rejudge_ready, latchA, State.modPort_line]

theorem resumedBy_session (i : LineId) : (s.resumedBy c).session i = (s.session i).map s.afterWatch := by
  obtain ⟨-, hsession, -⟩ := sessionsResumed_spec (setJob .t .started c s)
  rw [State.session, resumedBy_line hdown, LineRec.rejudge_session]
  exact hsession i

/-- A CLOSE mark and a waiting account work for each session that ends, in line order (R146, R159). -/
theorem resumedBy_queues :
    (s.resumedBy c).input = s.input ++ s.endingLines.filterMap (fun i =>
      (s.session i).map fun x => .closeMark i x.serial .funds) ∧
    (s.resumedBy c).engine.closeWork = s.engine.closeWork ++ s.endingLines := by
  obtain ⟨-, -, -, -, hinput, hwork⟩ := sessionsResumed_spec (setJob .t .started c s)
  rw [State.resumedBy, takenByWatch_down (s := setJob .t .started c s) hdown]
  have hending : (setJob .t .started c s).endingLines = s.endingLines := rfl
  rw [hending] at hinput hwork
  generalize (setJob .t .started c s).sessionsResumed = w at hinput hwork
  exact ⟨hinput, hwork⟩

/-- GO on the resumed state, its port still BUILDING, starts the command on the resumed state. -/
theorem setJob_resumedBuilding : takenByWatch (setJob .t .started c (s.resumedBuilding c)) = s.resumedBy c := by
  have hframe := resumedBy_frame (c := c) hdown
  have hport : setJob .t .started c (s.resumedBuilding c) = s.resumedBy c := by
    rw [State.resumedBuilding]
    generalize s.resumedBy c = r at hframe
    rw [hframe]
    rfl
  rw [hport]
  exact takenByWatch_up (by rw [hframe]) (by rw [hframe])

end

/-- With a grace in every class, resuming changes the lines alone (R159). -/
theorem sessionsResumed_lines {s : State}
    (hgrace : ∀ (i : LineId) (x : Session), s.session i = some x → 0 < (s.classRec x.cls).grace) :
    s.sessionsResumed = { s.broughtUp with lines := s.sessionsResumed.lines } := by
  have hfold := List.foldlRecOn (motive := fun t : State => t = { s.broughtUp with lines := t.lines } ∧
    ∀ (i : LineId) (x : Session), t.session i = some x → 0 < (s.classRec x.cls).grace) allLines
    (fun t i => resumeLine i t) (b := s.broughtUp) ⟨rfl, hgrace⟩ fun t ⟨hlines, hclasses⟩ i _ => by
      rcases resumeLine_cases i t with ⟨-, hr⟩ | ⟨x, hx, -, -, hr⟩ | ⟨x, m, hx, hends, -, -⟩
      · rw [hr]; exact ⟨hlines, hclasses⟩
      · rw [hr]
        refine ⟨by rw [hlines]; rfl, fun j y hy => ?_⟩
        by_cases hj : i = j
        · subst hj
          rw [State.session, State.withSession, State.line_setLine] at hy
          cases hy
          have hcls : (t.resumed x).cls = x.cls := by unfold State.resumed; split <;> [rfl; split <;> rfl]
          rw [hcls]
          exact hclasses i x hx
        · rw [State.session, State.withSession, State.line_setLine_ne _ _ hj] at hy
          exact hclasses j y hy
      · have hpositive := hclasses i x hx
        have hzero : (s.classRec x.cls).grace = 0 := by
          have := hends.2.2.2
          rw [hlines] at this
          exact this
        omega
  exact hfold.1

theorem State.not_ends {s : State} {x : Session} (h : 0 < (s.classRec x.cls).grace) : ¬ s.ends x :=
  fun hends => absurd hends.2.2.2 (Nat.pos_iff_ne_zero.mp h)

theorem State.not_mem_endingLines {s : State} {i : LineId} :
    i ∉ s.endingLines ↔ ∀ x, s.session i = some x → ¬ s.ends x := by
  rw [State.endingLines, List.mem_filter, State.endsAt_iff]
  simp only [mem_allLines, true_and, not_exists, not_and]
  rfl

theorem executeTaken_plain {c : Instr} {s : State} (hfree : s.restarting .a = false) (hplain : isRestart c = false)
    (htable : isTableCommand c = false) : executeTaken .t c s = s := by
  simp [executeTaken, PortId.other, hfree, hplain, htable]

/-- A line BUSIED and effectively enabled goes by its readiness when the watch is UP. -/
theorem resumedBy_busied {c : Instr} {s : State} {i : LineId} (hdown : s.watch.down = true)
    (hending : i ∉ s.endingLines) (hbusied : (s.line i).state = .busied) (heff : s.effEnable i = true) :
    ((s.resumedBy c).line i).state = .idle ↔ (s.resumedBy c).ready i = true := by
  obtain ⟨-, -, hstands, -⟩ := sessionsResumed_spec (setJob .t .started c s)
  have hline := resumedBy_line (c := c) hdown i
  rw [hstands i hending] at hline
  have henable : (s.resumedBy c).effEnable i = true := by
    have hgroups : (s.resumedBy c).lineGroup i = s.lineGroup i := by rw [resumedBy_frame hdown]; rfl
    rw [State.effEnable, hline, LineRec.rejudge_enable, hgroups]
    exact heff
  have hstate : ((s.resumedBy c).line i).state = if (s.resumedBy c).ready i then .idle else .busied := by
    rw [hline, LineRec.rejudge_state, henable, if_pos (.inr (.inr hbusied)), if_neg (by decide)]
  rw [hstate]
  cases (s.resumedBy c).ready i <;> decide

/-- Settles O51: the sessions resume in line order (`sessionsResumed_spec`), and GO on the resumed state starts the
command there. -/
theorem commandBringsTheWatchUp : Obligations.CommandBringsTheWatchUp := by
  refine ⟨fun c s hlive hbuilding hfits hdecode hrole hplain htable hfree hdown hgrace => ?_,
    fun c s hlive hbuilding hfits hdecode hrole hdown => ?_⟩
  · have hgo := exec_go_starts hlive hbuilding hfits hdecode hrole
    have hframe := resumedBy_frame (c := c) hdown
    have hnone (i : LineId) : i ∉ s.endingLines := State.not_mem_endingLines.mpr fun x hx => State.not_ends (hgrace i x hx)
    have hsame : (s.resumedBy c).tPort = { s.tPort with state := .busy, job := some ⟨.started, c⟩ } ∧
        (s.resumedBy c).input = s.input := by
      rw [State.resumedBy, takenByWatch_down (s := setJob .t .started c s) hdown,
        sessionsResumed_lines (s := setJob .t .started c s) hgrace]
      exact ⟨rfl, rfl⟩
    refine ⟨s.resumedBy c, ?_, by rw [hframe], hsame.1, by rw [hframe], fun i => ?_,
      fun i => resumedBy_busied hdown (hnone i), by rw [hframe], hsame.2, by rw [hframe]⟩
    · have hfree : (s.resumedBy c).restarting .a = false := by rw [hframe, PortUnit.latch_eq]; exact hfree
      exact hgo.trans (congrArg _ (executeTaken_plain hfree hplain htable))
    · rw [resumedBy_session hdown]
      refine Option.map_congr fun x hx => ?_
      rw [State.afterWatch, if_neg (State.not_ends (hgrace i x hx))]
      rfl
  · intro ends ending
    let u := s.resumedBuilding c
    have hframe := resumedBy_frame (c := c) hdown
    have hqueues := resumedBy_queues (c := c) hdown
    obtain ⟨-, -, hstands, hcloses, -⟩ := sessionsResumed_spec (setJob .t .started c s)
    have hu : u = { s with
        watch := { s.watch with down := false, timer := none, holdDownTimer := none }
        tPort := { s.tPort with latches := u.tPort.latches }, aPort := s.aPort.latch ACause.systemUp.bit
        lines := u.lines, input := u.input, engine := { s.engine with closeWork := u.engine.closeWork } } := by
      unfold u State.resumedBuilding
      rw [← hbuilding]
      generalize s.resumedBy c = r at hframe
      rw [hframe]
    have hlive' : u.live .t := by rw [hu]; exact hlive
    refine ⟨u, ?_, hlive', by rw [hu], by rw [hu], by rw [hu], fun i => ?_, fun i hi => ?_, ?_, ?_, fun i hi => ?_, ?_⟩
    · rw [exec_go_starts hlive hbuilding hfits hdecode hrole,
        exec_go_starts (c := c) hlive' rfl (by rw [hu]; exact hfits) (by rw [hu]; exact hdecode) hrole,
        setJob_resumedBuilding hdown]
      rfl
    · exact (resumedBy_session (c := c) hdown i).trans (Option.map_congr fun x _ => rfl)
    · obtain ⟨x, hx⟩ := hcloses i hi
      have hline : u.line i = (setJob .t .started c s).sessionsResumed.line i :=
        (resumedBy_line hdown i).trans (LineRec.rejudge_stands _ _ (by rw [hx.state]; rfl) (by rw [hx.state]; decide))
      rw [hline]
      exact ⟨hx.state, hx.buffer, hx.slot⟩
    · exact hqueues.1
    · rw [hu]
      exact congrArg (fun w => { s.engine with closeWork := w }) hqueues.2
    · have hline : u.line i = _ := resumedBy_line (c := c) hdown i
      rw [hline, hstands i hi]
      have hsession : u.session i = (s.session i).map s.afterWatch := resumedBy_session hdown i
      rw [hsession]
      rfl
    · rw [hu]

end Sys2Proof.Machine
end

section
/-! PROOFS. LOGOFF and SHUTDOWN SESSIONS (R152, R153): the sessions they close in their access. -/

namespace Sys2Proof.Machine

/-! ### The session that a LOGOFF names (R152) -/

theorem State.namedSession_iff (s : State) (i : LineId) (serial : Nat) (x : Session) :
    s.namedSession i serial = some x ↔
      s.session i = some x ∧ x.state.isCharged = true ∧ x.serial = serial ∧ serial ≠ 0 := by
  rw [State.namedSession, Option.filter_eq_some_iff]
  simp [and_assoc]

/-- The account work of a truncating close under a hold sets the unposted units and seconds aside (R102, R134). -/
theorem accountWork_aside {post : Nat → Nat → State → State} {r : CloseReason} {i : LineId} {s : State} {x : Session}
    (h : s.openSession i = some x) (hm : r.marks = true) (ht : (s.classRec x.cls).rounding = .truncate)
    (hd : s.diverting = true) :
    (accountWork post i (closeDecision r s.clock.stamp i s)).deferred =
        s.deferred ++ (if 0 < x.unpostedUnits then [⟨x.user, x.unpostedUnits, .close⟩] else []) ∧
      (accountWork post i (closeDecision r s.clock.stamp i s)).engine.secondsDue =
        s.engine.secondsDue ++ (if 0 < x.unpostedSeconds then [⟨x.user, x.unpostedSeconds⟩] else []) := by
  let c : State := { s.setLine i ((s.line i).decidedIn r (x.closed r s.clock.stamp)) with
    input := s.input ++ [.closeMark i x.serial r], tPort := s.tPort.latch TCause.input.bit }
  have hy : c.session i = some (x.closed r s.clock.stamp) :=
    (congrArg LineRec.session (s.line_setLine i _)).trans (LineRec.decidedIn_session _ r _)
  rw [closeDecision_open h hm, show accountWork post i c = _ from accountWork_truncate hy ht,
    show c.diverting = true from hd]
  dsimp only
  rw [if_pos rfl, lowerOpenCount, dropReservation_eq, writeRecord_eq, divertClose_eq]
  exact ⟨rfl, rfl⟩

/-- The state once a LOGOFF's close has its account work, and its line is in CLOSING. -/
def State.loggedOff (s : State) (i : LineId) : State :=
  let w := accountWork post i (closeDecision .logoff s.clock.stamp i s)
  w.setLine i { w.line i with state := .closing }

section
variable {p : PortId} {i : LineId} {s : State} {x : Session}

theorem State.loggedOff_line (hopen : s.openSession i = some x) (ht : (s.classRec x.cls).rounding = .truncate) :
    (s.loggedOff i).line i = { (s.line i).decidedIn .logoff ((x.closed .logoff s.clock.stamp).settled s.diverting) with
      reserved := false, state := .closing } := by
  have hclosed := closedBy_of_truncate (post := post) (r := .logoff) hopen rfl ht
  rw [State.loggedOff, State.line_setLine, hclosed.line]

/-- LOGOFF's work: the close with its account work, the connect figures, and the line in CLOSING (R152). -/
theorem workLogoff_closes (hx : s.session i = some x) (hcharged : x.state.isCharged = true) (hserial : x.serial ≠ 0)
    (ht : (s.classRec x.cls).rounding = .truncate) (hbusy : (s.line i).txChar ≠ none) :
    workLogoff p i x.serial s = complete p .ok false (connectWords x) (s.loggedOff i) := by
  have hopen : s.openSession i = some x := State.openSession_charged hx hcharged
  have hnamed : s.namedSession i x.serial = some x := (s.namedSession_iff i _ x).mpr ⟨hx, hcharged, rfl, hserial⟩
  have hclosed := closedBy_of_truncate (post := post) (r := .logoff) hopen rfl ht
  have hclosing := s.loggedOff_line hopen ht
  rw [workLogoff, hnamed]
  dsimp only
  rw [State.loggedOff] at *
  generalize accountWork post i (closeDecision .logoff s.clock.stamp i s) = w at hclosed hclosing
  have hsession : w.session i = some ((x.closed .logoff s.clock.stamp).settled s.diverting) := by
    rw [State.session, hclosed.line]; exact LineRec.decidedIn_session _ _ _
  rw [hsession, enterClosing_busy (by rw [hclosed.line]; exact (LineRec.decidedIn_txChar _ _ _).trans_ne hbusy)]
  rfl

/-- The state that LOGOFF answers (R152). -/
def State.logoffAnswered (s : State) (p : PortId) (i : LineId) (x : Session) : State :=
  giveBack (complete p .ok false (connectWords x) ((granted (.unit p) s).loggedOff i))

theorem exec_logoff {n sr : Word} (hnext : s.grantedNext p (.logoff p n sr)) (hi : i.val = n.toNat) :
    exec (.logoff p n sr) s = .next (giveBack (workLogoff p i sr.toNat (granted (.unit p) s))) := by
  rw [exec_grantedNext rfl hnext, show commandAccess p (.logoff p n sr) (granted (.unit p) s) =
    match lineArg n with
    | some i => workLogoff p i sr.toNat (granted (.unit p) s)
    | none => refuse p .badArgument (granted (.unit p) s) from rfl, lineArg_val hi]

/-- The close that LOGOFF makes, with its account work, from the state before the access. -/
theorem logoff_closedBy (p : PortId) (hx : s.session i = some x) (hcharged : x.state.isCharged = true)
    (ht : (s.classRec x.cls).rounding = .truncate) :
    (granted (.unit p) s).closedBy (accountWork post i (closeDecision .logoff (granted (.unit p) s).clock.stamp i
      (granted (.unit p) s))) i x .logoff :=
  closedBy_of_truncate (State.openSession_charged ((granted_session _ s i).trans hx) hcharged) rfl
    (by rw [granted_classRec]; exact ht)

/-- What LOGOFF's close sets aside under a hold. -/
theorem logoff_aside (p : PortId) (hx : s.session i = some x) (hcharged : x.state.isCharged = true)
    (ht : (s.classRec x.cls).rounding = .truncate) (hd : s.diverting = true) :
    (s.logoffAnswered p i x).deferred =
        s.deferred ++ (if 0 < x.unpostedUnits then [⟨x.user, x.unpostedUnits, .close⟩] else []) ∧
      (s.logoffAnswered p i x).engine.secondsDue =
        s.engine.secondsDue ++ (if 0 < x.unpostedSeconds then [⟨x.user, x.unpostedSeconds⟩] else []) := by
  have hgd : (granted (.unit p) s).diverting = true := by rw [State.diverting, granted_hold]; exact hd
  obtain ⟨hdeferred, hdue⟩ := accountWork_aside (post := post) (r := .logoff)
    (State.openSession_charged ((granted_session (.unit p) s i).trans hx) hcharged) rfl
    (by rw [granted_classRec]; exact ht) hgd
  have hqueue : (granted (.unit p) s).deferred = s.deferred := by rw [granted_eq]
  have hlist : (granted (.unit p) s).engine = s.engine := by rw [granted_eq]
  rw [hqueue] at hdeferred
  rw [hlist] at hdue
  have hdone (u : State) : (complete p .ok false (connectWords x) u).deferred = u.deferred := by
    rw [complete_eq]; exact u.setPort_deferred p _
  rw [State.logoffAnswered, giveBack_deferred, giveBack_eq, complete_engine, hdone]
  exact ⟨hdeferred, hdue⟩

/-- LOGOFF of a charged session whose class truncates, its line sending (R152, R145): the answer, the line and its
session, and the accounts. -/
theorem logoff_answered {n sr : Word} (hnext : s.grantedNext p (.logoff p n sr)) (hi : i.val = n.toNat) (hsr : sr ≠ 0)
    (hx : s.session i = some x) (hcharged : x.state.isCharged = true) (hserial : x.serial = sr.toNat)
    (ht : (s.classRec x.cls).rounding = .truncate) (hbusy : (s.line i).txChar ≠ none) :
    exec (.logoff p n sr) s = .next (s.logoffAnswered p i x) ∧
      ((s.logoffAnswered p i x).port p).answered p .ok false (w32 x.connectUnits ++ w32 x.connectSeconds) ∧
      (s.logoffAnswered p i x).line i =
        { (s.line i).decidedIn .logoff ((x.closed .logoff s.clock.stamp).settled s.diverting) with
          reserved := false, state := .closing } ∧
      (s.logoffAnswered p i x).accounts = s.accounts.map fun b =>
        if b.user = x.user then { b with openCount := b.openCount - 1 } else b := by
  have hgx : (granted (.unit p) s).session i = some x := (granted_session _ s i).trans hx
  have hgt : ((granted (.unit p) s).classRec x.cls).rounding = .truncate := by rw [granted_classRec]; exact ht
  have hgopen : (granted (.unit p) s).openSession i = some x := State.openSession_charged hgx hcharged
  have hwork := workLogoff_closes (p := p) hgx hcharged
    (by rw [hserial]; exact fun h => hsr (BitVec.eq_of_toNat_eq h)) hgt (by rw [granted_line]; exact hbusy)
  have hclosed := logoff_closedBy p hx hcharged ht
  have hstarting : (((granted (.unit p) s).loggedOff i).port p).starting = false := by
    have hframe : (granted (.unit p) s).workFrame ((granted (.unit p) s).loggedOff i) :=
      ((workFrame_closeDecision _ _ _ i).trans (workFrame_accountWork (fun user u s => workFrame_post s user u) _ _)).trans
        (lineFrame_setLine _ i _).work
    rw [hframe.starting p, ← hnext.1.2, granted_eq]
    cases p <;> rfl
  refine ⟨?_, giveBack_answered (complete_answered hstarting _ _ _), ?_, ?_⟩
  · rw [exec_logoff hnext hi, ← hserial, hwork]; rfl
  · rw [State.logoffAnswered, giveBack_line, complete_line, State.loggedOff_line hgopen hgt, granted_line, granted_clock,
      State.diverting, granted_hold]
    rfl
  · rw [State.logoffAnswered, giveBack_accounts, complete_accounts]
    refine hclosed.accounts.trans ?_
    rw [granted_accounts]

end

/-- Settles O48: LOGOFF by `logoff_answered`, SHUTDOWN SESSIONS by the closes of all lines in order. -/
theorem logoffAndShutdownClose : Obligations.LogoffAndShutdownClose := by
  refine ⟨fun p n sr i s hnext hi => ⟨fun hstale => ?_, fun x _ hsr hx hcharged hserial hhold ht hbusy => ?_⟩,
    fun p n sr i x s hnext hi _ hsr hx hcharged hserial hhold ht hbusy => ?_, fun p s hnext hhold ht => ?_⟩
  · have hnone : (granted (.unit p) s).namedSession i sr.toNat = none := by
      rw [Option.eq_none_iff_forall_ne_some]
      intro x hx
      obtain ⟨hx, hcharged, hserial, hne⟩ := (State.namedSession_iff _ i _ x).mp hx
      rcases hstale with rfl | hno
      · exact hne rfl
      · rcases hno x ((granted_session _ s i).symm.trans hx) with h | h
        · rw [h] at hcharged; contradiction
        · exact h hserial
    rw [exec_logoff hnext hi, workLogoff, hnone]
    rfl
  · obtain ⟨hexec, hanswered, hline, haccounts⟩ := logoff_answered hnext hi hsr hx hcharged hserial ht hbusy
    have hplain : s.diverting = false := by rw [State.diverting, hhold]; rfl
    have hclosed := logoff_closedBy p hx hcharged ht
    rw [hplain] at hline
    refine ⟨_, recordOf i (x.closed .logoff s.clock.stamp) false s.billing.sequence, hexec, hanswered, ?_, ?_, ?_, ?_,
      ?_, fun j hj => ?_, ?_, rfl, rfl, rfl, rfl, rfl, haccounts⟩
    · rw [hline]
    · rw [hline]; rfl
    · rw [hline]; rfl
    · rw [State.session, hline]; rfl
    · rw [State.logoffAnswered, giveBack_input, complete_input]
      refine hclosed.input.trans ?_
      rw [granted_input]
    · rw [State.logoffAnswered, giveBack_line, complete_line, State.loggedOff, State.line_setLine_ne _ _ (Ne.symm hj),
        hclosed.others j hj, granted_line]
    · rw [State.logoffAnswered, giveBack_billing, complete_billing]
      refine (congrArg Billing.records hclosed.billing).trans ?_
      rw [granted_billing, granted_clock]
  · obtain ⟨hexec, hanswered, hline, haccounts⟩ := logoff_answered hnext hi hsr hx hcharged hserial ht hbusy
    have hdiverting : s.diverting = true := by rw [State.diverting, hhold]; rfl
    obtain ⟨hdeferred, hdue⟩ := logoff_aside p hx hcharged ht hdiverting
    rw [hdiverting] at hline
    refine ⟨_, hexec, hanswered, ?_, hdeferred, hdue, haccounts⟩
    rw [State.session, hline]
    rfl
  · intro open_
    let g := granted (.unit p) s
    let r := closeMatching .shutdown (fun _ => true) g
    have hexec : exec (.shutdownSessions p) s = .next (giveBack (complete p .ok false [w16 r.2] r.1)) :=
      exec_grantedNext rfl hnext
    obtain ⟨-, hcloses⟩ := fold_closeStep_closes (r := .shutdown) (covers := fun _ => true) rfl (fun _ _ _ => rfl)
      allLines (g, 0)
    obtain ⟨hcount, hrecords, hinput⟩ := fold_closeStep_truncate (r := .shutdown) (covers := fun _ => true) rfl
      allLines allLines_nodup (g, 0)
      (fun c => (congrArg ClassRec.rounding (granted_classRec (.unit p) s c)).trans (ht c))
    have hsession (i : LineId) : g.session i = s.session i := granted_session (.unit p) s i
    have hopen : allLines.filter (g.closesOn fun _ => true) = open_ := List.filter_congr fun i _ => by
      rw [State.closesOn_congr (hsession i), State.closesOn]
      cases s.openSession i <;> rfl
    rw [← closeMatching_eq] at hcloses
    rw [← closeMatching_eq, show closeMatching .shutdown (fun _ => true) g = r from rfl, hopen]
      at hcount hrecords hinput
    have hbilling : g.billing = s.billing := granted_billing (.unit p) s
    have hqueue : g.input = s.input := granted_input (.unit p) s
    rw [Nat.zero_add] at hcount
    rw [hbilling] at hrecords
    rw [hqueue] at hinput
    simp only [hsession] at hinput
    refine ⟨r.1, ?_, fun i x hx => ?_, hrecords, hinput⟩
    · rw [hexec, show r.2 = open_.length from hcount]
    · have hclosed := hcloses i (mem_allLines i) x hx rfl
      exact SessionState.closing_of_not_open hclosed

end Sys2Proof.Machine
end

section
/-! PROOFS. POST CHARGE (R103, R154): the resource units of the session it names, and the charge posted or deferred. -/

namespace Sys2Proof.Machine

/-- POST CHARGE names the session (R154). -/
abbrev Session.namedBy (x : Session) (user serial : Nat) : Prop :=
  serial ≠ 0 ∧ x.state.isCharged = true ∧ x.serial = serial ∧ x.user = user

/-- The session with the units of a POST CHARGE, if it names it (R103). -/
def Session.resourced (user units serial : Nat) (x : Session) : Session :=
  if x.namedBy user serial then { x with resourceUnits := min (x.resourceUnits + units) 4294967295 } else x

theorem Session.charges_iff (x : Session) (user serial : Nat) :
    x.charges user serial = true ↔ x.state.isCharged = true ∧ x.serial = serial ∧ x.user = user := by
  simp [Session.charges, and_assoc]

theorem Session.resourced_zero (user units : Nat) (x : Session) : x.resourced user units 0 = x :=
  if_neg fun h => h.1 rfl

theorem Session.resourced_named {serial : Nat} (user units : Nat) (x : Session) (h : serial ≠ 0) :
    x.resourced user units serial =
      if x.charges user serial then { x with resourceUnits := addHold32 x.resourceUnits units } else x := by
  rw [Session.resourced]
  simp only [Session.namedBy, Session.charges_iff, h, ne_eq, not_false_eq_true, true_and]
  rfl

theorem addResource_eq (user units serial : Nat) (s : State) :
    addResource user units serial s = { s with lines := (addResource user units serial s).lines } := by
  unfold addResource
  split <;> rfl

theorem addResource_line (user units serial : Nat) (s : State) (i : LineId) :
    (addResource user units serial s).line i =
      { s.line i with session := (s.session i).map (Session.resourced user units serial) } := by
  unfold addResource
  split
  · next h =>
    subst h
    have hid : (Session.resourced user units 0) = id := funext (Session.resourced_zero user units)
    rw [hid, Option.map_id]
    rfl
  · next h =>
    have hmap : (fun x : Session => if x.charges user serial then
        { x with resourceUnits := addHold32 x.resourceUnits units } else x) = Session.resourced user units serial :=
      funext fun x => (Session.resourced_named user units x h).symm
    rw [State.mapSessions, State.line_mapLines]
    dsimp only
    rw [hmap]
    rfl

theorem Session.resourced_state (user units serial : Nat) (x : Session) : (x.resourced user units serial).state = x.state := by
  unfold Session.resourced; split <;> rfl

theorem State.openInSession.addResource {s : State} (h : s.openInSession) (user units serial : Nat) :
    (addResource user units serial s).openInSession := fun i y hy => by
  obtain ⟨hsession, hopen⟩ := (State.openSession_iff _ i y).mp hy
  rw [addResource_line] at hsession ⊢
  obtain ⟨x, hx, rfl⟩ := Option.map_eq_some_iff.mp hsession
  rw [Session.resourced_state] at hopen
  exact h i x ((s.openSession_iff i x).mpr ⟨hx, hopen⟩)

/-- The serial of a POST CHARGE is 0, or it names a session of the user (R154). -/
def State.names (s : State) (user serial : Nat) : Prop :=
  serial = 0 ∨ ∃ (i : LineId) (x : Session), s.session i = some x ∧ x.namedBy user serial

theorem State.names_iff (s : State) (user serial : Nat) :
    (serial ≠ 0 ∧ !(allLines.any fun i => (s.session i).any (·.charges user serial))) ↔ ¬ s.names user serial := by
  have hany : (allLines.any fun i => (s.session i).any (·.charges user serial)) = true ↔
      ∃ (i : LineId) (x : Session), s.session i = some x ∧ x.charges user serial = true := by
    simp only [List.any_eq_true, mem_allLines, true_and, Option.any_eq_true]
  rw [State.names, not_or, Bool.not_eq_true', ← Bool.not_eq_true, hany]
  refine and_congr_right fun hne => not_congr (exists_congr fun i => exists_congr fun x => and_congr_right fun _ => ?_)
  rw [Session.charges_iff]
  exact (and_iff_right hne).symm

/-- Settles O49: by the account, the name, the hold state and the deferred charges. -/
theorem postChargePostsOrDefers : Obligations.PostChargePostsOrDefers := by
  intro p u n sr s hnext hn g named found charged
  have hexec : exec (.postCharge p u n sr) s = .next (giveBack (workPostCharge p u.toNat n.toNat sr.toNat g)) :=
    exec_grantedNext rfl hnext
  have hzero : sr.toNat = 0 ↔ sr = 0 := ⟨fun h => BitVec.eq_of_toNat_eq h, fun h => by rw [h]; rfl⟩
  have hsession (i : LineId) : g.session i = s.session i := granted_session (.unit p) s i
  have hfound : g.names u.toNat sr.toNat ↔ found := by
    simp only [State.names, Session.namedBy, hsession, hzero, found, named, ne_eq]
  have hcharged (x : Session) : charged x = x.resourced u.toNat n.toNat sr.toNat := by
    simp only [charged, named, Session.resourced, Session.namedBy, ne_eq, hzero]
  have hdeferred : g.deferred = s.deferred := granted_deferred (.unit p) s
  have hhold : g.hold = s.hold := granted_hold (.unit p) s
  have haccount : g.account u.toNat = s.account u.toNat := granted_account (.unit p) s u.toNat
  rw [hexec, workPostCharge, haccount, List.countP_eq_length_filter, hdeferred]
  refine ⟨fun hnone => by rw [hnone]; rfl, fun a ha => ⟨fun hno => ?_, fun hyes hgranted hfull => ?_,
    fun hyes hgranted hroom => ?_, fun hyes hlaw hplain hfloors => ?_⟩⟩
  · rw [ha]
    dsimp only
    rw [if_pos ((g.names_iff _ _).mpr (mt hfound.mp hno))]
    rfl
  all_goals
    have hnamed : ¬ (sr.toNat ≠ 0 ∧ !(allLines.any fun i => (g.session i).any (·.charges u.toNat sr.toNat))) :=
      fun h => (g.names_iff _ _).mp h (hfound.mpr hyes)
    rw [ha]
    dsimp only
    rw [if_neg hnamed]
  · rw [if_pos (hhold ▸ hgranted), if_pos hfull]
    rfl
  · rw [if_pos (hhold ▸ hgranted), if_neg (Nat.not_le.mpr hroom)]
    let v : State := { g with deferred := s.deferred ++ [⟨u.toNat, n.toNat, .tCharge⟩] }
    let t := addResource u.toNat n.toNat sr.toNat v
    have hframe : t = { v with lines := t.lines } := addResource_eq _ _ _ v
    have hacct : t.account u.toNat = some a := by rw [hframe]; exact haccount.trans ha
    refine ⟨t, ?_, fun i => ?_, hframe⟩
    · rw [← State.balanceWords_eq hacct]; rfl
    · rw [addResource_line, ← granted_line (.unit p) s i, ← granted_session (.unit p) s i, funext hcharged]
      rfl
  · rw [if_neg (hhold ▸ hplain)]
    let v := addResource u.toNat n.toNat sr.toNat g
    have hn : n.toNat ≠ 0 := fun h => hn (BitVec.eq_of_toNat_eq h)
    have hframe : v = { g with lines := v.lines } := addResource_eq _ _ _ g
    have hacct : v.account u.toNat = some a := by rw [hframe]; exact haccount.trans ha
    have habove : v.aboveFloors u.toNat n.toNat := fun b hb c => by
      rw [hacct] at hb
      cases hb
      rw [hframe]
      have hclass : ({ g with lines := v.lines } : State).classRec c = s.classRec c := granted_classRec (.unit p) s c
      rw [hclass]
      exact hfloors c
    have hopen : v.openInSession := by
      refine State.openInSession.addResource (fun i x hx => ?_) _ _ _
      rw [State.openSession, hsession] at hx
      rw [granted_line]
      exact State.openInSession_of_lineLaw hnext.1.1 hlaw i x hx
    obtain ⟨hsent, hwarns⟩ := post_aboveFloors_warns hn habove hopen
    obtain ⟨-, hbilling, -, hqueue⟩ := hsent.beside
    have haccounts := post_aboveFloors_accounts hn habove hopen
    generalize post u.toNat n.toNat v = t at hsent hwarns hbilling hqueue haccounts ⊢
    have hposted : t.account u.toNat = _ :=
      (congrArg (List.find? _) hsent.beside.1).trans (debitBalance_account n.toNat hacct)
    refine ⟨t, ?_, fun i => ?_, ?_, ?_, ?_⟩
    · rw [State.balanceWords_eq hposted]
      rfl
    · obtain ⟨-, sent, hmarks⟩ := (hwarns i).line
      have hline : (debitBalance u.toNat n.toNat v).session i = (s.session i).map charged := by
        rw [funext hcharged, ← granted_session (.unit p) s i]
        exact congrArg LineRec.session (addResource_line _ _ _ g i)
      rw [hmarks, hline, Option.map_map, Option.map_map]
      rfl
    · exact hqueue.trans ((congrArg State.deferred hframe).trans hdeferred)
    · exact hbilling.trans ((congrArg State.billing hframe).trans (granted_billing _ s))
    · refine haccounts.trans ?_
      rw [State.debitedAccounts, show v.accounts = s.accounts from
        (congrArg State.accounts hframe).trans (granted_accounts _ s)]
      simp only [debited, balanceMin, addHold32, Config.max32]

end Sys2Proof.Machine
end

section
/-! PROOFS. The recovery sweep (R163, R164): postings to the accounts, counted by user. -/

namespace Sys2Proof.Machine

/-- An account with u units posted to it, d seconds added, and k sessions of it closed (R71, R86, R134). -/
def Account.tallied (b : Account) (u d k : Nat) : Account :=
  { b with
    balance := debited b.balance u, periodUnits := addHold32 b.periodUnits u
    periodSeconds := addHold32 b.periodSeconds d, openCount := b.openCount - k }

/-- No account is outside the values at which its balance and its period figures hold (R86, R134). -/
def State.tallyBounds (s : State) : Prop :=
  ∀ b ∈ s.accounts, balanceMin ≤ b.balance ∧ b.periodUnits ≤ Config.max32 ∧ b.periodSeconds ≤ Config.max32

/-- Each account is tallied with the units, the seconds and the closes of its user. -/
def State.tallies (s t : State) (units due closes : Nat → Nat) : Prop :=
  t.accounts = s.accounts.map fun b => b.tallied (units b.user) (due b.user) (closes b.user)

theorem Account.tallied_tallied (b : Account) (u v d e k l : Nat) :
    (b.tallied u d k).tallied v e l = b.tallied (u + v) (d + e) (k + l) := by
  simp only [Account.tallied, addHold32_add, Account.mk.injEq, true_and, Nat.sub_sub, and_true, debited]
  omega

theorem Account.tallied_zero {b : Account} (h : balanceMin ≤ b.balance ∧ b.periodUnits ≤ Config.max32 ∧
    b.periodSeconds ≤ Config.max32) : b.tallied 0 0 0 = b := by
  obtain ⟨hbalance, hunits, hseconds⟩ := h
  rw [Account.tallied, addHold32_zero hunits, addHold32_zero hseconds, debited, Int.natCast_zero, Int.sub_zero,
    max_eq_right hbalance]
  rfl

/-- n where v is the user, else 0. -/
def onlyFor (user n v : Nat) : Nat := if user = v then n else 0

section
variable {s t u : State} {units due closes units' due' closes' : Nat → Nat}

theorem State.tallies.tallyBounds (h : s.tallies t units due closes) : t.tallyBounds := by
  intro b hb
  rw [h] at hb
  obtain ⟨a, -, rfl⟩ := List.mem_map.mp hb
  exact ⟨le_max_left .., Nat.min_le_right .., Nat.min_le_right ..⟩

theorem State.tallies.trans (h : s.tallies t units due closes) (k : t.tallies u units' due' closes') :
    s.tallies u (fun v => units v + units' v) (fun v => due v + due' v) fun v => closes v + closes' v := by
  unfold State.tallies at *
  rw [k, h, List.map_map]
  exact List.map_congr_left fun b _ => b.tallied_tallied ..

theorem State.tallies_refl (h : s.tallyBounds) (hsame : t.accounts = s.accounts) :
    s.tallies t (fun _ => 0) (fun _ => 0) fun _ => 0 :=
  (hsame.trans ((List.map_congr_left fun b hb => Account.tallied_zero (h b hb)).trans (List.map_id _)).symm)

theorem State.tallies.congr (h : s.tallies t units due closes) (hu : ∀ v, units' v = units v)
    (hd : ∀ v, due' v = due v) (hc : ∀ v, closes' v = closes v) : s.tallies t units' due' closes' := by
  rwa [funext hu, funext hd, funext hc]

/-- A change of one user's account tallies that account alone. -/
theorem tallies_modAccount (h : s.tallyBounds) (user n d k : Nat) {f : Account → Account}
    (hf : ∀ b ∈ s.accounts, f b = b.tallied n d k) :
    s.tallies (s.modAccount user f) (onlyFor user n) (onlyFor user d) (onlyFor user k) := by
  refine List.map_congr_left fun b hb => ?_
  by_cases huser : b.user = user
  · simp [onlyFor, huser, hf b hb]
  · simp [onlyFor, huser, Ne.symm huser, Account.tallied_zero (h b hb)]

theorem tallies_debitBalance (h : s.tallyBounds) (user n : Nat) :
    s.tallies (debitBalance user n s) (onlyFor user n) (onlyFor user 0) (onlyFor user 0) :=
  tallies_modAccount h user n 0 0 fun b hb => by
    rw [Account.tallied, addHold32_zero (h b hb).2.2, Nat.sub_zero]

theorem tallies_lowerOpenCount (h : s.tallyBounds) (user : Nat) :
    s.tallies (lowerOpenCount user s) (onlyFor user 0) (onlyFor user 0) (onlyFor user 1) :=
  tallies_modAccount h user 0 0 1 fun b hb => by
    obtain ⟨hbalance, hunits, hseconds⟩ := h b hb
    rw [Account.tallied, addHold32_zero hunits, addHold32_zero hseconds, debited, Int.natCast_zero, Int.sub_zero,
      max_eq_right hbalance]

theorem onlyFor_zero (user v : Nat) : onlyFor user 0 v = 0 := ite_self 0

theorem onlyFor_add (user n m v : Nat) : onlyFor user n v + onlyFor user m v = onlyFor user (n + m) v := by
  unfold onlyFor
  split <;> rfl

/-- The deferred entries are posted to the accounts that they name (R163). -/
theorem tallies_deferred (es : List Deferred) (h : s.tallyBounds) :
    s.tallies (es.foldl (fun s e => debitBalance e.user e.units s) s)
      (fun user => ((es.filter fun e => e.user == user).map Deferred.units).sum) (fun _ => 0) fun _ => 0 := by
  induction es generalizing s with
  | nil => exact State.tallies_refl h rfl
  | cons e es ih =>
    have hfirst := tallies_debitBalance h e.user e.units
    refine (hfirst.trans (ih hfirst.tallyBounds)).congr (fun v => ?_) (fun v => ?_) fun v => ?_
    · by_cases huser : e.user = v <;> simp [onlyFor, huser]
    · rw [onlyFor_zero]
    · rw [onlyFor_zero]

/-- Seconds paid are a tally of seconds alone. -/
theorem State.pays.tallies (h : s.tallyBounds) (hpays : s.pays t due) :
    s.tallies t (fun _ => 0) due fun _ => 0 := by
  refine Eq.trans hpays (List.map_congr_left fun b hb => ?_)
  obtain ⟨hbalance, hunits, -⟩ := h b hb
  rw [Account.tallied, addHold32_zero hunits, debited, Int.natCast_zero, Int.sub_zero, max_eq_right hbalance,
    Nat.sub_zero]

end

end Sys2Proof.Machine
end

section
/-! PROOFS. The recovery sweep of one line (R163, R164): what it posts, the record that it writes, and the seconds that
come to be due. -/

namespace Sys2Proof.Machine

/-! ### What the sweep changes -/

/-- Beside lines, accounts, free values, the records with their sequence, and the seconds due, the states agree. -/
def State.sweepFrame (s t : State) : Prop := t = { s with
  lines := t.lines, accounts := t.accounts, freeIndex := t.freeIndex
  billing := { t.billing with reservations := s.billing.reservations }
  engine := { s.engine with secondsDue := t.engine.secondsDue } }

theorem State.sweepFrame.trans {s t u : State} (h : s.sweepFrame t) (k : t.sweepFrame u) : s.sweepFrame u := by
  unfold State.sweepFrame at *
  rw [k, h]

/-! ### A session as the sweep settles it -/

/-- The sweep writes a billing record for the session. -/
def Session.bills (x : Session) : Bool := x.state.isOpen || x.work == some .pending

/-- A session as the sweep bills it: an open one is closed with POWER at its last metered stamp (R163). -/
def Session.powered (x : Session) : Session :=
  if x.state.isOpen then Session.closed .power x.lastMetered x else x

/-- The unit that close rounding adds to the session (R141). -/
def State.roundingUnit (s : State) (x : Session) : Nat :=
  if (s.classRec x.cls).rounding.extra x.residue then 1 else 0

/-- The record that the sweep writes for session x of line i. -/
def State.sweepRecord (s : State) (i : LineId) (x : Session) (r : BillingRecord) : Prop :=
  ∃ cu q, (x.connectUnits < 4294967295 → cu = x.connectUnits + s.roundingUnit x) ∧
    r = recordOf i { x.powered with connectUnits := cu } (decide (s.roundingUnit x = 1)) q

/-! ### The account work of the sweep -/

theorem sweepPost_eq (user n : Nat) (s : State) :
    sweepPost user n s = { s with accounts := (sweepPost user n s).accounts } := by
  unfold sweepPost
  split <;> rfl

theorem tallies_sweepPost {s : State} (h : s.tallyBounds) (user n : Nat) :
    s.tallies (sweepPost user n s) (onlyFor user n) (onlyFor user 0) (onlyFor user 0) := by
  unfold sweepPost
  split
  · next hzero =>
    subst hzero
    exact (State.tallies_refl h rfl).congr (onlyFor_zero user) (onlyFor_zero user) (onlyFor_zero user)
  · exact tallies_debitBalance h user n

/-- The sum of R141 for the connect units of a record: a free value where the field is full. -/
theorem addStated_spec (k : Config.Unstated) (n : Nat) (s : State) :
    (addStated k n 1 s).2 = { s with freeIndex := (addStated k n 1 s).2.freeIndex } ∧
      (n < 4294967295 → (addStated k n 1 s).1 = n + 1) := by
  refine ⟨?_, fun h => by rw [addStated_room k s h]⟩
  unfold addStated
  split <;> rfl

theorem State.recordLatched_of_starting {s : State} (h : s.aPort.starting = true) : s.recordLatched = s.aPort := by
  unfold State.recordLatched
  simp [PortUnit.latch, h]

/-- The account work of the sweep: the charges posted, the record written, and the open count lowered (R163). -/
structure State.sweepWorked (s t : State) (x : Session) (r : BillingRecord) : Prop where
  frame : s.sweepFrame t
  lines : t.lines = s.lines
  secondsDue : t.engine.secondsDue = s.engine.secondsDue
  records : t.billing.records = s.billing.records ++ [r]
  sequence : t.billing.sequence = nextCounter s.billing.sequence
  numbered : r.sequence = s.billing.sequence
  tallies : s.tallyBounds →
    s.tallies t (onlyFor x.user (x.unpostedUnits + s.roundingUnit x)) (onlyFor x.user 0) (onlyFor x.user 1)

theorem sweepWork_worked {s : State} (hport : s.aPort.starting = true) (i : LineId) (x : Session) :
    ∃ cu, (x.connectUnits < 4294967295 → cu = x.connectUnits + s.roundingUnit x) ∧
      s.sweepWorked (sweepWork i x s) x
        (recordOf i { x with connectUnits := cu } (decide (s.roundingUnit x = 1)) s.billing.sequence) := by
  unfold sweepWork
  extract_lets s1 up cu s2
  have h1 : s1 = { s with accounts := s1.accounts } := sweepPost_eq ..
  have hround : s.roundingUnit x = if up then 1 else 0 := by unfold up; rw [h1]; rfl
  have hup : decide (s.roundingUnit x = 1) = up := by rw [hround]; cases up <;> rfl
  have hcu : cu.2 = { s1 with freeIndex := cu.2.freeIndex } ∧
      (x.connectUnits < 4294967295 → cu.1 = x.connectUnits + s.roundingUnit x) := by
    rw [hround]
    unfold cu
    cases up
    · exact ⟨rfl, fun _ => rfl⟩
    · exact addStated_spec ..
  have h2 : s2 = { cu.2 with accounts := s2.accounts } := by unfold s2; split <;> rfl
  have hsame : s2 = { s with accounts := s2.accounts, freeIndex := cu.2.freeIndex } := by rw [h2, hcu.1, h1]
  have hposted (h : s.tallyBounds) :
      s.tallies s2 (onlyFor x.user (x.unpostedUnits + s.roundingUnit x)) (fun _ => 0) fun _ => 0 := by
    have hfirst : s.tallies s1 _ _ _ := tallies_sweepPost h x.user x.unpostedUnits
    have hcount : s.tallies cu.2 _ _ _ := hfirst.trans (State.tallies_refl hfirst.tallyBounds (by rw [hcu.1]))
    have hlast : cu.2.tallies s2 (onlyFor x.user (s.roundingUnit x)) (onlyFor x.user 0) (onlyFor x.user 0) := by
      rw [hround]
      unfold s2
      cases up
      · exact tallies_sweepPost hcount.tallyBounds x.user 0
      · exact tallies_debitBalance hcount.tallyBounds x.user 1
    refine (hcount.trans hlast).congr (fun v => ?_) (fun v => ?_) fun v => ?_
    · rw [Nat.add_zero, onlyFor_add]
    all_goals simp only [onlyFor_zero, Nat.add_zero]
  have hlatched : s2.recordLatched = s.aPort := by
    rw [State.recordLatched_of_starting (by rw [hsame]; exact hport), hsame]
  clear_value s2
  refine ⟨cu.1, hcu.2, ?_⟩
  rw [hup, writeRecord_eq, hlatched]
  refine ⟨?_, ?_, ?_, ?_, ?_, rfl, fun h => ?_⟩
  · rw [hsame]; rfl
  · rw [hsame]; rfl
  · rw [hsame]; rfl
  · rw [hsame]; rfl
  · rw [hsame]; rfl
  · refine ((hposted h).trans (tallies_lowerOpenCount (s := { s2 with
      aPort := s.aPort
      billing := { s2.billing with
        records := s2.billing.records ++ [recordOf i { x with connectUnits := cu.1 } up s2.billing.sequence]
        sequence := nextCounter s2.billing.sequence } }) (hposted h).tallyBounds x.user)).congr
      (fun v => ?_) (fun v => ?_) fun v => ?_
    all_goals simp only [onlyFor_zero, Nat.add_zero, Nat.zero_add]

end Sys2Proof.Machine
end

section
/-! PROOFS. The recovery sweep of the lines in order (R163, R164). -/

namespace Sys2Proof.Machine

/-- What line i's session part adds to the figure f of the user. -/
def State.shareOf (s : State) (user : Nat) (f : Session → Nat) (i : LineId) : Nat :=
  (s.session i).elim 0 fun x => if x.user = user then f x else 0

/-- The units that the sweep posts for a session (R163, R141). -/
def State.sweepUnits (s : State) (x : Session) : Nat := if x.bills then x.unpostedUnits + s.roundingUnit x else 0

/-- 1 for a session whose close work the sweep does. -/
def Session.billedOnce (x : Session) : Nat := if x.bills then 1 else 0

/-- The user's seconds in the seconds-due list (R134). -/
def State.dueOf (s : State) (user : Nat) : Nat :=
  ((s.engine.secondsDue.filter fun e => e.user == user).map DueEntry.seconds).sum

/-- The sweep writes a record for line i. -/
def State.billsAt (s : State) (i : LineId) : Bool := (s.session i).any Session.bills

/-- The record is one that the sweep writes for line i. -/
def State.sweepRecordAt (s : State) (i : LineId) (r : BillingRecord) : Prop :=
  ∃ x, s.session i = some x ∧ s.sweepRecord i x r

/-- The records carry the sequences from q on (R173). -/
def numberedFrom (q : Nat) (rs : List BillingRecord) : Prop :=
  ∀ (k : Nat) (r : BillingRecord), rs[k]? = some r → r.sequence = nextCounter^[k] q

theorem numberedFrom_nil (q : Nat) : numberedFrom q [] := fun k r h => by simp at h

theorem numberedFrom_single {q : Nat} {r : BillingRecord} (h : r.sequence = q) : numberedFrom q [r] := by
  intro k b hb
  cases k with
  | zero => exact Option.some.inj hb ▸ h
  | succ k => simp at hb

theorem numberedFrom.append {q : Nat} {rs qs : List BillingRecord} (h : numberedFrom q rs)
    (k : numberedFrom (nextCounter^[rs.length] q) qs) : numberedFrom q (rs ++ qs) := by
  intro n r hr
  by_cases hn : n < rs.length
  · exact h n r (by rwa [List.getElem?_append_left hn] at hr)
  · rw [List.getElem?_append_right (Nat.le_of_not_lt hn)] at hr
    have hlast := k _ r hr
    rwa [← Function.iterate_add_apply, Nat.sub_add_cancel (Nat.le_of_not_lt hn)] at hlast

/-- What the sweep of the lines `is`, in that order, makes of s. -/
structure State.sweptOver (s t : State) (is : List LineId) : Prop where
  frame : s.sweepFrame t
  swept : ∀ i ∈ is, t.line i = { s.line i with session := none }
  others : ∀ i ∉ is, t.line i = s.line i
  due : ∀ user, t.dueOf user = s.dueOf user + (is.map (s.shareOf user Session.unpostedSeconds)).sum
  tallies : s.tallyBounds → s.tallies t (fun user => (is.map (s.shareOf user s.sweepUnits)).sum) (fun _ => 0)
    fun user => (is.map (s.shareOf user Session.billedOnce)).sum
  records : ∃ rs, t.billing.records = s.billing.records ++ rs ∧
    List.Forall₂ s.sweepRecordAt (is.filter s.billsAt) rs ∧ numberedFrom s.billing.sequence rs
  sequence : t.billing.sequence = nextCounter^[(is.filter s.billsAt).length] s.billing.sequence

theorem State.sweptOver_nil (s : State) : s.sweptOver s [] where
  frame := rfl
  swept := fun _ h => absurd h List.not_mem_nil
  others := fun _ _ => rfl
  due := fun _ => rfl
  tallies := fun h => State.tallies_refl h rfl
  records := ⟨[], (List.append_nil _).symm, .nil, numberedFrom_nil _⟩
  sequence := rfl

/-- Lines swept after others stand as they did until then. -/
theorem State.sweptOver.append {s t u : State} {is js : List LineId} (h : s.sweptOver t is) (k : t.sweptOver u js)
    (hdisjoint : is.Disjoint js) : s.sweptOver u (is ++ js) := by
  have hline {j : LineId} (hj : j ∈ js) : t.line j = s.line j := h.others j fun hi => hdisjoint hi hj
  have hsession {j : LineId} (hj : j ∈ js) : t.session j = s.session j := congrArg LineRec.session (hline hj)
  have hshare (f : Session → Nat) (user : Nat) : js.map (t.shareOf user f) = js.map (s.shareOf user f) :=
    List.map_congr_left fun j hj => by rw [State.shareOf, State.shareOf, hsession hj]
  have hround : t.roundingUnit = s.roundingUnit := by funext x; rw [h.frame]; rfl
  have hunits : t.sweepUnits = s.sweepUnits := by funext x; rw [State.sweepUnits, State.sweepUnits, hround]
  have hbills : js.filter t.billsAt = js.filter s.billsAt :=
    List.filter_congr fun j hj => by rw [State.billsAt, State.billsAt, hsession hj]
  have hrecord (j : LineId) (r : BillingRecord) : t.sweepRecordAt j r → s.sweepRecordAt j r := by
    rintro ⟨x, hx, cu, q, hcu, hr⟩
    have hj : j ∉ is := fun hi => by rw [State.session, h.swept j hi] at hx; contradiction
    rw [hround] at hcu hr
    exact ⟨x, (congrArg LineRec.session (h.others j hj)).symm.trans hx, cu, q, hcu, hr⟩
  obtain ⟨rs, hrs, hfor, hnum⟩ := h.records
  obtain ⟨qs, hqs, hfor', hnum'⟩ := k.records
  have hlength := hfor.length_eq
  refine ⟨h.frame.trans k.frame, fun i hi => ?_, fun i hi => ?_, fun user => ?_, fun hb => ?_, ⟨rs ++ qs, ?_, ?_, ?_⟩, ?_⟩
  · rcases List.mem_append.mp hi with hi | hi
    · exact (k.others i (hdisjoint hi)).trans (h.swept i hi)
    · exact (k.swept i hi).trans (by rw [hline hi])
  · rw [List.mem_append, not_or] at hi
    exact (k.others i hi.2).trans (h.others i hi.1)
  · rw [k.due, h.due, hshare, List.map_append, List.sum_append, Nat.add_assoc]
  · have hfirst := h.tallies hb
    refine (hfirst.trans (k.tallies hfirst.tallyBounds)).congr (fun v => ?_) (fun v => rfl) fun v => ?_
    · rw [List.map_append, List.sum_append, hunits, hshare]
    · rw [List.map_append, List.sum_append, hshare]
  · rw [hqs, hrs, List.append_assoc]
  · rw [List.filter_append]
    refine List.rel_append hfor ?_
    rw [hbills] at hfor'
    exact hfor'.imp hrecord
  · refine hnum.append ?_
    rwa [← hlength, ← h.sequence]
  · rw [k.sequence, h.sequence, hbills, List.filter_append, List.length_append, Nat.add_comm,
      Function.iterate_add_apply]

/-! ### The sweep of one line -/

theorem Session.powered_fields (x : Session) : x.powered.user = x.user ∧ x.powered.unpostedUnits = x.unpostedUnits ∧
    x.powered.connectUnits = x.connectUnits ∧ x.powered.cls = x.cls ∧ x.powered.residue = x.residue := by
  unfold Session.powered
  split <;> exact ⟨rfl, rfl, rfl, rfl, rfl⟩

/-- The sweep of a line with a session part. -/
theorem sweepLine_some {s : State} {i : LineId} {x : Session} (hx : s.session i = some x) :
    sweepLine i s =
      (sweepSeconds x (if x.bills then sweepWork i x.powered s else s)).modLine i fun l => { l with session := none } := by
  unfold sweepLine
  rw [hx]
  by_cases hopen : x.state.isOpen = true <;> simp [Session.bills, Session.powered, hopen]

/-- The record and the postings of a line's close work. -/
theorem sweptWork_spec {s : State} (hport : s.aPort.starting = true) {i : LineId} {x : Session}
    (hx : s.session i = some x) :
    let t := if x.bills then sweepWork i x.powered s else s
    s.sweepFrame t ∧ t.lines = s.lines ∧ t.engine.secondsDue = s.engine.secondsDue ∧
      (s.tallyBounds → s.tallies t (onlyFor x.user (s.sweepUnits x)) (fun _ => 0) (onlyFor x.user x.billedOnce)) ∧
      (∃ rs, t.billing.records = s.billing.records ++ rs ∧
        List.Forall₂ s.sweepRecordAt ([i].filter s.billsAt) rs ∧ numberedFrom s.billing.sequence rs) ∧
      t.billing.sequence = nextCounter^[([i].filter s.billsAt).length] s.billing.sequence := by
  have hat : s.billsAt i = x.bills := by rw [State.billsAt, hx]; rfl
  simp only [List.filter_singleton, hat]
  unfold State.sweepUnits Session.billedOnce
  cases hbills : x.bills
  · exact ⟨rfl, rfl, rfl, fun h => (State.tallies_refl h rfl).congr (onlyFor_zero _) (fun _ => rfl) (onlyFor_zero _),
      ⟨[], (List.append_nil _).symm, .nil, numberedFrom_nil _⟩, rfl⟩
  · simp only [if_true]
    obtain ⟨huser, hunits, hconnect, hcls, hresidue⟩ := x.powered_fields
    have hround : s.roundingUnit x.powered = s.roundingUnit x := by
      rw [State.roundingUnit, State.roundingUnit, hcls, hresidue]
    obtain ⟨cu, hcu, hwork⟩ := sweepWork_worked hport i x.powered
    rw [hround] at hcu hwork
    have htallies := hwork.tallies
    rw [huser, hunits, hround] at htallies
    refine ⟨hwork.frame, hwork.lines, hwork.secondsDue, fun h => (htallies h).congr (fun _ => rfl)
      (fun v => (onlyFor_zero _ v).symm) fun _ => rfl,
      ⟨_, hwork.records, ?_, numberedFrom_single hwork.numbered⟩, hwork.sequence⟩
    exact .cons ⟨x, hx, cu, _, by rwa [hconnect] at hcu, rfl⟩ .nil

theorem sweepSeconds_spec (x : Session) (s : State) :
    sweepSeconds x s = { s with engine := { s.engine with secondsDue := (sweepSeconds x s).engine.secondsDue } } ∧
      ∀ user, (sweepSeconds x s).dueOf user = s.dueOf user + onlyFor x.user x.unpostedSeconds user := by
  unfold sweepSeconds
  split
  · refine ⟨rfl, fun user => ?_⟩
    by_cases huser : x.user = user <;> simp [State.dueOf, onlyFor, huser]
  · next hzero =>
    rw [Nat.eq_zero_of_not_pos hzero]
    exact ⟨rfl, fun user => by rw [onlyFor_zero]; rfl⟩

theorem sweepLine_swept {s : State} (hport : s.aPort.starting = true) (i : LineId) :
    s.sweptOver (sweepLine i s) [i] := by
  have hothers {t : State} (h : s.sameLinesBut t i) (j : LineId) (hj : j ∉ [i]) : t.line j = s.line j :=
    h j (List.ne_of_not_mem_cons hj)
  cases hx : s.session i with
  | none =>
    have hsame : sweepLine i s = s := by unfold sweepLine; rw [hx]
    have hnone (user : Nat) (f : Session → Nat) : ([i].map (s.shareOf user f)).sum = 0 := by simp [State.shareOf, hx]
    have hfilter : [i].filter s.billsAt = [] := by simp [State.billsAt, hx]
    rw [hsame]
    exact
      { frame := rfl
        swept := fun j hj => by
          obtain rfl := List.mem_singleton.mp hj
          rw [← hx]; rfl
        others := fun _ _ => rfl
        due := fun user => by rw [hnone]; rfl
        tallies := fun h => (State.tallies_refl h rfl).congr (hnone · _) (fun _ => rfl) (hnone · _)
        records := ⟨[], (List.append_nil _).symm, by rw [hfilter]; exact .nil, numberedFrom_nil _⟩
        sequence := by rw [hfilter]; rfl }
  | some x =>
    have hshare (user : Nat) (f : Session → Nat) : ([i].map (s.shareOf user f)).sum = onlyFor x.user (f x) user := by
      simp [State.shareOf, hx, onlyFor]
    obtain ⟨hframe, hlines, hdue, htallies, hrecords, hsequence⟩ := sweptWork_spec hport hx
    rw [sweepLine_some hx]
    generalize (if x.bills then sweepWork i x.powered s else s) = w at *
    obtain ⟨hseconds, hadded⟩ := sweepSeconds_spec x w
    generalize sweepSeconds x w = v at *
    have hvlines : v.lines = s.lines := by rw [hseconds]; exact hlines
    have hvline (j : LineId) : v.line j = s.line j := congrArg (Bank.get · j) hvlines
    refine
      { frame := hframe.trans (by unfold State.sweepFrame; rw [hseconds]; rfl)
        swept := fun j hj => ?_
        others := hothers fun j hj => (State.line_modLine_ne _ _ hj.symm).trans (hvline j)
        due := fun user => ?_
        tallies := fun h => ?_
        records := ?_
        sequence := ?_ }
    · obtain rfl := List.mem_singleton.mp hj
      rw [State.line_modLine, hvline]
    · rw [hshare, show (v.modLine i _).dueOf user = v.dueOf user from rfl, hadded, State.dueOf, hdue]
      rfl
    · refine State.tallies.congr ?_ (hshare · _) (fun _ => rfl) (hshare · _)
      exact Eq.trans (by rw [hseconds]; rfl) (htallies h)
    · rw [hseconds]; exact hrecords
    · rw [hseconds]; exact hsequence

theorem State.sweepFrame.starting {s t : State} (h : s.sweepFrame t) (hport : s.aPort.starting = true) :
    t.aPort.starting = true := by
  rw [h]; exact hport

theorem fold_sweepLine_swept (is : List LineId) (hnodup : is.Nodup) {s : State} (hport : s.aPort.starting = true) :
    s.sweptOver (is.foldl (fun s i => sweepLine i s) s) is := by
  induction is generalizing s with
  | nil => exact s.sweptOver_nil
  | cons i is ih =>
    obtain ⟨hi, his⟩ := List.nodup_cons.mp hnodup
    have hfirst := sweepLine_swept hport i
    exact hfirst.append (ih his (hfirst.frame.starting hport)) (List.singleton_disjoint.mpr hi)

end Sys2Proof.Machine
end

section
/-! PROOFS. Power-up (R162 to R164, R189): the whole recovery sweep on the operating plane at its defaults. -/

namespace Sys2Proof.Machine

/-! ### The recovery sweep -/

/-- The units of a user that wait in the deferred entries. -/
def State.deferredUnits (s : State) (user : Nat) : Nat :=
  ((s.deferred.filter fun e => e.user == user).map Deferred.units).sum

/-- The units posted to a user by the sweep, deferred entries included (R163). -/
def State.unitsSwept (s : State) (user : Nat) : Nat :=
  s.deferredUnits user + (allLines.map (s.shareOf user s.sweepUnits)).sum

/-- The seconds added for a user by the sweep (R163). -/
def State.secondsSwept (s : State) (user : Nat) : Nat :=
  s.dueOf user + (allLines.map (s.shareOf user Session.unpostedSeconds)).sum

/-- The closes counted for a user by the sweep (R163). -/
def State.closesSwept (s : State) (user : Nat) : Nat := (allLines.map (s.shareOf user Session.billedOnce)).sum

/-- What the recovery sweep makes of s (R163, R164). -/
structure State.recovered (s t : State) : Prop where
  frame : t = { s with
    lines := t.lines, accounts := t.accounts, freeIndex := t.freeIndex
    billing := { t.billing with reservations := s.billing.reservations }
    deferred := [], engine := { s.engine with secondsDue := [] }
    hold := { s.hold with state := .none, limit := none, passInGranted := false } }
  line : ∀ i, t.line i = { s.line i with session := none }
  tallies : s.tallyBounds → s.tallies t s.unitsSwept s.secondsSwept s.closesSwept
  records : ∃ rs, t.billing.records = s.billing.records ++ rs ∧
    List.Forall₂ s.sweepRecordAt (allLines.filter s.billsAt) rs ∧ numberedFrom s.billing.sequence rs
  sequence : t.billing.sequence = nextCounter^[(allLines.filter s.billsAt).length] s.billing.sequence

theorem sweepDeferred_eq (s : State) :
    sweepDeferred s = { s with accounts := (sweepDeferred s).accounts, deferred := [] } := by
  have hfold (es : List Deferred) (u : State) : es.foldl (fun s e => debitBalance e.user e.units s) u =
      { u with accounts := (es.foldl (fun s e => debitBalance e.user e.units s) u).accounts } := by
    induction es generalizing u with
    | nil => rfl
    | cons e es ih => rw [List.foldl_cons, ih]; rfl
  unfold sweepDeferred
  rw [hfold]

theorem tallies_payDueList {s : State} (h : s.tallyBounds) :
    s.tallies (payDueList s) (fun _ => 0) s.dueOf fun _ => 0 :=
  State.pays.tallies h (pays_payDueList fun b hb => (h b hb).2.2)

/-- What the first three steps of the sweep post, add and count (R163). -/
theorem sweep_tallies {s d w : State} (hfirst : s.tallies d s.deferredUnits (fun _ => 0) fun _ => 0)
    (hswept : d.sweptOver w allLines) (hunits : d.sweepUnits = s.sweepUnits) (hshare : d.shareOf = s.shareOf)
    (hdue : d.dueOf = s.dueOf) :
    s.tallies (payDueList w) s.unitsSwept s.secondsSwept s.closesSwept := by
  have hlines := hswept.tallies hfirst.tallyBounds
  refine ((hfirst.trans hlines).trans (tallies_payDueList hlines.tallyBounds)).congr (fun v => ?_) (fun v => ?_)
    fun v => ?_
  · rw [hunits, hshare, State.unitsSwept, Nat.add_zero]
  · rw [hswept.due v, hshare, hdue, Nat.zero_add, State.secondsSwept]
  · rw [hshare, Nat.zero_add, Nat.add_zero, State.closesSwept]

theorem sweep_recovered {s : State} (hport : s.aPort.starting = true) : s.recovered (sweep s) := by
  have hdeferred := sweepDeferred_eq s
  have hposted (h : s.tallyBounds) : s.tallies (sweepDeferred s) s.deferredUnits (fun _ => 0) fun _ => 0 :=
    tallies_deferred s.deferred h
  generalize hd : sweepDeferred s = d at hdeferred hposted
  have hswept : d.sweptOver (d.forLines sweepLine) allLines :=
    fold_sweepLine_swept allLines allLines_nodup (by rw [hdeferred]; exact hport)
  have htallies (h : s.tallyBounds) :
      s.tallies (payDueList (d.forLines sweepLine)) s.unitsSwept s.secondsSwept s.closesSwept :=
    sweep_tallies (hposted h) hswept (by funext x; rw [hdeferred]; rfl) (by funext user f i; rw [hdeferred]; rfl)
      (by funext user; rw [hdeferred]; rfl)
  unfold sweep
  rw [hd]
  generalize d.forLines sweepLine = w at hswept htallies
  have hpaid := payDueList_eq w
  generalize payDueList w = y at hpaid htallies
  have hframe := hswept.frame
  unfold State.sweepFrame at hframe
  refine ⟨?_, fun i => ?_, htallies, ?_, ?_⟩
  · rw [hpaid, hframe, hdeferred]
  · rw [hpaid]
    refine (hswept.swept i (mem_allLines i)).trans ?_
    rw [hdeferred]; rfl
  · have h := hswept.records
    rw [hdeferred] at h
    rw [hpaid]
    exact h
  · have h := hswept.sequence
    rw [hdeferred] at h
    rw [hpaid]
    exact h

/-! ### The operating plane at its defaults -/

theorem operatingReset_line (s : State) (i : LineId) :
    (operatingReset s).line i = { LineRec.initial with session := s.session i } := Bank.get_ofFn _ i

/-- The state in which the recovery sweep of a power-up begins. -/
def State.restarted (s : State) : State := { operatingReset s with mainPower := true }

theorem State.restarted_session (s : State) (i : LineId) : s.restarted.session i = s.session i := by
  have hline := congrArg LineRec.session (operatingReset_line s i)
  exact hline

theorem State.restarted_shareOf (s : State) : s.restarted.shareOf = s.shareOf := by
  funext user f i
  rw [State.shareOf, State.restarted_session]
  rfl

theorem State.restarted_billsAt (s : State) : s.restarted.billsAt = s.billsAt := by
  funext i
  rw [State.billsAt, State.restarted_session]
  rfl

theorem finishAccess_none {s : State} (h : s.arbiter.grant = none) : finishAccess s = s := by
  unfold finishAccess
  rw [h]

/-- The end of the sweep: the starting marks clear, and the level causes latch (R189). -/
theorem endSweep_eq (s : State) : endSweep s = { s with
    tPort := { s.tPort with starting := false, latches := s.tPort.latches ||| s.levelWord .t }
    aPort := { s.aPort with starting := false, latches := s.aPort.latches ||| s.levelWord .a } } := rfl

/-- No T level cause holds where the input queue is empty and every line is at its defaults (R28, R39). -/
theorem levelWord_initial {s : State} (hinput : s.input = []) (hline : ∀ i, s.line i = LineRec.initial) :
    s.levelWord .t = 0 := by
  have hspace : s.spaceCond = false := by
    refine List.any_eq_false.mpr fun i _ => ?_
    rw [hline]
    decide
  rw [State.levelWord, State.inputCond, hinput, hspace]
  rfl

end Sys2Proof.Machine
end

section
/-! PROOFS. Main power fails and returns with no access in progress (R162 to R164, R167, R172, R173, R189). -/

namespace Sys2Proof.Machine

theorem exec_mainPowerFailure (s : State) :
    exec .mainPowerFailure s = .next { operatingReset (finishAccess s) with mainPower := false } := rfl

theorem exec_mainPowerUp (s : State) :
    exec .mainPowerUp s = .next (endSweep (sweep (finishAccess s).restarted)) := rfl

/-- RESET while powered does what the return of main power does (R189). -/
theorem exec_reset {s : State} (h : s.mainPower = true) : exec .reset s = exec .mainPowerUp s :=
  exec_powered (c := .reset) (f := powerUp) rfl h

/-! ### The records of the sweep -/

/-- What a record that the sweep writes shows (R172, R174, R175). -/
structure BillingRecord.showsSwept (r : BillingRecord) (i : LineId) (x : Session) (up : Nat) : Prop where
  line : r.line = i
  serial : r.serial = x.serial
  user : r.user = x.user
  connectSeconds : r.connectSeconds = x.connectSeconds
  heldSeconds : r.heldSeconds = x.heldSeconds
  connectUnits : x.connectUnits < 4294967295 → r.connectUnits = x.connectUnits + up
  roundedUp : r.roundedUp = decide (up = 1)
  openStamp : r.openStamp = x.openStamp
  ofOpen : x.state.isOpen = true → r.reason = .power ∧ r.closeStamp = x.lastMetered ∧
    (x.openStamp.distance x.lastMetered = x.connectSeconds + x.heldSeconds → r.stampsAgree = true)
  ofClosed : x.state.isOpen = false → ∀ (why : CloseReason) (at_ : Stamp), x.closeReason = some why →
    x.closeStamp = some at_ → r.reason = why ∧ r.closeStamp = at_

theorem State.sweepRecord.shows {s : State} {i : LineId} {x : Session} {r : BillingRecord}
    (h : s.sweepRecord i x r) : r.showsSwept i x (s.roundingUnit x) := by
  obtain ⟨cu, q, hcu, rfl⟩ := h
  unfold Session.powered
  cases hopen : x.state.isOpen
  · refine ⟨rfl, rfl, rfl, rfl, rfl, hcu, rfl, rfl, fun h => absurd (hopen.symm.trans h) Bool.false_ne_true,
      fun _ why at_ hwhy hat => ?_⟩
    simp [recordOf, hwhy, hat]
  · refine ⟨rfl, rfl, rfl, rfl, rfl, hcu, rfl, rfl, fun _ => ⟨rfl, rfl, fun hsum => ?_⟩,
      fun h => absurd (h.symm.trans hopen) Bool.false_ne_true⟩
    simp [BillingRecord.stampsAgree, recordOf, Session.closed, hsum]

/-- The records stand in the order of their lines. -/
theorem sweepRecords_lines {s : State} {is : List LineId} {rs : List BillingRecord}
    (h : List.Forall₂ s.sweepRecordAt is rs) : rs.map (·.line) = is := by
  have hline : List.Forall₂ (fun i r => i = r.line) is rs := h.imp fun i r ⟨x, _, hr⟩ => hr.shows.line.symm
  rw [← List.forall₂_map_right_iff, List.forall₂_eq_eq_eq] at hline
  exact hline.symm

/-- Each line for which the sweep writes a record has its own among them. -/
theorem sweepRecords_mem {s : State} {is : List LineId} {rs : List BillingRecord}
    (h : List.Forall₂ s.sweepRecordAt is rs) {i : LineId} (hi : i ∈ is) : ∃ r ∈ rs, s.sweepRecordAt i r := by
  induction h with
  | nil => exact absurd hi List.not_mem_nil
  | cons hr _ ih =>
    rcases List.mem_cons.mp hi with rfl | hi
    · exact ⟨_, List.mem_cons_self, hr⟩
    · obtain ⟨b, hb, hat⟩ := ih hi
      exact ⟨b, List.mem_cons_of_mem _ hb, hat⟩

/-! ### The state after power-up -/

theorem State.roundingUnit_eq (s : State) (x : Session) : s.roundingUnit x =
    match (s.classRec x.cls).rounding with
    | .truncate => 0
    | .halfUp => if 3000 ≤ x.residue then 1 else 0
    | .ceiling => if 0 < x.residue then 1 else 0 := by
  unfold State.roundingUnit
  cases (s.classRec x.cls).rounding <;> simp [Rounding.extra]

/-- The account table after the sweep, with the numbers of R70, R86 and R134 written out. -/
theorem recovered_accounts {s t : State} (h : s.restarted.recovered t)
    (hbounds : ∀ b ∈ s.accounts, -8388608 ≤ b.balance ∧ b.periodUnits ≤ 4294967295 ∧ b.periodSeconds ≤ 4294967295) :
    t.accounts = s.accounts.map fun b => b.tallied (s.unitsSwept b.user) (s.secondsSwept b.user)
      (s.closesSwept b.user) := by
  have htallies : s.restarted.tallies t _ _ _ := h.tallies hbounds
  unfold State.unitsSwept State.secondsSwept State.closesSwept at *
  rw [State.restarted_shareOf] at htallies
  exact htallies

/-- What the sweep adds to the billing store (R172, R173). -/
structure State.billsSwept (s t : State) : Prop where
  kept : t.billing.records.take s.billing.records.length = s.billing.records
  length : t.billing.records.length = s.billing.records.length + (allLines.filter s.billsAt).length
  lines : (t.billing.records.drop s.billing.records.length).map (·.line) = allLines.filter s.billsAt
  numbered : ∀ (k : Nat) (r : BillingRecord), t.billing.records[s.billing.records.length + k]? = some r →
    r.sequence = nextCounter^[k] s.billing.sequence
  sequence : t.billing.sequence = nextCounter^[(allLines.filter s.billsAt).length] s.billing.sequence
  shown : ∀ (i : LineId) (x : Session), s.session i = some x → x.bills = true →
    ∃ r ∈ t.billing.records.drop s.billing.records.length, r.showsSwept i x (s.roundingUnit x)

theorem recovered_bills {s t : State} (h : s.restarted.recovered t) : s.billsSwept t := by
  obtain ⟨rs, hrs, hfor, hnum⟩ := h.records
  have hsequence := h.sequence
  rw [State.restarted_billsAt] at hfor hsequence
  rw [show s.restarted.billing.records = s.billing.records from rfl] at hrs
  have hdrop : t.billing.records.drop s.billing.records.length = rs := by rw [hrs, List.drop_left]
  refine ⟨?_, ?_, ?_, fun k r hr => ?_, hsequence, fun i x hx hbills => ?_⟩
  · rw [hrs, List.take_left]
  · rw [hrs, List.length_append, hfor.length_eq]
  · rw [hdrop]; exact sweepRecords_lines hfor
  · rw [hrs, List.getElem?_append_right (Nat.le_add_right _ _), Nat.add_sub_cancel_left] at hr
    exact hnum k r hr
  · have hi : i ∈ allLines.filter s.billsAt :=
      List.mem_filter.mpr ⟨mem_allLines i, by rw [State.billsAt, hx]; exact hbills⟩
    obtain ⟨r, hr, y, hy, hrecord⟩ := sweepRecords_mem hfor hi
    obtain rfl : x = y := Option.some.inj (hx.symm.trans ((State.restarted_session s i).symm.trans hy))
    rw [hdrop]
    exact ⟨r, hr, hrecord.shows⟩

end Sys2Proof.Machine
end

section
/-! PROOFS. An access to the account table (R92) leaves the hold and the supply: command accesses and the verdict. -/

namespace Sys2Proof.Machine

/-- The hold and the supply stand. -/
structure State.keepsPower (s t : State) : Prop where
  hold : t.hold = s.hold
  mainPower : t.mainPower = s.mainPower

section
variable {s t u : State}

theorem State.keepsPower.refl (s : State) : s.keepsPower s := ⟨rfl, rfl⟩

theorem State.keepsPower.trans (h : s.keepsPower t) (k : t.keepsPower u) : s.keepsPower u :=
  ⟨k.hold.trans h.hold, k.mainPower.trans h.mainPower⟩

/-- The step before it changes neither. -/
theorem State.keepsPower.ofBeside (k : t.keepsPower u) (hhold : t.hold = s.hold) (hpower : t.mainPower = s.mainPower) :
    s.keepsPower u :=
  ⟨k.hold.trans hhold, k.mainPower.trans hpower⟩

theorem State.workFrame.keepsPower (h : s.workFrame t) : s.keepsPower t := by
  unfold State.workFrame at h
  exact ⟨by rw [h], by rw [h]⟩

theorem keepsPower_ite {c : Prop} [Decidable c] (h : s.keepsPower t) (k : s.keepsPower u) :
    s.keepsPower (if c then t else u) := by
  split <;> assumption

end

theorem keepsPower_complete (s : State) (p : PortId) (st : Status) (cl : Bool) (f : List Word) :
    s.keepsPower (complete p st cl f s) := by
  rw [complete_eq]
  cases p <;> exact ⟨rfl, rfl⟩

theorem keepsPower_refuse (s : State) (p : PortId) (st : Status) : s.keepsPower (refuse p st s) :=
  keepsPower_complete s p st false []

theorem keepsPower_post (s : State) (user n : Nat) : s.keepsPower (post user n s) := (workFrame_post s user n).keepsPower

theorem keepsPower_closeMatching (s : State) (r : CloseReason) (covers : Session → Bool) :
    s.keepsPower (closeMatching r covers s).1 := (workFrame_closeMatching r covers s).keepsPower

/-! ### The accesses of the commands -/

theorem keepsPower_clearTransport (s : State) : s.keepsPower (clearTransport s) := ⟨rfl, rfl⟩

theorem keepsPower_restartLineWork (s : State) : s.keepsPower (restartLineWork s) := by
  unfold restartLineWork
  extract_lets testing w s1 s2 s3
  have h1 : s.keepsPower s1 := ⟨rfl, rfl⟩
  have h2 : s.keepsPower s2 := (h1.trans (lineFrame_forLines lineFrame_restartLine s1).work.keepsPower).trans
    (keepsPower_clearTransport _)
  have h3 : s.keepsPower s3 := keepsPower_ite (h2.trans (keepsPower_refuse s2 .t _)) h2
  exact h3.trans (lineFrame_rejudge s3).work.keepsPower

theorem keepsPower_startWatchTimer (s : State) : s.keepsPower (startWatchTimer s) := keepsPower_ite ⟨rfl, rfl⟩ (.refl s)

theorem keepsPower_completeRestart (p : PortId) (n : Nat) (s : State) : s.keepsPower (completeRestart p n s) := by
  unfold completeRestart
  exact (((keepsPower_complete s p _ _ _).trans (workFrame_latchA _ _).keepsPower).trans
    (lineFrame_latchT _ _).work.keepsPower).trans (keepsPower_startWatchTimer _)

theorem keepsPower_workRestart (p : PortId) (s : State) : s.keepsPower (workRestart p s) := by
  have hserved : s.keepsPower (serveCloseWork s) :=
    (workFrame_fold (fun s _ => workFrame_closeWorkAccess s) s.engine.closeWork s).keepsPower
  unfold workRestart
  exact ((hserved.trans (keepsPower_closeMatching _ _ _)).trans (keepsPower_restartLineWork _)).trans
    (keepsPower_completeRestart p _ _)

theorem keepsPower_workLogoff (p : PortId) (i : LineId) (serial : Nat) (s : State) :
    s.keepsPower (workLogoff p i serial s) := by
  unfold workLogoff
  split
  · exact keepsPower_refuse s p _
  · have hwork := (workFrame_closeDecision s .logoff s.clock.stamp i).trans
      (workFrame_accountWork (fun user u s => workFrame_post s user u) i _)
    exact (hwork.trans (lineFrame_enterClosing _ i).work).keepsPower.trans (keepsPower_complete _ p _ _ _)

theorem keepsPower_addResource (user units serial : Nat) (s : State) : s.keepsPower (addResource user units serial s) :=
  keepsPower_ite (.refl s) ⟨rfl, rfl⟩

theorem keepsPower_workPostCharge (p : PortId) (user units serial : Nat) (s : State) :
    s.keepsPower (workPostCharge p user units serial s) := by
  unfold workPostCharge
  split
  · exact keepsPower_refuse s p _
  · extract_lets s1 s2
    have h1 : s.keepsPower s1 := (keepsPower_addResource user units serial _).ofBeside rfl rfl
    have h2 : s.keepsPower s2 := (keepsPower_addResource user units serial s).trans (keepsPower_post _ user units)
    exact keepsPower_ite (keepsPower_refuse s p _) (keepsPower_ite
      (keepsPower_ite (keepsPower_refuse s p _) (h1.trans (keepsPower_complete s1 p _ _ _)))
      (h2.trans (keepsPower_complete s2 p _ _ _)))

theorem keepsPower_workSuspend (p : PortId) (user : Nat) (logout : Bool) (s : State) :
    s.keepsPower (workSuspend p user logout s) := by
  unfold workSuspend
  split
  · exact keepsPower_refuse s p _
  · extract_lets s1 r
    have hr : s.keepsPower r.1 := by
      unfold r
      split
      · exact (keepsPower_closeMatching s1 _ _).ofBeside rfl rfl
      · exact ⟨rfl, rfl⟩
    exact hr.trans (keepsPower_complete _ p _ _ _)

/-- The table work of a command that changes accounts alone, or is refused. -/
theorem keepsPower_accountWork (p : PortId) (s : State) :
    (∀ user k check limit balance, s.keepsPower (workAccountAdd p user k check limit balance s)) ∧
      (∀ user k check limit, s.keepsPower (workAccountSet p user k check limit s)) ∧
      (∀ user, s.keepsPower (workAccountDelete p user s)) ∧ (∀ user n, s.keepsPower (workCredit p user n s)) ∧
      (∀ user n, s.keepsPower (workDebit p user n s)) ∧ (∀ user, s.keepsPower (workResume p user s)) ∧
      (∀ user, s.keepsPower (workUnlock p user s)) ∧ (∀ user, s.keepsPower (workReadAccount p user s)) ∧
      (∀ user, s.keepsPower (workSweep p user s)) ∧ s.keepsPower (workClosePeriod p s) := by
  refine ⟨fun user k check limit balance => ?_, fun user k check limit => ?_, fun user => ?_, fun user n => ?_,
    fun user n => ?_, fun user => ?_, fun user => ?_, fun user => ?_, fun user => ?_, ?_⟩
  · exact keepsPower_ite (keepsPower_refuse s p _)
      (keepsPower_ite (keepsPower_refuse s p _) ((keepsPower_complete _ p _ _ _).ofBeside rfl rfl))
  · unfold workAccountSet
    split
    · exact keepsPower_refuse s p _
    · exact (keepsPower_complete _ p _ _ _).ofBeside rfl rfl
  · unfold workAccountDelete
    split
    · exact keepsPower_refuse s p _
    · exact keepsPower_ite (keepsPower_refuse s p _) ((keepsPower_complete _ p _ _ _).ofBeside rfl rfl)
  · unfold workCredit
    split
    · exact keepsPower_refuse s p _
    · exact (workFrame_creditPosting s user n).keepsPower.trans (keepsPower_complete _ p _ _ _)
  · unfold workDebit
    split
    · exact keepsPower_refuse s p _
    · exact (keepsPower_post s user n).trans (keepsPower_complete _ p _ _ _)
  · unfold workResume
    split
    · exact keepsPower_refuse s p _
    · exact (keepsPower_complete _ p _ _ _).ofBeside rfl rfl
  · unfold workUnlock
    split
    · exact keepsPower_refuse s p _
    · exact (keepsPower_complete _ p _ _ _).ofBeside rfl rfl
  · unfold workReadAccount
    split
    · exact keepsPower_refuse s p _
    · exact keepsPower_complete s p _ _ _
  · unfold workSweep
    split
    · exact keepsPower_refuse s p _
    · exact keepsPower_complete s p _ _ _
  · exact keepsPower_ite ((keepsPower_complete _ p _ _ _).ofBeside rfl rfl) (keepsPower_refuse s p _)

theorem keepsPower_commandAccess (p : PortId) (c : Instr) (s : State) : s.keepsPower (commandAccess p c s) := by
  obtain ⟨hadd, hset, hdelete, hcredit, hdebit, hresume, hunlock, hread, hsweep, hperiod⟩ := keepsPower_accountWork p s
  unfold commandAccess
  split
  case h_1 =>
    split
    · exact hadd ..
    · exact keepsPower_refuse s p _
  case h_2 =>
    split
    · exact hset ..
    · exact keepsPower_refuse s p _
  case h_3 => exact hdelete _
  case h_4 => exact hcredit ..
  case h_5 => exact hdebit ..
  case h_6 => exact keepsPower_workSuspend p _ _ s
  case h_7 => exact hresume _
  case h_8 => exact hunlock _
  case h_9 => exact hread _
  case h_10 => exact hsweep _
  case h_11 => exact hperiod
  case h_12 =>
    split
    · exact keepsPower_workLogoff p _ _ s
    · exact keepsPower_refuse s p _
  case h_13 => exact (keepsPower_closeMatching s .shutdown fun _ => true).trans (keepsPower_complete _ p _ _ _)
  case h_14 => exact keepsPower_workPostCharge p _ _ _ s
  case h_15 => exact keepsPower_workRestart p s
  case h_16 => exact .refl s

/-! ### The verdict -/

theorem keepsPower_badAttempt (i : LineId) (s : State) : s.keepsPower (badAttempt i s) :=
  ((lineFrame_modLine s i _).trans (lineFrame_kick _ i)).work.keepsPower

theorem keepsPower_refuseCaller (i : LineId) (slot : Nat) (s : State) : s.keepsPower (refuseCaller i slot s) :=
  ((lineFrame_modLine s i _).trans (lineFrame_kick _ i)).work.keepsPower

theorem keepsPower_openSessionOn (i : LineId) (part : SignOnPart) (a : Account) (s : State) :
    s.keepsPower (openSessionOn i part a s) := by
  unfold openSessionOn
  extract_lets setup s1 s2 serial s3 x s4 s5
  have h1 : s.keepsPower s1 := ⟨rfl, rfl⟩
  have h2 : s.keepsPower s2 :=
    (h1.trans (keepsPower_post s1 _ _)).trans (lineFrame_leaveCheckQueue _ i).work.keepsPower
  have h4 : s.keepsPower s4 := ⟨h2.hold, h2.mainPower⟩
  exact h4.trans (((workFrame_placeInput s4 _).trans (lineFrame_kick _ i).work).trans
    (lineFrame_fundsWarning _ [] a.user).work).keepsPower

theorem keepsPower_judgeActive (i : LineId) (part : SignOnPart) (a : Account) (s : State) :
    s.keepsPower (judgeActive i part a s) := by
  unfold judgeActive
  split
  · exact (keepsPower_refuseCaller i _ _).ofBeside rfl rfl
  · exact keepsPower_ite (keepsPower_openSessionOn i part a s) ⟨rfl, rfl⟩

theorem keepsPower_wrongCheckWord (a : Account) (s : State) : s.keepsPower (wrongCheckWord a s) :=
  keepsPower_ite (keepsPower_ite ((workFrame_latchA _ _).keepsPower.ofBeside rfl rfl) ⟨rfl, rfl⟩) (.refl s)

theorem keepsPower_verdictFor (i : LineId) (s : State) : s.keepsPower (verdictFor i s) := by
  have hrefuse : s.keepsPower (refuseCaller i 4 (leaveCheckQueue i s)) :=
    (keepsPower_refuseCaller i 4 _).ofBeside rfl rfl
  unfold verdictFor
  split
  · exact ⟨rfl, rfl⟩
  · split
    · exact (keepsPower_badAttempt i _).ofBeside rfl rfl
    · next a _ =>
      refine keepsPower_ite ((keepsPower_wrongCheckWord a s).trans ((keepsPower_badAttempt i _).ofBeside rfl rfl)) ?_
      split
      · exact keepsPower_judgeActive i _ a s
      · exact hrefuse
      · exact keepsPower_ite ((keepsPower_judgeActive i _ _ _).ofBeside rfl rfl) hrefuse

theorem keepsPower_verdictAccess (s : State) : s.keepsPower (verdictAccess s) := by
  unfold verdictAccess
  split
  · exact .refl s
  · exact keepsPower_verdictFor _ s

end Sys2Proof.Machine
end

section
/-! PROOFS. A power event during an access (R92, R125): it answers what it answers after the access. -/

namespace Sys2Proof.Machine

/-! ### The recovery sweep does not read the hold -/

theorem writeRecord_hold (r : Nat → BillingRecord) (s : State) (h : Hold) :
    writeRecord r { s with hold := h } = { writeRecord r s with hold := h } := by
  rw [writeRecord_eq, writeRecord_eq]
  rfl

theorem sweepWork_hold (i : LineId) (x : Session) (s : State) (h : Hold) :
    sweepWork i x { s with hold := h } = { sweepWork i x s with hold := h } := by
  have hpost (n : Nat) : sweepPost x.user n { s with hold := h } = { sweepPost x.user n s with hold := h } := by
    unfold sweepPost
    split <;> rfl
  have hsum (n : Nat) (v : State) : addStated .connectUnits n 1 { v with hold := h } =
      ((addStated .connectUnits n 1 v).1, { (addStated .connectUnits n 1 v).2 with hold := h }) := by
    unfold addStated
    split <;> rfl
  unfold sweepWork
  rw [hpost]
  generalize sweepPost x.user x.unpostedUnits s = v
  dsimp only
  rw [show ({ v with hold := h } : State).classRec x.cls = v.classRec x.cls from rfl]
  cases (v.classRec x.cls).rounding.extra x.residue
  · simp only [Bool.false_eq_true, if_false, writeRecord_hold]
    rfl
  · simp only [if_true, hsum]
    rw [show debitBalance x.user 1 { (addStated .connectUnits x.connectUnits 1 v).2 with hold := h } =
      { debitBalance x.user 1 (addStated .connectUnits x.connectUnits 1 v).2 with hold := h } from rfl, writeRecord_hold]
    rfl

theorem sweepSeconds_hold (x : Session) (s : State) (h : Hold) :
    sweepSeconds x { s with hold := h } = { sweepSeconds x s with hold := h } := by
  unfold sweepSeconds
  split <;> rfl

theorem sweepLine_hold (i : LineId) (s : State) (h : Hold) :
    sweepLine i { s with hold := h } = { sweepLine i s with hold := h } := by
  cases hx : s.session i with
  | none =>
    unfold sweepLine
    rw [hx, show ({ s with hold := h } : State).session i = none from hx]
  | some x =>
    rw [sweepLine_some hx, sweepLine_some (s := { s with hold := h }) hx, sweepWork_hold]
    cases x.bills
    · simp only [Bool.false_eq_true, if_false, sweepSeconds_hold]
      rfl
    · simp only [if_true, sweepSeconds_hold]
      rfl

theorem fold_sweepLine_hold (is : List LineId) (s : State) (h : Hold) :
    is.foldl (fun s i => sweepLine i s) { s with hold := h } =
      { is.foldl (fun s i => sweepLine i s) s with hold := h } := by
  induction is generalizing s with
  | nil => rfl
  | cons i is ih => rw [List.foldl_cons, List.foldl_cons, sweepLine_hold, ih]

theorem sweepDeferred_hold (s : State) (h : Hold) :
    sweepDeferred { s with hold := h } = { sweepDeferred s with hold := h } := by
  have hfold (es : List Deferred) (u : State) : es.foldl (fun s e => debitBalance e.user e.units s) { u with hold := h } =
      { es.foldl (fun s e => debitBalance e.user e.units s) u with hold := h } := by
    induction es generalizing u with
    | nil => rfl
    | cons e es ih => rw [List.foldl_cons, List.foldl_cons, ← ih]; rfl
  unfold sweepDeferred
  rw [hfold]

theorem payDueList_hold (s : State) (h : Hold) : payDueList { s with hold := h } = { payDueList s with hold := h } := by
  have hfold (es : List DueEntry) (u : State) :
      es.foldl (fun s e => addPeriodSeconds e.user e.seconds s) { u with hold := h } =
        { es.foldl (fun s e => addPeriodSeconds e.user e.seconds s) u with hold := h } := by
    induction es generalizing u with
    | nil => rfl
    | cons e es ih => rw [List.foldl_cons, List.foldl_cons, ← ih]; rfl
  unfold payDueList
  rw [hfold]

/-- The recovery sweep takes of the hold the timer alone, which is as the loss of the operating plane left it. -/
theorem sweep_hold (s : State) {h : Hold} (htimer : h.timer = s.hold.timer) : sweep { s with hold := h } = sweep s := by
  have hlines : (sweepDeferred s).forLines sweepLine = { (sweepDeferred s).forLines sweepLine with hold := s.hold } := by
    unfold State.forLines
    rw [← fold_sweepLine_hold, ← sweepDeferred_hold]
  have hsweep (k : Hold) : sweep { s with hold := k } =
      { payDueList ((sweepDeferred s).forLines sweepLine) with hold := ⟨.none, none, k.timer, false⟩ } := by
    unfold sweep State.forLines
    rw [sweepDeferred_hold, fold_sweepLine_hold, payDueList_hold]
  rw [hsweep, htimer, ← hsweep s.hold]

/-! ### The table given back -/

/-- Power-up takes the hold, the arbiter, the A port and the access due of R134 at their defaults, whatever they were. -/
theorem restarted_giveBack (s : State) (a : Arbiter) :
    sweep ({ giveBack s with arbiter := a } : State).restarted = sweep (makeInstalls s).restarted := by
  refine Eq.trans ?_ (sweep_hold (makeInstalls s).restarted (h := { (giveBack s).hold with timer := none }) rfl)
  rw [giveBack_eq]
  rfl

end Sys2Proof.Machine
end

section
/-! PROOFS. The four power events (R162 to R164, R167, R189). -/

namespace Sys2Proof.Machine

/-! ### An access in progress -/

/-- An access in progress is made by its row and carried to its end by a power event alike; the row then gives the table
back. -/
theorem finishAccess_of_access {c : Instr} {s t : State} (hpower : s.mainPower = true)
    (hgrant : (c = .verdict ∧ s.arbiter.grant = some .checker) ∨
      (c = .commandTableAccess ∧ ∃ p : PortId, s.arbiter.grant = some (.unit p)))
    (ht : exec c s = .next t) :
    ∃ v, s.keepsPower v ∧ finishAccess s = makeInstalls v ∧ t = giveBack v := by
  rcases hgrant with ⟨rfl, hg⟩ | ⟨rfl, p, hg⟩
  · refine ⟨verdictAccess s, keepsPower_verdictAccess s, by rw [finishAccess, hg], ?_⟩
    have hnext : s.nextGrant = some .checker := by rw [State.nextGrant, hg]
    rw [exec_powered (f := verdictGranted) rfl hpower, verdictGranted, if_pos hnext, granted, if_pos hg] at ht
    exact (Host.Outcome.next.inj ht).symm
  · have hnext : s.nextGrant = some (.unit p) := by rw [State.nextGrant, hg]
    have hserved : serveGranted s = serve p s := by rw [serveGranted, hnext]
    rw [exec_powered (f := serveGranted) rfl hpower, hserved, serve, granted, if_pos hg] at ht
    have ht' := (Host.Outcome.next.inj ht).symm
    have hfinish : finishAccess s = makeInstalls ((s.waitingCommand p).elim s fun c => commandAccess p c s) := by
      rw [finishAccess, hg]
    cases hwait : s.waitingCommand p with
    | none => exact ⟨s, .refl s, hfinish.trans (by rw [hwait]; rfl), by rw [ht', hwait]⟩
    | some d => exact ⟨commandAccess p d s, keepsPower_commandAccess p d s, hfinish.trans (by rw [hwait]; rfl),
        by rw [ht', hwait]⟩

/-- The state after the table was given back, with nobody granted. -/
def State.tableFree (s : State) : State := { giveBack s with arbiter := { (giveBack s).arbiter with grant := none } }

theorem mainPowerUp_tableFree {s v : State} (hfinish : finishAccess s = makeInstalls v) :
    exec .mainPowerUp s = exec .mainPowerUp v.tableFree := by
  rw [exec_mainPowerUp, exec_mainPowerUp, hfinish, finishAccess_none (s := v.tableFree) rfl, State.tableFree,
    restarted_giveBack]

theorem mainPowerFailure_tableFree {s v : State} (hfinish : finishAccess s = makeInstalls v)
    (hplain : v.hold.state ≠ .granted ∨ v.hold.timer ≠ some 0) (hreleasing : v.hold.state ≠ .releasing) :
    exec .mainPowerFailure s = exec .mainPowerFailure v.tableFree := by
  rw [exec_mainPowerFailure, exec_mainPowerFailure, hfinish, finishAccess_none (s := v.tableFree) rfl, State.tableFree,
    giveBack_plain hplain hreleasing, arbitrate_eq]
  rfl

/-! ### The whole plane after power-up -/

/-- The ports, the lines and the retained plane when the sweep of a power-up has ended. -/
theorem endSweep_spec {s v : State} (h : s.restarted.recovered v) :
    (∀ i, v.line i = LineRec.initial) ∧
      (endSweep v).tPort = { PortUnit.initial with starting := false } ∧
      (endSweep v).aPort = { PortUnit.initial with starting := false, latches := v.levelWord .a } := by
  have hline (i : LineId) : v.line i = LineRec.initial :=
    (h.line i).trans (by rw [show s.restarted.line i = _ from operatingReset_line s i]; rfl)
  have hframe := h.frame
  have ht : v.tPort = PortUnit.initial := by rw [hframe]; rfl
  have ha : v.aPort = PortUnit.initial := by rw [hframe]; rfl
  have hword : v.levelWord .t = 0 := levelWord_initial (by rw [hframe]; rfl) hline
  refine ⟨hline, ?_, ?_⟩
  · rw [endSweep_eq, ht, hword]
    rfl
  · rw [endSweep_eq, ha, show (PortUnit.initial.latches ||| v.levelWord .a) = v.levelWord .a from BitVec.zero_or]

theorem State.billingWord_eq (s : State) : s.levelWord .a =
    ((if s.billing.records = [] then 0 else bitWord ACause.billing.bit) |||
      (if 80 ≤ s.billing.records.length then bitWord ACause.billingHigh.bit else 0) |||
      (if s.clockInvalid then bitWord ACause.clockInvalid.bit else 0)) := by
  unfold State.levelWord State.billingCond State.billingHighCond
  cases s.billing.records <;> simp [Config.billingHigh]

/-- Settles O53: the operating plane by its defaults, the sweep of a power-up by what it makes of each line in order
(`sweep_recovered`), and an access in progress by its end. -/
theorem powerEventsKeepTheRetainedPlane : Obligations.PowerEventsKeepTheRetainedPlane := by
  unfold Obligations.PowerEventsKeepTheRetainedPlane
  refine ⟨fun s hgrant => ?_, fun s hgrant => ?_, fun c s t hpower hgrant ht => ?_, fun s hoff => ?_, fun s => rfl, rfl,
    rfl, rfl, rfl, rfl, rfl, fun i => Bank.get_replicate ..⟩
  · rw [exec_mainPowerFailure, finishAccess_none hgrant]
    exact ⟨_, rfl, rfl, ⟨rfl, rfl, rfl, rfl, rfl, rfl, rfl, rfl⟩, rfl, rfl, rfl, rfl, rfl, rfl, rfl, rfl, rfl, rfl, rfl,
      rfl, rfl, rfl, fun g => Bank.get_replicate .., fun k => Bank.get_replicate .., operatingReset_line s⟩
  · intro bills up total units due
    have hup : up = s.roundingUnit := funext fun x => (s.roundingUnit_eq x).symm
    have hunits : units = s.unitsSwept := by unfold units; rw [hup]; rfl
    have h : s.restarted.recovered (sweep s.restarted) := sweep_recovered rfl
    have hexec : exec .mainPowerUp s = .next (endSweep (sweep s.restarted)) := by
      rw [exec_mainPowerUp, finishAccess_none hgrant]
    generalize sweep s.restarted = v at h hexec
    obtain ⟨hline, htPort, haPort⟩ := endSweep_spec h
    obtain ⟨hkept, hlength, hlines, hnumbered, hsequence, hshown⟩ := recovered_bills h
    have hframe := h.frame
    refine ⟨endSweep v, hexec, ?_, ?_, htPort, ?_, ?_, ?_, ?_, ?_, ?_, ?_, ?_, ?_, ?_, ?_, ?_, fun g => ?_, fun k => ?_, ?_,
      ?_, ?_, ?_, ?_, hline, fun hbounds => ?_, hkept, hlength, hlines, hnumbered, hsequence, fun i x hx hbills => ?_,
      fun hpower => (exec_reset hpower).trans hexec⟩
    case refine_3 =>
      rw [haPort, v.billingWord_eq, show v.clockInvalid = s.clockInvalid by rw [hframe]; rfl]
      rfl
    case refine_15 => rw [hframe]; exact Bank.get_replicate ..
    case refine_16 => rw [hframe]; exact Bank.get_replicate ..
    case refine_22 =>
      rw [hunits]
      have haccounts := recovered_accounts h hbounds
      exact haccounts
    case refine_23 =>
      obtain ⟨r, hr, hshows⟩ := hshown i x hx hbills
      rw [hup]
      exact ⟨r, hr, hshows.line, hshows.serial, hshows.user, hshows.connectSeconds, hshows.heldSeconds,
        hshows.connectUnits, hshows.roundedUp, hshows.openStamp, hshows.ofOpen, hshows.ofClosed⟩
    all_goals
      rw [hframe]
      rfl
  · obtain ⟨v, hkeeps, hfinish, rfl⟩ := finishAccess_of_access hpower hgrant ht
    have hup := mainPowerUp_tableFree hfinish
    have hfree : v.tableFree.mainPower = true := by
      rw [State.tableFree, giveBack_eq]
      exact hkeeps.mainPower.trans hpower
    refine ⟨hup, ?_, fun hreleasing hplain => mainPowerFailure_tableFree hfinish ?_ ?_⟩
    · exact (exec_reset hpower).trans (hup.trans (exec_reset hfree).symm)
    · rwa [hkeeps.hold]
    · rwa [hkeeps.hold]
  · exact congrArg Host.Outcome.next (whenPowered_off hoff powerUp)

end Sys2Proof.Machine
end
